-- ==== Sys2Proof/Word.lean ====
section
/-! DEFINITION. The byte a port carries and the numbers that name a channel, a tank, an entry and a side. -/

namespace Sys2Proof

/-- One byte on a port's line (R163). -/
abbrev Byte := BitVec 8

/-- A hose channel, 0 to 3 (R72). -/
abbrev Chan := Fin 4

/-- A receiving tank, 0 to 11 (R18). -/
abbrev TankNo := Fin 12

/-- An entry id, the plan slot's number, 0 to 15 (R1). -/
abbrev EntryId := Fin 16

/-- A side: the barge console on Port B or the ship station on Port S. The same two names stand for the ports and for the
two ESD loops (00 "Terms", R150). -/
inductive Side where
  | barge
  | ship
  deriving DecidableEq, Repr, Inhabited

/-- The side not named (00 "Sides and ports"). -/
def Side.other : Side → Side
  | .barge => .ship
  | .ship => .barge

end Sys2Proof
end

