-- ==== Sys2Proof/Config.lean ====
section
/-! DEFINITION. The site configuration with its defaults (R73, R97, R112, R175), and the free values: what the manual leaves
open, as constants without a body, so that nothing can be proved of their values. -/

namespace Sys2Proof

/-- A channel's priority group (R73). -/
inductive PriorityGroup where
  | high
  | low
  deriving DecidableEq, Repr, Inhabited

/-- The header policy (R97). -/
inductive HeaderPolicy where
  | hold
  | release
  deriving DecidableEq, Repr, Inhabited

/-- The priority policy (R112). -/
inductive PriorityPolicy where
  | fixed
  | grouped
  deriving DecidableEq, Repr, Inhabited

/-- The ten configuration fields of a channel, in the order of R73. -/
structure ChannelConfig where
  grade : Nat
  strokeTime : Nat
  hoseDrain : Nat
  kFactor : Nat
  hoseMaxRate : Nat
  minFlow : Nat
  pressureMax : Nat
  strainWarn : Nat
  strainTrip : Nat
  group : PriorityGroup
  deriving DecidableEq, Repr, Inhabited

/-- The four header fields, in the order of R97. -/
structure HeaderConfig where
  capacity : Nat
  policy : HeaderPolicy
  primeTime : Nat
  waitLimit : Nat
  deriving DecidableEq, Repr, Inhabited

/-- The eight device-wide items, in the order of R175. -/
structure DeviceConfig where
  linkSilence : Nat
  consentWindow : Nat
  staleTime : Nat
  blindLimit : Nat
  strainDwell : Nat
  sourceLowLimit : Nat
  stallTime : Nat
  reconFloor : Nat
  deriving DecidableEq, Repr, Inhabited

/-- The configuration of the part: what the running configuration, a snapshot and the stored copy hold (R175). -/
structure SiteConfig where
  channels : Vector ChannelConfig 4
  header : HeaderConfig
  priority : PriorityPolicy
  device : DeviceConfig
  deriving DecidableEq, Repr, Inhabited

/-- The defaults of R73. -/
def ChannelConfig.default : ChannelConfig :=
  { grade := 1, strokeTime := 30, hoseDrain := 0, kFactor := 1000, hoseMaxRate := 2000, minFlow := 200,
    pressureMax := 1000, strainWarn := 300, strainTrip := 450, group := .high }

/-- The defaults of R97. -/
def HeaderConfig.default : HeaderConfig :=
  { capacity := 3000, policy := .release, primeTime := 60, waitLimit := 120 }

/-- The defaults of R175. -/
def DeviceConfig.default : DeviceConfig :=
  { linkSilence := 5, consentWindow := 60, staleTime := 20, blindLimit := 60, strainDwell := 3, sourceLowLimit := 60,
    stallTime := 20, reconFloor := 500 }

/-- The default configuration: the default of every item (R175). -/
def SiteConfig.default : SiteConfig :=
  { channels := #v[ChannelConfig.default, ChannelConfig.default, ChannelConfig.default, ChannelConfig.default],
    header := HeaderConfig.default, priority := .fixed, device := DeviceConfig.default }

/-- What a store write cut off by a loss of supply has left in the stored copy (R176, R178). -/
inductive CutWrite where
  /-- nothing written yet: the earlier copy stands as it was -/
  | untouched
  /-- part-written: the copy fails its check -/
  | partWritten
  /-- all written: the copy is the snapshot with its check word -/
  | complete
  deriving DecidableEq, Repr, Inhabited

/-- FREE VALUE: what a time stamp holds where a sum of seconds passes the 32 bits it is held in (00 "Time" states none);
applied to the sum. Log 4. -/
opaque Config.stampBeyond : Nat → BitVec 32

/-- FREE VALUE: whether a silence's withdrawal is taken before its shutdown: "The two events of step 5 may be taken in either
order" (R166). Applied to the free-value counter. Log 10. -/
opaque Config.silenceWithdrawsFirst : Nat → Bool

/-- FREE VALUE: what a write in flight at a loss of supply has left: "may leave the stored copy part-written" (R178, table).
Applied to the free-value counter. Log 7. -/
opaque Config.cutWrite : Nat → CutWrite

/-- FREE VALUE: the items of a copy that is part-written or whose verify differs: "whatever was written, not relied on"
(R178). Applied to the free-value counter. Log 7. -/
opaque Config.unreliedItems : Nat → SiteConfig

/-- FREE VALUE: the check word beside such a copy, before it is told apart from the word worked over its items (R178). Applied to the
free-value counter. Log 7. -/
opaque Config.unreliedWord : Nat → BitVec 32

/-- FREE VALUE: the bytes of an item whose type R174's table does not give, or whose value passes its type's size. Log 12. -/
opaque Config.untypedField : Int → List Byte

/-- FREE VALUE: how an absent item is "reported absent" (R17, R169). Log 12. -/
opaque Config.absentField : List Byte

/-- FREE VALUE: how the items of a notice or of a record read are laid out in a body; R174 gives the layout of requests and of a reply's
first bytes. Applied to the KIND code and the items' bytes. Log 12. -/
opaque Config.arrange : Byte → List (List Byte) → List Byte

/-- FREE VALUE: the check word worked over a configuration; the manual names a 32-bit check word and gives no way of working
it (R175). Log 6. -/
opaque Config.checkWord : SiteConfig → BitVec 32

end Sys2Proof
end

