-- ==== Sys2Proof/Syntax.lean ====
section
/-! DEFINITION. The commands of the part: one constructor per row of the opcode table, with the operands the row's rule gives
it; and the requests a station's frame can carry, field by field (R168, R174). -/

namespace Sys2Proof

/-- A delivery mode (R2). -/
inductive Mode where
  | demand
  | batch
  | slug
  deriving DecidableEq, Repr, Inhabited

/-- The ship's lineup declaration (R2, R15). -/
inductive Lineup where
  | ready
  | notReady
  deriving DecidableEq, Repr, Inhabited

/-- The quality the ship gives a reading (R35). -/
inductive Quality where
  | good
  | suspect
  deriving DecidableEq, Repr, Inhabited

/-- One strapping point: a level in mm and a volume in L (R22). -/
structure Point where
  level : Nat
  volume : Nat
  deriving DecidableEq, Repr, Inhabited

/-- The eight declared fields of a tank, in the order of R18. -/
structure TankDecl where
  grade : Nat
  hHi : Nat
  hHihi : Nat
  slosh : Nat
  toppingVolume : Nat
  toppingRate : Nat
  slugVolume : Nat
  stepLimit : Nat
  deriving DecidableEq, Repr, Inhabited

/-- The 25 request kinds of R168. -/
inductive RequestKind where
  | status | readEntry | readTank | readChannel | readTrip
  | propose | endorse | stop | pause | continue_ | silence
  | tankdef | strapSeek | strapPut | strapSeal | level | lineup | entryEnd
  | chconfig | headerconfig | priority | arm | mask | hose | store
  deriving DecidableEq, Repr, Inhabited

/-- A proposal kind and its body as a frame carries them, ranges not yet checked (R129). -/
inductive RawProposal where
  | plan (channel tank allotment planRate : Nat) (mode : Mode)
  | amend (entry allotment planRate : Nat)
  | cancel (entry : Nat)
  | start (channel : Nat)
  | clear (code : Nat)
  | init
  deriving DecidableEq, Repr, Inhabited

/-- A request whose body has its kind's length and holds an encoding of each field's type (R167 step 4, R168, R174).
Numbers are as sent: the owning rule checks their ranges. -/
inductive Request where
  | status
  | readEntry (entry : Nat)
  | readTank (tank : Nat)
  | readChannel (channel : Nat)
  | readTrip
  | propose (proposal : RawProposal)
  | endorse (id : Nat) (proposal : RawProposal)
  /-- `channel` is as sent; 255 names all channels (R174). -/
  | stop (channel : Nat)
  | pause (channel : Nat)
  | continue_ (channel : Nat)
  | silence
  | tankdef (tank : Nat) (decl : TankDecl)
  | strapSeek (tank index : Nat)
  /-- The count and all four point places (R168). -/
  | strapPut (count : Nat) (p0 p1 p2 p3 : Point)
  | strapSeal (count check : Nat)
  | level (tank level : Nat) (quality : Quality) (hi hihi : Bool)
  | lineup (entry : Nat) (value : Lineup)
  | entryEnd (entry : Nat)
  | chconfig (channel : Nat) (config : ChannelConfig)
  | headerconfig (header : HeaderConfig) (device : DeviceConfig)
  | priority (policy : PriorityPolicy)
  | arm (channel : Nat)
  | mask (channel : Nat)
  | hose (channel : Nat)
  | store
  deriving DecidableEq, Repr, Inhabited

/-- Why a frame is discarded (R163, R164). -/
inductive DiscardCause where
  | byteError
  | badLength
  | badCrc
  deriving DecidableEq, Repr, Inhabited

/-- The field inputs of one channel, as read at power-on (R179 step 1). -/
structure ChannelInputs where
  openLimit : Bool
  closedLimit : Bool
  pressure : Nat
  tension : Nat
  sourceLow : Bool
  deriving DecidableEq, Repr, Inhabited

/-- Every field input, as read at power-on (R179 step 1). -/
structure FieldInputs where
  channels : Vector ChannelInputs 4
  loopBOpen : Bool
  loopSOpen : Bool
  dp : Bool
  pumpRunning : Bool
  deriving DecidableEq, Repr, Inhabited

/-- The commands, one constructor per row of spec/opcode_table.json, in its order. A request's constructor is a valid frame of
that KIND on a port, with its body bytes as received (R164, R167); `p` is the port. -/
inductive Instr where
  | powerOn (inputs : FieldInputs)
  | discardedFrame (p : Side) (cause : DiscardCause)
  | frameGapTimeout (p : Side)
  | silenceTimerExpiry (p : Side)
  | frameTransmitted (p : Side)
  | status (p : Side) (body : List Byte)
  | readEntry (p : Side) (body : List Byte)
  | readTank (p : Side) (body : List Byte)
  | readChannel (p : Side) (body : List Byte)
  | readTrip (p : Side) (body : List Byte)
  | propose (p : Side) (body : List Byte)
  | endorse (p : Side) (body : List Byte)
  | lapseTimerExpiry (id : Nat)
  | stop (p : Side) (body : List Byte)
  /-- A STOP frame naming all channels: its body is the tag and $FF (R151, R174). -/
  | stopAll (p : Side) (tag : Byte)
  | pause (p : Side) (body : List Byte)
  | continue_ (p : Side) (body : List Byte)
  | silence (p : Side) (body : List Byte)
  | tankdef (p : Side) (body : List Byte)
  | strapSeek (p : Side) (body : List Byte)
  | strapPut (p : Side) (body : List Byte)
  | strapSeal (p : Side) (body : List Byte)
  | level (p : Side) (body : List Byte)
  | lineup (p : Side) (body : List Byte)
  | entryEnd (p : Side) (body : List Byte)
  | chconfig (p : Side) (body : List Byte)
  | headerconfig (p : Side) (body : List Byte)
  | priority (p : Side) (body : List Byte)
  | arm (p : Side) (body : List Byte)
  | mask (p : Side) (body : List Byte)
  | hose (p : Side) (body : List Byte)
  | store (p : Side) (body : List Byte)
  /-- `verified`: the copy read back agrees with the snapshot (R178). -/
  | storeCompletion (verified : Bool)
  | closedLimitReached (c : Chan)
  | closedLimitLost (c : Chan)
  | openLimitReached (c : Chan)
  | openLimitLost (c : Chan)
  | strokeTimerExpiry (c : Chan)
  | meterPulse (c : Chan)
  | rateWindowRefresh (c : Chan)
  | stallTimerExpiry (c : Chan)
  | staleTimerExpiry (t : TankNo)
  | blindTimerExpiry (t : TankNo)
  /-- `v` is the pressure read, in kPa; so for the next (R91). -/
  | pressureReachesMax (c : Chan) (v : Nat)
  | pressureFallsBelowMax (c : Chan) (v : Nat)
  | pressureTimerExpiry (c : Chan)
  /-- `v` is the tension read, in 0.1 kN; so for the next three (R92). -/
  | tensionReachesStrainWarn (c : Chan) (v : Nat)
  | tensionFallsBelowStrainWarn (c : Chan) (v : Nat)
  | tensionReachesStrainTrip (c : Chan) (v : Nat)
  | tensionFallsBelowStrainTrip (c : Chan) (v : Nat)
  | strainDwellTimerExpiry (c : Chan)
  | sourceLowAsserts (c : Chan)
  | sourceLowClears (c : Chan)
  | sourceLowTimerExpiry (c : Chan)
  | strainerDpAsserts
  | strainerDpClears
  | waitTimerExpiry
  | primeTimerExpiry
  | pumpRunningLost
  | pumpRunningReturns
  /-- `l` names the loop by its side: loop B is the barge's, loop S the ship's (R150). -/
  | esdLoopOpens (l : Side)
  | esdLoopCloses (l : Side)
  | byteReceived (p : Side) (b : Byte)
  | unassignedKindFrame (p : Side) (kind : Byte) (body : List Byte)
  | powerLoss
  deriving DecidableEq, Repr, Inhabited

end Sys2Proof
end

