-- ==== Sys2Proof/Decode.lean ====
section
/-! DEFINITION. Frames and bodies: the CRC and the KIND codes (R164, R174), the reading of a request's body and the writing of
it (R167 step 4, R168, R174), and the host's reading of a table word. -/

namespace Sys2Proof

/-! ### KIND codes (R174) -/

/-- SYNC, byte 0 of a frame (R174). -/
def syncByte : Byte := 0xC5

/-- The greatest body length of a frame (R164, R174). -/
def maxBody : Nat := 120

/-- The KIND code of a request kind (R174). -/
def RequestKind.code : RequestKind → Byte
  | .status => 0x01 | .readEntry => 0x02 | .readTank => 0x03 | .readChannel => 0x04 | .readTrip => 0x05
  | .propose => 0x06 | .endorse => 0x07 | .stop => 0x08 | .pause => 0x09 | .continue_ => 0x0A | .silence => 0x0B
  | .tankdef => 0x10 | .strapSeek => 0x11 | .strapPut => 0x12 | .strapSeal => 0x13 | .level => 0x14 | .lineup => 0x15
  | .entryEnd => 0x16
  | .chconfig => 0x20 | .headerconfig => 0x21 | .priority => 0x22 | .arm => 0x23 | .mask => 0x24 | .hose => 0x25
  | .store => 0x26

/-- Every request kind, in the order of their codes. -/
def RequestKind.all : List RequestKind :=
  [.status, .readEntry, .readTank, .readChannel, .readTrip, .propose, .endorse, .stop, .pause, .continue_, .silence,
   .tankdef, .strapSeek, .strapPut, .strapSeal, .level, .lineup, .entryEnd,
   .chconfig, .headerconfig, .priority, .arm, .mask, .hose, .store]

/-- The request kind a KIND byte names, none for a reply kind, a notice kind and every unassigned value (R167 step 2). -/
def RequestKind.ofCode (b : Byte) : Option RequestKind :=
  RequestKind.all.find? fun k => k.code == b

/-! ### CRC and frames (R164, R174) -/

/-- One bit of the CRC: polynomial $1021, no reflection (R164). -/
def crcBit (r : BitVec 16) : BitVec 16 :=
  if r.msb then (r <<< 1) ^^^ 0x1021#16 else r <<< 1

/-- One byte into the CRC, most significant bit first (R164). -/
def crcByte (r : BitVec 16) (b : Byte) : BitVec 16 :=
  let x := r ^^^ (b.zeroExtend 16 <<< 8)
  crcBit (crcBit (crcBit (crcBit (crcBit (crcBit (crcBit (crcBit x)))))))

/-- The CRC over bytes in the order they arrived: initial value $FFFF, no final XOR (R164 step 3). -/
def crc16 (bs : List Byte) : BitVec 16 := bs.foldl crcByte 0xFFFF#16

/-- The two CRC bytes, high byte first (R164 step 3). -/
def crcBytes (bs : List Byte) : List Byte :=
  let r := crc16 bs
  [r.extractLsb' 8 8, r.extractLsb' 0 8]

/-- A frame as it stands on the line: SYNC, LEN, KIND, the body and the two CRC bytes (R174). -/
def encodeFrame (kind : Byte) (body : List Byte) : List Byte :=
  let covered := BitVec.ofNat 8 body.length :: kind :: body
  syncByte :: (covered ++ crcBytes covered)

/-- What a port makes of the bytes taken since SYNC (R164). -/
inductive FrameVerdict where
  /-- more bytes are to come -/
  | more
  /-- a bad length or a bad CRC: the frame is discarded -/
  | discard
  /-- a valid frame -/
  | valid (kind : Byte) (body : List Byte)
  deriving DecidableEq, Repr

/-- Judges the bytes taken since SYNC, in arrival order: LEN above 120 ends the frame as a bad length; with all of LEN + 4
bytes in, the CRC over LEN, KIND and the body decides (R164). -/
def judgeFrame (bs : List Byte) : FrameVerdict :=
  match bs with
  | [] => .more
  | len :: rest =>
    if maxBody < len.toNat then .discard
    else if rest.length < len.toNat + 3 then .more
    else
      match rest with
      | [] => .more
      | kind :: tail =>
        let body := tail.take len.toNat
        if tail.drop len.toNat = crcBytes (len :: kind :: body) then .valid kind body else .discard

/-! ### Fields of a body (R174) -/

/-- A two-byte field, most significant byte first (R174). -/
def be2 (h l : Byte) : Nat := h.toNat * 256 + l.toNat

/-- A four-byte field, most significant byte first (R174). -/
def be4 (a b c d : Byte) : Nat := ((a.toNat * 256 + b.toNat) * 256 + c.toNat) * 256 + d.toNat

/-- A small number as one byte (R174). -/
def put1 (n : Nat) : List Byte := [BitVec.ofNat 8 n]

/-- A two-byte field (R174). -/
def put2 (n : Nat) : List Byte := [BitVec.ofNat 8 (n / 256), BitVec.ofNat 8 n]

/-- A four-byte field (R174). -/
def put4 (n : Nat) : List Byte :=
  [BitVec.ofNat 8 (n / 16777216), BitVec.ofNat 8 (n / 65536), BitVec.ofNat 8 (n / 256), BitVec.ofNat 8 n]

/-- A signed volume: four bytes, two's complement (R174). -/
def putSigned (z : Int) : List Byte := put4 (BitVec.ofInt 32 z).toNat

/-- A flag byte: one bit per flag, bit 0 first, unused bits 0 (R174). -/
def flagByte (bs : List Bool) : Byte := BitVec.ofNat 8 (bs.foldr (fun b n => b.toNat + 2 * n) 0)

/-- The choice codes count from $00 in the order of the field's table (R174); a code beyond the set is no value of the type. -/
def modeOf (b : Byte) : Option Mode :=
  if b = 0x00 then some .demand else if b = 0x01 then some .batch else if b = 0x02 then some .slug else none

def modeCode : Mode → Byte
  | .demand => 0x00 | .batch => 0x01 | .slug => 0x02

/-- READY, NOT_READY (R2, R174). -/
def lineupOf (b : Byte) : Option Lineup :=
  if b = 0x00 then some .ready else if b = 0x01 then some .notReady else none

def lineupCode : Lineup → Byte
  | .ready => 0x00 | .notReady => 0x01

/-- GOOD, SUSPECT (R174). -/
def qualityOf (b : Byte) : Option Quality :=
  if b = 0x00 then some .good else if b = 0x01 then some .suspect else none

def qualityCode : Quality → Byte
  | .good => 0x00 | .suspect => 0x01

/-- HIGH, LOW (R73, R174). -/
def groupOf (b : Byte) : Option PriorityGroup :=
  if b = 0x00 then some .high else if b = 0x01 then some .low else none

def groupCode : PriorityGroup → Byte
  | .high => 0x00 | .low => 0x01

/-- HOLD, RELEASE (R97, R174). -/
def headerPolicyOf (b : Byte) : Option HeaderPolicy :=
  if b = 0x00 then some .hold else if b = 0x01 then some .release else none

def headerPolicyCode : HeaderPolicy → Byte
  | .hold => 0x00 | .release => 0x01

/-- FIXED, GROUPED (R97, R112, R174). -/
def priorityPolicyOf (b : Byte) : Option PriorityPolicy :=
  if b = 0x00 then some .fixed else if b = 0x01 then some .grouped else none

def priorityPolicyCode : PriorityPolicy → Byte
  | .fixed => 0x00 | .grouped => 0x01

/-- The HI and HIHI flags of a LEVEL: bit 0 and bit 1, bits 2 to 7 zero (R174). -/
def alarmFlagsOf (b : Byte) : Option (Bool × Bool) :=
  if b.toNat < 4 then some (b.getLsbD 0, b.getLsbD 1) else none

def alarmFlagsCode (hi hihi : Bool) : Byte :=
  BitVec.ofNat 8 (hi.toNat + 2 * hihi.toNat)

/-! ### Bodies (R168, R174): the tag first, then the fields in the order of the owning rule -/

/-- A proposal from its kind byte and the bytes after it, each kind with its own length (R129, R174). -/
def decodeProposal : List Byte → Option RawProposal
  | [k, c, t, a3, a2, a1, a0, r1, r0, m] =>
    if k = 0x00 then (modeOf m).map fun m => .plan c.toNat t.toNat (be4 a3 a2 a1 a0) (be2 r1 r0) m else none
  | [k, e, a3, a2, a1, a0, r1, r0] =>
    if k = 0x01 then some (.amend e.toNat (be4 a3 a2 a1 a0) (be2 r1 r0)) else none
  | [k, x] =>
    if k = 0x02 then some (.cancel x.toNat)
    else if k = 0x03 then some (.start x.toNat)
    else if k = 0x04 then some (.clear x.toNat)
    else none
  | [k] => if k = 0x05 then some .init else none
  | _ => none

/-- The kind byte and the fields of a proposal (R129, R174). -/
def encodeProposal : RawProposal → List Byte
  | .plan c t a r m => [0x00] ++ put1 c ++ put1 t ++ put4 a ++ put2 r ++ [modeCode m]
  | .amend e a r => [0x01] ++ put1 e ++ put4 a ++ put2 r
  | .cancel e => [0x02] ++ put1 e
  | .start c => [0x03] ++ put1 c
  | .clear k => [0x04] ++ put1 k
  | .init => [0x05]

/-- Reads a TANKDEF's fields, in the order of R18. -/
def decodeTankdef : List Byte → Option Request
  | [t, g, h1, h0, i1, i0, s1, s0, v3, v2, v1, v0, r1, r0, u3, u2, u1, u0, p1, p0] =>
    some (.tankdef t.toNat
      { grade := g.toNat, hHi := be2 h1 h0, hHihi := be2 i1 i0, slosh := be2 s1 s0, toppingVolume := be4 v3 v2 v1 v0,
        toppingRate := be2 r1 r0, slugVolume := be4 u3 u2 u1 u0, stepLimit := be2 p1 p0 })
  | _ => none

/-- Reads a STRAP-PUT: the count and four point places, a level then a volume each; the places beyond the count are carried and
not checked (R168). -/
def decodeStrapPut : List Byte → Option Request
  | [n, a1, a0, b3, b2, b1, b0, c1, c0, d3, d2, d1, d0, e1, e0, f3, f2, f1, f0, g1, g0, h3, h2, h1, h0] =>
    some (.strapPut n.toNat ⟨be2 a1 a0, be4 b3 b2 b1 b0⟩ ⟨be2 c1 c0, be4 d3 d2 d1 d0⟩
      ⟨be2 e1 e0, be4 f3 f2 f1 f0⟩ ⟨be2 g1 g0, be4 h3 h2 h1 h0⟩)
  | _ => none

/-- Reads a CHCONFIG: the channel and the ten fields in the order of R73. -/
def decodeChconfig : List Byte → Option Request
  | [c, g, t1, t0, d3, d2, d1, d0, k3, k2, k1, k0, m1, m0, n1, n0, p1, p0, w1, w0, s1, s0, q] =>
    (groupOf q).map fun q => .chconfig c.toNat
      { grade := g.toNat, strokeTime := be2 t1 t0, hoseDrain := be4 d3 d2 d1 d0, kFactor := be4 k3 k2 k1 k0,
        hoseMaxRate := be2 m1 m0, minFlow := be2 n1 n0, pressureMax := be2 p1 p0, strainWarn := be2 w1 w0,
        strainTrip := be2 s1 s0, group := q }
  | _ => none

/-- Reads a HEADERCONFIG: the four header fields in the order of R97, then the device-wide items in the order of R175. -/
def decodeHeaderconfig : List Byte → Option Request
  | [c1, c0, q, p1, p0, w1, w0, a1, a0, b1, b0, d1, d0, e1, e0, f1, f0, g1, g0, h1, h0, r3, r2, r1, r0] =>
    (headerPolicyOf q).map fun q => .headerconfig
      { capacity := be2 c1 c0, policy := q, primeTime := be2 p1 p0, waitLimit := be2 w1 w0 }
      { linkSilence := be2 a1 a0, consentWindow := be2 b1 b0, staleTime := be2 d1 d0, blindLimit := be2 e1 e0,
        strainDwell := be2 f1 f0, sourceLowLimit := be2 g1 g0, stallTime := be2 h1 h0, reconFloor := be4 r3 r2 r1 r0 }
  | _ => none

/-- Reads the fields of a body of kind `k`, the tag taken off; none where the length or an encoding is refused RANGE
(R167 step 4, R174). -/
def decodeFields (k : RequestKind) (fs : List Byte) : Option Request :=
  match k with
  | .status => match fs with | [] => some .status | _ => none
  | .readEntry => match fs with | [e] => some (.readEntry e.toNat) | _ => none
  | .readTank => match fs with | [t] => some (.readTank t.toNat) | _ => none
  | .readChannel => match fs with | [c] => some (.readChannel c.toNat) | _ => none
  | .readTrip => match fs with | [] => some .readTrip | _ => none
  | .propose => (decodeProposal fs).map .propose
  | .endorse => match fs with | i :: rest => (decodeProposal rest).map (.endorse i.toNat) | [] => none
  | .stop => match fs with | [c] => some (.stop c.toNat) | _ => none
  | .pause => match fs with | [c] => some (.pause c.toNat) | _ => none
  | .continue_ => match fs with | [c] => some (.continue_ c.toNat) | _ => none
  | .silence => match fs with | [] => some .silence | _ => none
  | .tankdef => decodeTankdef fs
  | .strapSeek => match fs with | [t, i] => some (.strapSeek t.toNat i.toNat) | _ => none
  | .strapPut => decodeStrapPut fs
  | .strapSeal => match fs with | [n, a, b, c, d] => some (.strapSeal n.toNat (be4 a b c d)) | _ => none
  | .level =>
    match fs with
    | [t, l1, l0, q, f] =>
      match qualityOf q, alarmFlagsOf f with
      | some q, some (hi, hihi) => some (.level t.toNat (be2 l1 l0) q hi hihi)
      | _, _ => none
    | _ => none
  | .lineup => match fs with | [e, v] => (lineupOf v).map (.lineup e.toNat) | _ => none
  | .entryEnd => match fs with | [e] => some (.entryEnd e.toNat) | _ => none
  | .chconfig => decodeChconfig fs
  | .headerconfig => decodeHeaderconfig fs
  | .priority => match fs with | [q] => (priorityPolicyOf q).map .priority | _ => none
  | .arm => match fs with | [c] => some (.arm c.toNat) | _ => none
  | .mask => match fs with | [c] => some (.mask c.toNat) | _ => none
  | .hose => match fs with | [c] => some (.hose c.toNat) | _ => none
  | .store => match fs with | [] => some .store | _ => none

/-- Reads a request body: its first byte is the tag, so a body of LEN 0 has the length of no kind (R167). -/
def decodeRequest (k : RequestKind) : List Byte → Option Request
  | [] => none
  | _ :: fs => decodeFields k fs

/-- The tag of a body, 0 where LEN is 0 (R167). -/
def bodyTag : List Byte → Byte
  | [] => 0
  | t :: _ => t

/-- The kind of a request. -/
def Request.kind : Request → RequestKind
  | .status => .status | .readEntry .. => .readEntry | .readTank .. => .readTank | .readChannel .. => .readChannel
  | .readTrip => .readTrip | .propose .. => .propose | .endorse .. => .endorse | .stop .. => .stop | .pause .. => .pause
  | .continue_ .. => .continue_ | .silence => .silence | .tankdef .. => .tankdef | .strapSeek .. => .strapSeek
  | .strapPut .. => .strapPut | .strapSeal .. => .strapSeal | .level .. => .level | .lineup .. => .lineup
  | .entryEnd .. => .entryEnd | .chconfig .. => .chconfig | .headerconfig .. => .headerconfig | .priority .. => .priority
  | .arm .. => .arm | .mask .. => .mask | .hose .. => .hose | .store => .store

/-- A point place: a level followed by a volume (R174). -/
def putPoint (p : Point) : List Byte := put2 p.level ++ put4 p.volume

/-- The fields of a request, in the order of R174. -/
def encodeFields : Request → List Byte
  | .status => [] | .readTrip => [] | .silence => [] | .store => []
  | .readEntry e => put1 e | .readTank t => put1 t | .readChannel c => put1 c
  | .propose b => encodeProposal b
  | .endorse i b => put1 i ++ encodeProposal b
  | .stop c => put1 c | .pause c => put1 c | .continue_ c => put1 c
  | .tankdef t d =>
    put1 t ++ put1 d.grade ++ put2 d.hHi ++ put2 d.hHihi ++ put2 d.slosh ++ put4 d.toppingVolume ++ put2 d.toppingRate
      ++ put4 d.slugVolume ++ put2 d.stepLimit
  | .strapSeek t i => put1 t ++ put1 i
  | .strapPut n p0 p1 p2 p3 => put1 n ++ putPoint p0 ++ putPoint p1 ++ putPoint p2 ++ putPoint p3
  | .strapSeal n w => put1 n ++ put4 w
  | .level t l q hi hihi => put1 t ++ put2 l ++ [qualityCode q, alarmFlagsCode hi hihi]
  | .lineup e v => put1 e ++ [lineupCode v]
  | .entryEnd e => put1 e
  | .chconfig c k =>
    put1 c ++ put1 k.grade ++ put2 k.strokeTime ++ put4 k.hoseDrain ++ put4 k.kFactor ++ put2 k.hoseMaxRate
      ++ put2 k.minFlow ++ put2 k.pressureMax ++ put2 k.strainWarn ++ put2 k.strainTrip ++ [groupCode k.group]
  | .headerconfig h d =>
    put2 h.capacity ++ [headerPolicyCode h.policy] ++ put2 h.primeTime ++ put2 h.waitLimit ++ put2 d.linkSilence
      ++ put2 d.consentWindow ++ put2 d.staleTime ++ put2 d.blindLimit ++ put2 d.strainDwell ++ put2 d.sourceLowLimit
      ++ put2 d.stallTime ++ put4 d.reconFloor
  | .priority q => [priorityPolicyCode q]
  | .arm c => put1 c | .mask c => put1 c | .hose c => put1 c

/-- The body of a request with its tag (R167, R174). -/
def encodeRequest (tag : Byte) (r : Request) : List Byte := tag :: encodeFields r

/-- Whether a proposal's numbers fit the sizes of their types (R174). -/
def RawProposal.fits : RawProposal → Bool
  | .plan c t a r _ => c < 256 && t < 256 && a < 4294967296 && r < 65536
  | .amend e a r => e < 256 && a < 4294967296 && r < 65536
  | .cancel e => e < 256
  | .start c => c < 256
  | .clear k => k < 256
  | .init => true

/-- Whether a point fits a point place (R174). -/
def Point.fits (p : Point) : Bool := p.level < 65536 && p.volume < 4294967296

/-- Whether a request's numbers fit the sizes of their types, so that a frame can carry them (R174). -/
def Request.fits : Request → Bool
  | .status => true | .readTrip => true | .silence => true | .store => true
  | .readEntry e => e < 256 | .readTank t => t < 256 | .readChannel c => c < 256
  | .propose b => b.fits
  | .endorse i b => i < 256 && b.fits
  | .stop c => c < 256 | .pause c => c < 256 | .continue_ c => c < 256
  | .tankdef t d =>
    t < 256 && d.grade < 256 && d.hHi < 65536 && d.hHihi < 65536 && d.slosh < 65536 && d.toppingVolume < 4294967296
      && d.toppingRate < 65536 && d.slugVolume < 4294967296 && d.stepLimit < 65536
  | .strapSeek t i => t < 256 && i < 256
  | .strapPut n p0 p1 p2 p3 => n < 256 && p0.fits && p1.fits && p2.fits && p3.fits
  | .strapSeal n w => n < 256 && w < 4294967296
  | .level t l _ _ _ => t < 256 && l < 65536
  | .lineup e _ => e < 256
  | .entryEnd e => e < 256
  | .chconfig c k =>
    c < 256 && k.grade < 256 && k.strokeTime < 65536 && k.hoseDrain < 4294967296 && k.kFactor < 4294967296
      && k.hoseMaxRate < 65536 && k.minFlow < 65536 && k.pressureMax < 65536 && k.strainWarn < 65536
      && k.strainTrip < 65536
  | .headerconfig h d =>
    h.capacity < 65536 && h.primeTime < 65536 && h.waitLimit < 65536 && d.linkSilence < 65536 && d.consentWindow < 65536
      && d.staleTime < 65536 && d.blindLimit < 65536 && d.strainDwell < 65536 && d.sourceLowLimit < 65536
      && d.stallTime < 65536 && d.reconFloor < 4294967296
  | .priority _ => true
  | .arm c => c < 256 | .mask c => c < 256 | .hose c => c < 256

/-- The command a table word spells. The opcode table gives no row any bits, so no word spells a command (98, "n_rows_with_fixed":
0 and "n_rows_with_fields": 0). -/
def decodeTableWord (_nbits _w : Nat) : Option Instr := none

end Sys2Proof
end

