-- ==== Sys2Proof/Machine/State.lean ====
section
/-! DEFINITION. Everything the spec gives the part to hold, as plain data, and the state right after reset. A docstring names the
rule that gives the item. Items the spec makes a function of others are computed in Machine/Flags.lean (log 29). -/

namespace Sys2Proof.Machine

/-! ### Transfer Plan (chapter 1) -/

/-- An entry's state (R2). -/
inductive EntryState where
  | queued | await | active | done | short | cancelled
  deriving DecidableEq, Repr, Inhabited

/-- The ladder stages, highest first (R62); `full` is the manual's OPEN. -/
inductive Stage where
  | full | topping | slug | final
  deriving DecidableEq, Repr, Inhabited

/-- The five reasons of an end (R10). -/
inductive EndReason where
  | allotment | shipEnd | levelFinal | levelHi | cancel
  deriving DecidableEq, Repr, Inhabited

/-- The quality of a start volume (R122). -/
inductive StartQuality where
  | steady | conservative
  deriving DecidableEq, Repr, Inhabited

/-- A tank's level state (R40). -/
inductive LevelState where
  | cold | partFull | steady | sloshing | stale | suspect
  deriving DecidableEq, Repr, Inhabited

/-- The delivery baseline: the pulse total and K-factor of the first activation (R4). -/
structure Baseline where
  total : Nat
  kFactor : Nat
  deriving DecidableEq, Repr, Inhabited

/-- The time to high level (R58). -/
inductive TimeToHigh where
  | noFlow
  | seconds (n : Nat)
  deriving DecidableEq, Repr, Inhabited

/-- The fields a level half writes in the margin record (R51, R54). -/
structure LevelHalf where
  levelState : LevelState
  lEff : Nat
  vNow : Nat
  vHi : Nat
  m : Int
  t : TimeToHigh
  computed : Stage
  deriving DecidableEq, Repr, Inhabited

/-- The margin record of an activated entry (R51). -/
structure MarginRecord where
  evaluatedAt : Nat
  q : Nat
  aClose : Nat
  level : Option LevelHalf
  mm : Int
  deriving DecidableEq, Repr, Inhabited

/-- The slug phases (R52); `idle` is the manual's NONE. -/
inductive SlugPhase where
  | idle | delivering | settling
  deriving DecidableEq, Repr, Inhabited

/-- The slug record of an activated entry (R52). -/
structure SlugRecord where
  phase : SlugPhase
  size : Option Nat
  base : Option Nat
  deriving DecidableEq, Repr, Inhabited

/-- Where a reconciliation's baseline comes from (R121). -/
inductive BaselineOrigin where
  | activation | rebase
  deriving DecidableEq, Repr, Inhabited

/-- The result of a reconciliation (R124). -/
inductive ReconResult where
  | within | excess | gain
  deriving DecidableEq, Repr, Inhabited

/-- The fields one evaluation writes in the reconciliation record (R121, R124). -/
structure ReconFigures where
  evaluatedAt : Nat
  dVm : Nat
  dVl : Int
  credit : Nat
  e : Int
  tol : Nat
  result : ReconResult
  deriving DecidableEq, Repr, Inhabited

/-- The reconciliation record of an activated entry (R121); the figures are absent until an evaluation writes them. -/
structure ReconRecord where
  origin : BaselineOrigin
  figures : Option ReconFigures
  deriving DecidableEq, Repr, Inhabited

/-- A route entry record (R2) with its margin, slug and reconciliation records (R51, R52, R121). The id is the slot's number, and
remaining is computed (R4). -/
structure Entry where
  chan : Chan
  tank : TankNo
  mode : Mode
  allotment : Nat
  planRate : Nat
  state : EntryState
  delivered : Nat
  lineup : Lineup
  stage : Option Stage
  baseline : Option Baseline
  meterBaseline : Option Nat
  startVolume : Option Nat
  startQuality : Option StartQuality
  credit : Nat
  strikes : Nat
  endPending : Option EndReason
  endReason : Option EndReason
  started : Option Nat
  ended : Option Nat
  margin : Option MarginRecord
  slug : Option SlugRecord
  recon : Option ReconRecord
  deriving DecidableEq, Repr, Inhabited

/-- The plan: 16 slots and the next id, 0 to 16 (R1). -/
structure Plan where
  slots : Vector (Option Entry) 16
  nextId : Nat
  deriving DecidableEq, Repr, Inhabited

/-! ### Tank Table and Level Watch (chapters 2 and 3) -/

/-- The strap state; the sealed point count is present only while SEALED (R18, R22). -/
inductive StrapState where
  | empty
  | unsealed
  | sealed (n : Nat)
  deriving DecidableEq, Repr, Inhabited

/-- A reading in a window (R34). -/
structure Reading where
  level : Nat
  stamp : Nat
  deriving DecidableEq, Repr, Inhabited

/-- The source a cause is attributed to; the suspect mark's origin is SHIP or WATCH (00 "Terms", R34, R146). -/
inductive Origin where
  | barge | ship | watch
  deriving DecidableEq, Repr, Inhabited

/-- A tank record (R18) with its Level Watch items (R34). `decl` is present when the tank is defined. -/
structure Tank where
  decl : Option TankDecl
  strap : StrapState
  points : Vector (Option Point) 16
  aboveTable : Bool
  window : List Reading
  suspect : Option Origin
  stale : Bool
  staleTimer : Option Nat
  stepRef : Option Nat
  shipHi : Bool
  shipHihi : Bool
  ownHi : Bool
  ownHihi : Bool
  hiStopMark : Option EntryId
  gaugeStep : Bool
  blindTimer : Option Nat
  deriving DecidableEq, Repr, Inhabited

/-- The strapping cursor of Port S (R24). -/
structure Cursor where
  tank : TankNo
  index : Nat
  deriving DecidableEq, Repr, Inhabited

/-! ### Hose Channels and Metering (chapters 5 and 7) -/

/-- A channel's state (R74). -/
inductive ChState where
  | masked | idle | opening | flowing | held | closing | fault
  deriving DecidableEq, Repr, Inhabited

/-- The valve command output (R75). -/
inductive ValveCommand where
  | toOpen | toClose
  deriving DecidableEq, Repr, Inhabited

/-- The nine hold reasons (R76). -/
inductive HoldReason where
  | noGrant | headerWait | noPump | settling | lineupDropped | sourceLow | blind | pauseB | pauseS
  deriving DecidableEq, Repr, Inhabited

/-- A hold-reason set: whether each reason is in it (R76). -/
structure HoldSet where
  noGrant : Bool
  headerWait : Bool
  noPump : Bool
  settling : Bool
  lineupDropped : Bool
  sourceLow : Bool
  blind : Bool
  pauseB : Bool
  pauseS : Bool
  deriving DecidableEq, Repr, Inhabited

/-- The hose state (R95). -/
inductive HoseState where
  | hoseFull | drained
  deriving DecidableEq, Repr, Inhabited

/-- The channel stop causes, codes 32 to 40 (R88). -/
inductive StopCause where
  | stopCh | lineupLost | overpressure | meterStall | sourceEmpty | gaugeLost | levelHi | misroute | valveStuck
  deriving DecidableEq, Repr, Inhabited

/-- A channel's last stop (R72, R88, R89). -/
structure LastStop where
  cause : StopCause
  origin : Origin
  tank : Option TankNo
  stamp : Nat
  acknowledged : Bool
  deriving DecidableEq, Repr, Inhabited

/-- The metering record of a channel (R115); the K-factor in use is the configured one. -/
structure Meter where
  total : Nat
  saturated : Bool
  windowCount : Nat
  nextRefresh : Nat
  rate : Nat
  stallTimer : Option Nat
  unmeteredGain : Bool
  deriving DecidableEq, Repr, Inhabited

/-- A channel record (R72) with its inputs as last taken (R75, R91 to R93, R96), its grant (R97) and its metering (R115). -/
structure Channel where
  state : ChState
  command : ValveCommand
  openLimit : Bool
  closedLimit : Bool
  strokeTimer : Option Nat
  openingStarted : Option Nat
  holds : HoldSet
  authorised : Bool
  hose : HoseState
  lastStop : Option LastStop
  pressure : Nat
  tension : Nat
  sourceLow : Bool
  pressureTimer : Option Nat
  sourceLowTimer : Option Nat
  strainTimer : Option Nat
  strain : Bool
  highSoon : Bool
  grant : Nat
  meter : Meter
  deriving DecidableEq, Repr, Inhabited

/-! ### Header Arbiter (chapter 6) -/

/-- The header state (R101). -/
inductive HeaderState where
  | idle | priming | serving | standby | waiting | tripped
  deriving DecidableEq, Repr, Inhabited

/-- A place in the HIGH list: a channel or the LOW token (R112). -/
inductive HighItem where
  | chan (c : Chan)
  | lowToken
  deriving DecidableEq, Repr, Inhabited

/-- The header record (R97), less the configuration and the grants. -/
structure Header where
  state : HeaderState
  returnState : Option HeaderState
  primeTimer : Option Nat
  waitTimer : Option Nat
  dp : Bool
  pumpRunning : Bool
  high : List HighItem
  low : List Chan
  deriving DecidableEq, Repr, Inhabited

/-! ### Consent Queue (chapter 8) -/

/-- A proposal's kind and body within the ranges of R129. -/
inductive ProposalBody where
  | plan (c : Chan) (t : TankNo) (allotment planRate : Nat) (mode : Mode)
  | amend (e : EntryId) (allotment planRate : Nat)
  | cancel (e : EntryId)
  | start (c : Chan)
  | clear (code : Nat)
  | init
  deriving DecidableEq, Repr, Inhabited

/-- A pending proposal (R128). -/
structure Proposal where
  id : Nat
  side : Side
  body : ProposalBody
  bound : Option Chan
  arrival : Nat
  lapseAt : Nat
  deriving DecidableEq, Repr, Inhabited

/-- The queue, oldest first, and the next proposal id, 1 to 255 (R128). -/
structure ConsentQueue where
  proposals : List Proposal
  nextId : Nat
  deriving DecidableEq, Repr, Inhabited

/-- The rejections at adoption (R138). -/
inductive Rejection where
  | planFull | tankBusy | grade | unsealed | state | tripCode | valvesOpen
  deriving DecidableEq, Repr, Inhabited

/-! ### Trip Unit (chapter 9) -/

/-- The trip state (R147). -/
inductive TripState where
  | normal | tripping | tripped
  deriving DecidableEq, Repr, Inhabited

/-- The shutdown causes, codes 1 to 11, with the channel or tank a cause carries (R149). -/
inductive ShutdownCause where
  | restart | esdB | esdS | linkB | linkS | stopAll
  | levelHihi (t : TankNo)
  | hoseStrain (c : Chan)
  | strainer | pumpFail
  | valveUnproven (c : Chan)
  deriving DecidableEq, Repr, Inhabited

/-- A cause entry of the trip record (R146); the code and name are the cause's. -/
structure CauseEntry where
  cause : ShutdownCause
  origin : Origin
  stamp : Nat
  deriving DecidableEq, Repr, Inhabited

/-- The horn classes (R160); `quiet` is the manual's NONE. -/
inductive HornClass where
  | quiet | caution | alarm | trip
  deriving DecidableEq, Repr, Inhabited

/-- A caution's kind and key (R159). -/
inductive Caution where
  | strain (c : Chan)
  | highSoon (c : Chan)
  | unmeteredGain (c : Chan) (t : TankNo)
  | meterFull (c : Chan)
  | gaugeStep (t : TankNo)
  | configDefaults
  deriving DecidableEq, Repr, Inhabited

/-- An entry of the caution set (R159). -/
structure CautionEntry where
  caution : Caution
  stamp : Nat
  deriving DecidableEq, Repr, Inhabited

/-- The Trip Unit's items (R146). -/
structure Trip where
  state : TripState
  firstOut : Option CauseEntry
  later : List CauseEntry
  more : Bool
  unproven : Vector Bool 4
  loopBOpen : Bool
  loopSOpen : Bool
  cautions : List CautionEntry
  horn : HornClass
  mute : Option HornClass
  deriving DecidableEq, Repr, Inhabited

/-- Whether each standing condition of R155 is present, in the order of its table. -/
structure Standing where
  loopB : Bool
  loopS : Bool
  portB : Bool
  portS : Bool
  hihi : Bool
  tension : Bool
  dp : Bool
  pump : Bool
  deriving DecidableEq, Repr, Inhabited

/-! ### Configuration Store (chapter 11) -/

/-- The stored copy with the check word stored with it (R175, R176). -/
structure StoredCopy where
  items : SiteConfig
  checkWord : BitVec 32
  deriving DecidableEq, Repr, Inhabited

/-- A write in flight: the snapshot and the time of acceptance (R177, R178). -/
structure StoreWrite where
  snapshot : SiteConfig
  accepted : Nat
  deriving DecidableEq, Repr, Inhabited

/-- The Configuration Store's items beside the running configuration (R175, R176); `valid` is the stored condition. -/
structure Store where
  copy : StoredCopy
  valid : Bool
  inFlight : Option StoreWrite
  configDefaults : Bool
  deriving DecidableEq, Repr, Inhabited

/-! ### Notices and replies (chapter 10) -/

/-- The link state (R165). -/
inductive LinkState where
  | silent | live
  deriving DecidableEq, Repr, Inhabited

/-- The events of N-ENTRY (R17). -/
inductive EntryEvent where
  | adopted | state | endPending | amended | lineup | stage
  deriving DecidableEq, Repr, Inhabited

/-- What an N-ENTRY carries of the entry (R17). -/
structure EntryView where
  id : EntryId
  chan : Chan
  tank : TankNo
  mode : Mode
  state : EntryState
  allotment : Nat
  planRate : Nat
  delivered : Nat
  remaining : Nat
  lineup : Lineup
  stage : Option Stage
  endPending : Option EndReason
  endReason : Option EndReason
  deriving DecidableEq, Repr, Inhabited

/-- The events of N-CHANNEL (R96). -/
inductive ChannelEvent where
  | state | holds | auth | stop | config | hose
  deriving DecidableEq, Repr, Inhabited

/-- What every N-CHANNEL carries of the channel (R96). -/
structure ChannelView where
  chan : Chan
  state : ChState
  holds : HoldSet
  authorised : Bool
  lockedIn : Bool
  current : Option EntryId
  hose : HoseState
  grant : Nat
  deriving DecidableEq, Repr, Inhabited

/-- The events of N-HEADER (R114). -/
inductive HeaderEvent where
  | state | grants | config | priority | order
  deriving DecidableEq, Repr, Inhabited

/-- The header items of N-HEADER and STATUS (R114, R169). -/
structure HeaderView where
  state : HeaderState
  returnState : Option HeaderState
  capacity : Nat
  policy : HeaderPolicy
  priority : PriorityPolicy
  grants : List Nat
  run : Bool
  demand : Nat
  dp : Bool
  pumpRunning : Bool
  primeTimer : Option Nat
  waitTimer : Option Nat
  high : List HighItem
  low : List Chan
  deriving DecidableEq, Repr, Inhabited

/-- The events of chapter 2's N-TANK (R32). -/
inductive TankEvent where
  | defined | unsealed | sealed | aboveTable
  deriving DecidableEq, Repr, Inhabited

/-- Why a proposal is withdrawn (R140 to R142): with a stop or a shutdown, its cause code. -/
inductive WithdrawCause where
  | stop (code : Nat)
  | shutdown (code : Nat)
  | silent
  | init
  deriving DecidableEq, Repr, Inhabited

/-- The events of N-PROPOSAL with what each carries beside the proposal (R145). -/
inductive ProposalEvent where
  | pending (lapseAt : Nat)
  | adopted (endorser : Side)
  | rejected (endorser : Side) (reason : Rejection)
  | lapsed
  | withdrawn (cause : WithdrawCause)
  deriving DecidableEq, Repr, Inhabited

/-- The events of N-TRIP (R162). -/
inductive TripEvent where
  | cause | state | cleared | horn
  deriving DecidableEq, Repr, Inhabited

/-- Whether the record added a cause, held it already, or counted it under the more flag (R152, R162). -/
inductive CauseFate where
  | added | held | more
  deriving DecidableEq, Repr, Inhabited

/-- What every N-TRIP carries (R162). -/
structure TripView where
  state : TripState
  firstOut : Option CauseEntry
  later : List CauseEntry
  more : Bool
  unproven : Vector Bool 4
  loopBOpen : Bool
  loopSOpen : Bool
  linkB : LinkState
  linkS : LinkState
  standing : Standing
  horn : HornClass
  mute : Option HornClass
  deriving DecidableEq, Repr, Inhabited

/-- A notice (R172), each kind with its event, what it carries, and its time stamp. -/
inductive Notice where
  | entry (event : EntryEvent) (view : EntryView) (stamp : Nat)
  /-- `lastStop` is carried by the event STOP (R96). -/
  | channel (event : ChannelEvent) (view : ChannelView) (lastStop : Option LastStop) (stamp : Nat)
  | header (event : HeaderEvent) (view : HeaderView) (stamp : Nat)
  /-- `decl` is carried by the event DEFINED (R32). -/
  | tank (event : TankEvent) (tank : TankNo) (defined : Bool) (strap : StrapState) (aboveTable : Bool)
      (decl : Option TankDecl) (stamp : Nat)
  /-- LEVEL_STATE of R49; `reading` is the level and quality of the reading that raised it. -/
  | tankLevel (tank : TankNo) (state : LevelState) (lEff : Option Nat) (count : Nat) (suspect : Option Origin)
      (reading : Option (Nat × Quality)) (stamp : Nat)
  /-- ALARM of R49. -/
  | tankAlarm (tank : TankNo) (shipHi shipHihi ownHi ownHihi : Bool) (stamp : Nat)
  | proposal (event : ProposalEvent) (id : Nat) (side : Side) (body : ProposalBody) (arrival stamp : Nat)
  /-- `taken` is carried by the event CAUSE (R162). -/
  | trip (event : TripEvent) (view : TripView) (taken : Option (CauseEntry × CauseFate)) (stamp : Nat)
  | caution (caution : Caution) (active : Bool) (stamp : Nat) (set : List CautionEntry)
  | store (ok : Bool) (accepted completed : Nat) (valid : Bool)
  deriving DecidableEq, Repr, Inhabited

/-- The refusal reasons, in the order of R170's table. -/
inductive Reason where
  | role | range | busy | inUse | queueFull | duplicate | self | mismatch | noSuch | order | notCurrent | notHeld
  | undefinedTank | check | shape | state
  deriving DecidableEq, Repr, Inhabited

/-- What STATUS reports of one channel (R169). -/
structure ChannelBrief where
  state : ChState
  holds : HoldSet
  authorised : Bool
  grant : Nat
  current : Option EntryId
  lastStop : Option LastStop
  deriving DecidableEq, Repr, Inhabited

/-- The items of a STATUS reply (R169, R178). The cursor is reported on Port S. -/
structure StatusReport where
  stamp : Nat
  linkB : LinkState
  linkS : LinkState
  trip : TripState
  firstOut : Option CauseEntry
  laterCount : Nat
  more : Bool
  horn : HornClass
  header : HeaderView
  channels : List ChannelBrief
  proposals : List Proposal
  nextProposalId : Nat
  storeValid : Bool
  storeInFlight : Bool
  configDefaults : Bool
  cursor : Option Cursor
  noticesLost : Bool
  ended : Vector Bool 4
  deriving DecidableEq, Repr, Inhabited

/-- The data of a DONE reply (R170). -/
inductive ReplyData where
  | nothing
  | status (report : StatusReport)
  /-- The whole entry record with its three records; remaining beside it (R17, R71, R127, R169). -/
  | entry (id : EntryId) (record : Entry) (remaining : Nat)
  /-- The whole tank record, whether it is in use, and its level state and effective level (R32, R49). -/
  | tank (t : TankNo) (record : Tank) (inUse : Bool) (state : LevelState) (lEff : Option Nat)
  /-- Every item of the channel, its configuration, its current entry and whether it is locked in (R96, R127). -/
  | channel (c : Chan) (record : Channel) (config : ChannelConfig) (current : Option EntryId) (lockedIn : Bool)
  /-- Every Trip Unit item, the standing conditions, and for each channel whether its closed limit is present and its open
  limit absent (R162). -/
  | trip (record : Trip) (standing : Standing) (closed : List Bool)
  /-- The proposal whose adoption ended in rejection (R139). -/
  | proposal (id : Nat)
  | cursor (cursor : Cursor)
  /-- The tank's level state and effective level after a reading (R35), and the origin of its suspect mark (R36). -/
  | level (state : LevelState) (lEff : Option Nat) (suspect : Option Origin)
  deriving DecidableEq, Repr, Inhabited

/-- The result of a reply (R170). -/
inductive Result where
  | done (data : ReplyData)
  | pending (id : Nat)
  | adopted (id : Nat)
  | refused (reason : Reason)
  deriving DecidableEq, Repr, Inhabited

/-- A reply: the request's tag, its KIND and one result (R170, R174). -/
structure Reply where
  tag : Byte
  kind : Byte
  result : Result
  deriving DecidableEq, Repr, Inhabited

/-- A frame the transmitter sends (R171). -/
inductive OutFrame where
  | reply (r : Reply)
  | notice (n : Notice)
  deriving DecidableEq, Repr, Inhabited

/-- The items of a port (R165), the bytes of the frame in progress since its SYNC (R163), and the frame in transmission (R171). -/
structure Port where
  link : LinkState
  silenceTimer : Option Nat
  replies : List Reply
  notices : List Notice
  lost : Bool
  ended : Vector Bool 4
  rx : Option (List Byte)
  sending : Option OutFrame
  deriving DecidableEq, Repr, Inhabited

/-! ### The part -/

/-- The reasons a command stops the part with a fault: there is none (INVENTORY.md, Faults). -/
inductive Fault where
  deriving DecidableEq, Repr

/-- The reasons a command has no meaning. -/
inductive Refusal where
  /-- Raised by exec's arms for a command not modelled; safe, since the part stops. No arm of this model raises it. -/
  | notModelled (mnemonic : String)
  deriving DecidableEq, Repr

/-- The whole part. -/
structure State where
  /-- Whether the part has its supply (R178, R179; log 8). -/
  powered : Bool
  /-- Seconds since power-on (00 "Time"; log 1, log 4). -/
  now : Nat
  plan : Plan
  tanks : Vector Tank 12
  channels : Vector Channel 4
  header : Header
  queue : ConsentQueue
  trip : Trip
  portB : Port
  portS : Port
  /-- Port S's strapping cursor (R24). -/
  cursor : Cursor
  /-- The running configuration (R175). -/
  config : SiteConfig
  store : Store
  /-- The MODEL's own: how many free values have been drawn (log 10). -/
  freeCount : Nat
  /-- The MODEL's own: the channels whose margin a regrant of this step has yet to have evaluated (R111 step 4; log 17). -/
  evals : List Chan
  /-- The MODEL's own: the commands waiting, first in first out (log 1). -/
  pending : List Instr
  deriving DecidableEq, Repr, Inhabited

/-! ### Power-on values (R18, R34, R72, R97, R115, R128, R146, R165) -/

/-- A tank after power-on and after INIT (R18, R34). -/
def Tank.blank : Tank :=
  { decl := none, strap := .empty, points := Vector.replicate 16 none, aboveTable := false, window := [], suspect := none,
    stale := false, staleTimer := none, stepRef := none, shipHi := false, shipHihi := false, ownHi := false,
    ownHihi := false, hiStopMark := none, gaugeStep := false, blindTimer := none }

/-- The plan after power-on and after INIT (R1). -/
def Plan.blank : Plan := { slots := Vector.replicate 16 none, nextId := 0 }

/-- The empty hold-reason set. -/
def HoldSet.empty : HoldSet :=
  { noGrant := false, headerWait := false, noPump := false, settling := false, lineupDropped := false, sourceLow := false,
    blind := false, pauseB := false, pauseS := false }

/-- Metering after power-on (R115). -/
def Meter.blank : Meter :=
  { total := 0, saturated := false, windowCount := 0, nextRefresh := 10, rate := 0, stallTimer := none,
    unmeteredGain := false }

/-- A channel after power-on with its inputs as read, its stroke timer not yet started (R72, R179). -/
def Channel.blank (i : ChannelInputs) : Channel :=
  { state := .masked, command := .toClose, openLimit := i.openLimit, closedLimit := i.closedLimit, strokeTimer := none,
    openingStarted := none, holds := HoldSet.empty, authorised := false, hose := .drained, lastStop := none,
    pressure := i.pressure, tension := i.tension, sourceLow := i.sourceLow, pressureTimer := none, sourceLowTimer := none,
    strainTimer := none, strain := false, highSoon := false, grant := 0, meter := Meter.blank }

/-- A port after power-on (R165). -/
def Port.blank : Port :=
  { link := .silent, silenceTimer := none, replies := [], notices := [], lost := false,
    ended := Vector.replicate 4 false, rx := none, sending := none }

/-- The cursor after power-on (R24). -/
def Cursor.origin : Cursor := { tank := 0, index := 0 }

/-- DESIGN CHOICE (log 5): the field inputs State.reset was powered on with: every valve closed, nothing pressing, nothing
low, both loops closed, the pump stopped. -/
def resetInputs : FieldInputs :=
  let k : ChannelInputs := { openLimit := false, closedLimit := true, pressure := 0, tension := 0, sourceLow := false }
  { channels := #v[k, k, k, k], loopBOpen := false, loopSOpen := false, dp := false, pumpRunning := false }

/-- DESIGN CHOICE (log 6): the store of State.reset was never written, so power-on has loaded the defaults (R176). -/
def resetStore : Store :=
  { copy := { items := SiteConfig.default, checkWord := Config.checkWord SiteConfig.default + 1 }, valid := false, inFlight := none,
    configDefaults := true }

/-- The part right after power-on (R179) with the inputs `resetInputs` and the store `resetStore`: every valve is proven closed,
so TRIPPING has passed to TRIPPED (R179 step 6), with first-out RESTART. It is what POWER_ON makes of those inputs. -/
def State.reset : State :=
  let k := Channel.blank { openLimit := false, closedLimit := true, pressure := 0, tension := 0, sourceLow := false }
  { powered := true
    now := 0
    plan := Plan.blank
    tanks := Vector.replicate 12 Tank.blank
    channels := #v[k, k, k, k]
    header :=
      { state := .tripped, returnState := none, primeTimer := none, waitTimer := none, dp := false, pumpRunning := false,
        high := [.chan 0, .chan 1, .chan 2, .chan 3, .lowToken], low := [] }
    queue := { proposals := [], nextId := 1 }
    trip :=
      { state := .tripped, firstOut := some { cause := .restart, origin := .watch, stamp := 0 }, later := [], more := false,
        unproven := Vector.replicate 4 false, loopBOpen := false, loopSOpen := false,
        cautions := [{ caution := .configDefaults, stamp := 0 }], horn := .trip, mute := none }
    portB := Port.blank
    portS := Port.blank
    cursor := Cursor.origin
    config := SiteConfig.default
    store := resetStore
    freeCount := 0
    evals := []
    pending := [] }

end Sys2Proof.Machine
end

