-- ==== Sys2Proof/Machine/Operands.lean ====
section
/-! DEFINITION. The ranges of request fields: a number as sent becomes a channel, a tank, an entry id, a declaration, a
configuration or a proposal body, or the request is refused RANGE by its owning rule. -/

namespace Sys2Proof

/-- Ranges are inclusive at both ends (00 "Numbers"). -/
def inRange (lo hi n : Nat) : Bool := decide (lo ≤ n ∧ n ≤ hi)

/-- Checks 1 (fields) and 2 of R19, by the ranges of R18. -/
def TankDecl.ok (d : TankDecl) : Bool :=
  inRange 1 4 d.grade && inRange 1 30000 d.hHi && inRange 1 30000 d.hHihi && inRange 5 500 d.slosh
    && inRange 1000 200000 d.toppingVolume && inRange 50 5000 d.toppingRate && inRange 100 10000 d.slugVolume
    && inRange 50 2000 d.stepLimit && decide (d.hHi < d.hHihi) && decide (d.slugVolume < d.toppingVolume)

/-- A strapping point within R18. -/
def Point.ok (p : Point) : Bool := inRange 0 30000 p.level && inRange 0 10000000 p.volume

/-- Checks 1 (fields) and 2 of R73. -/
def ChannelConfig.ok (k : ChannelConfig) : Bool :=
  inRange 1 4 k.grade && inRange 5 120 k.strokeTime && inRange 0 5000 k.hoseDrain && inRange 100 100000 k.kFactor
    && inRange 50 20000 k.hoseMaxRate && inRange 50 2000 k.minFlow && inRange 100 2500 k.pressureMax
    && inRange 10 5000 k.strainWarn && inRange 10 5000 k.strainTrip && decide (k.strainWarn < k.strainTrip)

/-- The header fields within R97. -/
def HeaderConfig.ok (h : HeaderConfig) : Bool :=
  inRange 500 20000 h.capacity && inRange 20 300 h.primeTime && inRange 30 600 h.waitLimit

/-- The device-wide items within R175. -/
def DeviceConfig.ok (d : DeviceConfig) : Bool :=
  inRange 2 30 d.linkSilence && inRange 10 600 d.consentWindow && inRange 5 120 d.staleTime && inRange 10 300 d.blindLimit
    && inRange 1 10 d.strainDwell && inRange 10 300 d.sourceLowLimit && inRange 5 60 d.stallTime
    && inRange 100 5000 d.reconFloor

end Sys2Proof

namespace Sys2Proof.Machine

/-- A channel number 0 to 3 (R73, R85, R88, R94 to R96). -/
def chanOf (n : Nat) : Option Chan := if h : n < 4 then some ⟨n, h⟩ else none

/-- A tank number 0 to 11 (R19, R25, R32, R35). -/
def tankOf (n : Nat) : Option TankNo := if h : n < 12 then some ⟨n, h⟩ else none

/-- An entry id 0 to 15 (R15, R16, R169). -/
def entryOf (n : Nat) : Option EntryId := if h : n < 16 then some ⟨n, h⟩ else none

/-- A proposal whose fields lie within R129. -/
def proposalOf : RawProposal → Option ProposalBody
  | .plan c t a r m =>
    match chanOf c, tankOf t with
    | some c, some t => if inRange 100 4000000 a && inRange 50 20000 r then some (.plan c t a r m) else none
    | _, _ => none
  | .amend e a r =>
    match entryOf e with
    | some e => if inRange 100 4000000 a && inRange 50 20000 r then some (.amend e a r) else none
    | none => none
  | .cancel e => (entryOf e).map .cancel
  | .start c => (chanOf c).map .start
  | .clear k => if inRange 1 11 k then some (.clear k) else none
  | .init => some .init

end Sys2Proof.Machine
end

