-- ==== Sys2Proof/Machine/Flags.lean ====
section
/-! DEFINITION. What the spec works from the state at every moment: current entries, level states and volumes, calling and locked-in
channels, requests, standing conditions, and the outputs (log 29). -/

namespace Sys2Proof.Machine

/-- The four channels in ascending number. -/
def chans : List Chan := [0, 1, 2, 3]

/-- The twelve tanks in ascending number. -/
def tankNos : List TankNo := [0, 1, 2, 3, 4, 5, 6, 7, 8, 9, 10, 11]

/-- The sixteen entry ids in ascending order, which is plan order (R1). -/
def entryIds : List EntryId := [0, 1, 2, 3, 4, 5, 6, 7, 8, 9, 10, 11, 12, 13, 14, 15]

/-! ### Reading the state -/

def State.chan (s : State) (c : Chan) : Channel := s.channels.get c
def State.tank (s : State) (t : TankNo) : Tank := s.tanks.get t
def State.entry (s : State) (i : EntryId) : Option Entry := s.plan.slots.get i
def State.chanConfig (s : State) (c : Chan) : ChannelConfig := s.config.channels.get c

/-- The port of a side (R163). -/
def State.port (s : State) : Side → Port
  | .barge => s.portB
  | .ship => s.portS

/-! ### Entries (chapter 1) -/

/-- DONE, SHORT and CANCELLED are terminal (R2). -/
def EntryState.terminal : EntryState → Bool
  | .done | .short | .cancelled => true
  | .queued | .await | .active => false

/-- Remaining = max(0, allotment − delivered) (R4). -/
def Entry.remaining (e : Entry) : Nat := e.allotment - e.delivered

/-- A non-terminal entry of channel `c`. -/
def Entry.live (e : Entry) (c : Chan) : Bool := e.chan == c && !e.state.terminal

/-- A channel's current entry: its earliest non-terminal entry in plan order (R3). -/
def State.currentId (s : State) (c : Chan) : Option EntryId :=
  entryIds.find? fun i =>
    match s.entry i with
    | some e => e.live c
    | none => false

/-- The current entry's id and record (R3). -/
def State.current (s : State) (c : Chan) : Option (EntryId × Entry) :=
  match s.currentId c with
  | some i =>
    match s.entry i with
    | some e => some (i, e)
    | none => none
  | none => none

/-- The current entry while it is ACTIVE. -/
def State.activeEntry (s : State) (c : Chan) : Option (EntryId × Entry) :=
  match s.current c with
  | some (i, e) => if e.state = .active then some (i, e) else none
  | none => none

/-- The channel whose current entry names the tank; there is at most one (R5, R45). -/
def State.servingChan (s : State) (t : TankNo) : Option Chan :=
  chans.find? fun c =>
    match s.current c with
    | some (_, e) => e.tank == t
    | none => false

/-- The channel whose ACTIVE entry names the tank (R47, R53). -/
def State.activeChan (s : State) (t : TankNo) : Option Chan :=
  chans.find? fun c =>
    match s.activeEntry c with
    | some (_, e) => e.tank == t
    | none => false

/-- A tank is in use while a non-terminal entry names it (R21). -/
def State.tankInUse (s : State) (t : TankNo) : Bool :=
  entryIds.any fun i =>
    match s.entry i with
    | some e => e.tank == t && !e.state.terminal
    | none => false

/-- The volume of a count of pulses: floor(n × 100 / K) (R118). -/
def pulseVolume (n k : Nat) : Nat := n * 100 / k

/-! ### Level states and volumes (chapters 2 and 3) -/

/-- The greatest level of a window. -/
def greatest (w : List Reading) : Nat := w.foldl (fun a r => max a r.level) 0

/-- The least level of a window. -/
def least : List Reading → Nat
  | [] => 0
  | r :: rs => rs.foldl (fun a r => min a r.level) r.level

/-- The sum of a window's levels. -/
def levelSum (w : List Reading) : Nat := (w.map Reading.level).sum

/-- The slosh tolerance the window is judged by; an undefined tank has no readings. -/
def Tank.sloshTolerance (k : Tank) : Nat :=
  match k.decl with
  | some d => d.slosh
  | none => 0

/-- The level state, the first row of R40 that applies. -/
def Tank.levelState (k : Tank) : LevelState :=
  if k.suspect.isSome then .suspect
  else if k.window.isEmpty then .cold
  else if k.stale then .stale
  else if k.window.length < 8 then .partFull
  else if greatest k.window - least k.window ≤ k.sloshTolerance then .steady
  else .sloshing

/-- The effective level, absent in COLD, STALE and SUSPECT (R40). -/
def Tank.lEff (k : Tank) : Option Nat :=
  match k.levelState with
  | .partFull | .sloshing => some (greatest k.window)
  | .steady => some (levelSum k.window / 8)
  | .cold | .stale | .suspect => none

/-- PARTIAL, STEADY or SLOSHING. -/
def LevelState.known : LevelState → Bool
  | .partFull | .steady | .sloshing => true
  | .cold | .stale | .suspect => false

/-- STEADY or SLOSHING. -/
def LevelState.settled : LevelState → Bool
  | .steady | .sloshing => true
  | .partFull | .cold | .stale | .suspect => false

/-- A tank's HI assertion (R44). -/
def Tank.hi (k : Tank) : Bool := k.shipHi || k.ownHi

/-- A tank's HIHI assertion (R44). -/
def Tank.hihi (k : Tank) : Bool := k.shipHihi || k.ownHihi

/-- The point in a slot, none where it is unwritten or past slot 15. -/
def Tank.point (k : Tank) (n : Nat) : Option Point :=
  match k.points.toList[n]? with
  | some (some p) => some p
  | _ => none

/-- Points 0 to n−1 where all are written (R27 check 3). -/
def Tank.firstPoints (k : Tank) (n : Nat) : Option (List Point) :=
  let ps := (k.points.toList.take n).filterMap id
  if ps.length = n then some ps else none

/-- The sealed table's points (R29). -/
def Tank.table (k : Tank) : List Point :=
  match k.strap with
  | .sealed n => (k.points.toList.take n).filterMap id
  | .empty | .unsealed => []

/-- The level of sealed point N−1 (R19, R30). -/
def Tank.topLevel (k : Tank) : Option Nat := k.table.getLast?.map Point.level

/-- V(h) from point `p` on (R29): the clamp at the last point, else the segment's interpolation, truncated. -/
def volumeFrom (h : Nat) (p : Point) : List Point → Nat
  | [] => p.volume
  | q :: rest =>
    if h < q.level then p.volume + (h - p.level) * (q.volume - p.volume) / (q.level - p.level)
    else volumeFrom h q rest

/-- V(h) from a table of points (R29); none where there is no table. -/
def volumeAt (h : Nat) : List Point → Option Nat
  | [] => none
  | p :: rest => some (if h < p.level then p.volume else volumeFrom h p rest)

/-- A tank's V(h): made from a SEALED table only (R29). -/
def Tank.volume (k : Tank) (h : Nat) : Option Nat := volumeAt h k.table

/-! ### Holds (R76) -/

/-- Whether a reason is in the set. -/
def HoldSet.has (h : HoldSet) : HoldReason → Bool
  | .noGrant => h.noGrant | .headerWait => h.headerWait | .noPump => h.noPump | .settling => h.settling
  | .lineupDropped => h.lineupDropped | .sourceLow => h.sourceLow | .blind => h.blind | .pauseB => h.pauseB
  | .pauseS => h.pauseS

/-- The set with a reason put in or taken out. -/
def HoldSet.put (h : HoldSet) (r : HoldReason) (v : Bool) : HoldSet :=
  match r with
  | .noGrant => { h with noGrant := v } | .headerWait => { h with headerWait := v } | .noPump => { h with noPump := v }
  | .settling => { h with settling := v } | .lineupDropped => { h with lineupDropped := v }
  | .sourceLow => { h with sourceLow := v } | .blind => { h with blind := v } | .pauseB => { h with pauseB := v }
  | .pauseS => { h with pauseS := v }

/-- The set with reasons added; one already present is not added twice (R76). -/
def HoldSet.plus (h : HoldSet) (rs : List HoldReason) : HoldSet := rs.foldl (fun h r => h.put r true) h

/-- The set with reasons removed. -/
def HoldSet.minus (h : HoldSet) (rs : List HoldReason) : HoldSet := rs.foldl (fun h r => h.put r false) h

/-- No reason stands. -/
def HoldSet.isEmpty (h : HoldSet) : Bool := h == HoldSet.empty

/-- The pause of a side (R94). -/
def pauseOf : Side → HoldReason
  | .barge => .pauseB
  | .ship => .pauseS

/-! ### Channels (chapter 5) -/

/-- The valve command of a state (R75). -/
def ChState.command : ChState → ValveCommand
  | .opening | .flowing | .held => .toOpen
  | .masked | .idle | .closing | .fault => .toClose

/-- Proven closed: the closed limit present and the open limit absent (R75). -/
def Channel.provenClosed (k : Channel) : Bool := k.closedLimit && !k.openLimit

/-- Proven open (R75). -/
def Channel.provenOpen (k : Channel) : Bool := k.openLimit && !k.closedLimit

/-- The valve is stroking under command (R80, R83). -/
def Channel.stroking (k : Channel) : Bool :=
  match k.state with
  | .opening | .closing => true
  | .masked | .idle | .flowing | .held | .fault => false

/-- A channel calls on the header while its valve stands open for service (R99). -/
def Channel.calling (k : Channel) : Bool :=
  match k.state with
  | .flowing | .held => true
  | .masked | .idle | .opening | .closing | .fault => false

/-- The pressure and source-low watches run in OPENING, FLOWING and HELD (R91, R93). -/
def Channel.watched (k : Channel) : Bool :=
  match k.state with
  | .opening | .flowing | .held => true
  | .masked | .idle | .closing | .fault => false

/-- Some channel calls (R99). -/
def State.anyCalling (s : State) : Bool := chans.any fun c => (s.chan c).calling

/-- An entry whose FLOWING channel is locked in: BATCH, or SLUG with a slug delivering (R87). -/
def Entry.locks (e : Entry) : Bool :=
  match e.mode with
  | .batch => true
  | .slug =>
    match e.slug with
    | some r => r.phase == .delivering
    | none => false
  | .demand => false

/-- Locked in: FLOWING with such an entry ACTIVE (R87). -/
def State.lockedIn (s : State) (c : Chan) : Bool :=
  (s.chan c).state == .flowing &&
    match s.activeEntry c with
    | some (_, e) => e.locks
    | none => false

/-- The valve drive: the command is OPEN and neither loop is open (R75, R150). -/
def State.valveDriven (s : State) (c : Chan) : Bool :=
  s.powered && (s.chan c).command == .toOpen && !s.trip.loopBOpen && !s.trip.loopSOpen

/-! ### The ladder cap and the request (R65, R109) -/

/-- The ladder cap of a stage, R_top in TOPPING and SLUG, 0 in FINAL, none in OPEN and before the first activation (R65). -/
def stageCap (rTop : Nat) : Option Stage → Option Nat
  | none => none
  | some .full => none
  | some .topping => some rTop
  | some .slug => some rTop
  | some .final => some 0

/-- The tank's topping rate; an entry's tank is defined (R5, R21). -/
def State.topRate (s : State) (t : TankNo) : Nat :=
  match (s.tank t).decl with
  | some d => d.toppingRate
  | none => 0

/-- Whether an entry's slug is settling (R52). -/
def Entry.settling (e : Entry) : Bool :=
  match e.slug with
  | some r => r.phase == .settling
  | none => false

/-- The ladder cap of an entry: none while it settles short of FINAL (R65). -/
def State.ladderCap (s : State) (e : Entry) : Option Nat :=
  if e.settling && e.stage != some .final then none else stageCap (s.topRate e.tank) e.stage

/-- The lower of two limits where the second may be none. -/
def capped (r : Nat) : Option Nat → Nat
  | none => r
  | some c => min r c

/-- A channel asks for a rate while FLOWING, or HELD with an empty set or NO_GRANT alone (R109). -/
def Channel.asks (k : Channel) : Bool :=
  match k.state with
  | .flowing => true
  | .held => (k.holds.put .noGrant false).isEmpty
  | .masked | .idle | .opening | .closing | .fault => false

/-- A channel's request r (R109). -/
def State.request (s : State) (c : Chan) : Nat :=
  if (s.chan c).asks then
    match s.current c with
    | some (_, e) => capped (min e.planRate (s.chanConfig c).hoseMaxRate) (s.ladderCap e)
    | none => 0
  else 0

/-! ### Standing conditions, settling and the horn (chapter 9) -/

/-- The standing conditions of R155. -/
def State.standing (s : State) : Standing :=
  { loopB := s.trip.loopBOpen
    loopS := s.trip.loopSOpen
    portB := s.portB.link != .live
    portS := s.portS.link != .live
    hihi := tankNos.any fun t => (s.tank t).hihi
    tension := chans.any fun c => decide ((s.chanConfig c).strainTrip ≤ (s.chan c).tension)
    dp := s.header.dp
    pump := !s.header.pumpRunning && s.anyCalling }

/-- Some standing condition is present (R154 check 2). -/
def Standing.any (k : Standing) : Bool :=
  k.loopB || k.loopS || k.portB || k.portS || k.hihi || k.tension || k.dp || k.pump

/-- Every channel is proven closed (R154 check 3). -/
def State.allClosed (s : State) : Bool := chans.all fun c => (s.chan c).provenClosed

/-- A channel is settled when its valve is proven closed or its unproven mark is set (R148). -/
def State.settled (s : State) (c : Chan) : Bool := (s.chan c).provenClosed || s.trip.unproven.get c

/-- Every channel is settled (R148). -/
def State.allSettled (s : State) : Bool := chans.all fun c => s.settled c

/-- A channel's ALARM condition: its last stop is present and not acknowledged (R158). -/
def Channel.alarm (k : Channel) : Bool :=
  match k.lastStop with
  | some l => !l.acknowledged
  | none => false

/-- The horn class: the highest whose condition is present (R160). -/
def State.hornClass (s : State) : HornClass :=
  if s.trip.state ≠ .normal then .trip
  else if chans.any fun c => (s.chan c).alarm then .alarm
  else if s.trip.cautions.isEmpty then .quiet
  else .caution

/-- The order of the classes (R160). -/
def HornClass.rank : HornClass → Nat
  | .quiet => 0 | .caution => 1 | .alarm => 2 | .trip => 3

/-- The patterns of horn and beacon (R160). -/
inductive HornPattern where
  | off | pulsed1Hz | pulsed4Hz | constant
  deriving DecidableEq, Repr

/-- The pattern of a class (R160). -/
def HornClass.pattern : HornClass → HornPattern
  | .quiet => .off | .caution => .pulsed1Hz | .alarm => .pulsed4Hz | .trip => .constant

/-- The horn output: off while the mute is set (R160). -/
def Trip.hornOutput (t : Trip) : HornPattern := if t.mute.isSome then .off else t.horn.pattern

/-- The beacon output: always the class's pattern (R160). -/
def Trip.beaconOutput (t : Trip) : HornPattern := t.horn.pattern

/-! ### The stored copy (R176) -/

/-- The check of R176: the check word worked over the stored copy is the one stored with it. -/
def StoredCopy.agrees (k : StoredCopy) : Bool := decide (Config.checkWord k.items = k.checkWord)

/-! ### Pump outputs and flow setpoints (R107) -/

/-- The pump RUN output (R107). -/
def HeaderState.run : HeaderState → Bool
  | .priming | .serving | .standby => true
  | .idle | .waiting | .tripped => false

/-- A channel's flow setpoint output: its grant at every moment (R107). -/
def State.flowSetpoint (s : State) (c : Chan) : Nat := (s.chan c).grant

/-- The sum of the four grants. -/
def State.grantSum (s : State) : Nat := (chans.map fun c => (s.chan c).grant).sum

/-- The pump demand output (R107). -/
def State.pumpDemand (s : State) : Nat := if s.header.state = .serving then s.grantSum else 0

/-! ### Views (R17, R96, R114, R162) -/

def Entry.view (e : Entry) (i : EntryId) : EntryView :=
  { id := i, chan := e.chan, tank := e.tank, mode := e.mode, state := e.state, allotment := e.allotment,
    planRate := e.planRate, delivered := e.delivered, remaining := e.remaining, lineup := e.lineup, stage := e.stage,
    endPending := e.endPending, endReason := e.endReason }

def State.channelView (s : State) (c : Chan) : ChannelView :=
  let k := s.chan c
  { chan := c, state := k.state, holds := k.holds, authorised := k.authorised, lockedIn := s.lockedIn c,
    current := s.currentId c, hose := k.hose, grant := k.grant }

def State.headerView (s : State) : HeaderView :=
  let h := s.header
  { state := h.state, returnState := h.returnState, capacity := s.config.header.capacity, policy := s.config.header.policy,
    priority := s.config.priority, grants := chans.map fun c => (s.chan c).grant, run := h.state.run,
    demand := s.pumpDemand, dp := h.dp, pumpRunning := h.pumpRunning, primeTimer := h.primeTimer, waitTimer := h.waitTimer,
    high := h.high, low := h.low }

def State.tripView (s : State) : TripView :=
  { state := s.trip.state, firstOut := s.trip.firstOut, later := s.trip.later, more := s.trip.more,
    unproven := s.trip.unproven, loopBOpen := s.trip.loopBOpen, loopSOpen := s.trip.loopSOpen, linkB := s.portB.link,
    linkS := s.portS.link, standing := s.standing, horn := s.trip.horn, mute := s.trip.mute }

/-! ### Codes (R88, R149) -/

/-- The code of a channel stop (R88). -/
def StopCause.code : StopCause → Nat
  | .stopCh => 32 | .lineupLost => 33 | .overpressure => 34 | .meterStall => 35 | .sourceEmpty => 36 | .gaugeLost => 37
  | .levelHi => 38 | .misroute => 39 | .valveStuck => 40

/-- The code of a shutdown cause (R149). -/
def ShutdownCause.code : ShutdownCause → Nat
  | .restart => 1 | .esdB => 2 | .esdS => 3 | .linkB => 4 | .linkS => 5 | .stopAll => 6 | .levelHihi _ => 7
  | .hoseStrain _ => 8 | .strainer => 9 | .pumpFail => 10 | .valveUnproven _ => 11

/-- A side as an origin (R88, R149). -/
def originOf : Side → Origin
  | .barge => .barge
  | .ship => .ship

end Sys2Proof.Machine
end

