-- ==== Sys2Proof/Machine/Ops.lean ====
section
/-! DEFINITION. The operations every block shares: time and timers, writing one channel, tank, entry or port, raising a notice
on both ports (R172), and changing a hold-reason set (R76). -/

namespace Sys2Proof.Machine

/-! ### Time -/

/-- A time stamp `d` seconds after `t`, held in 32 bits (00 "Time"); what it holds past them is the free value of log 4. -/
def stampAdd (t d : Nat) : Nat :=
  if t + d < 4294967296 then t + d else (Config.stampBeyond (t + d)).toNat

/-- The expiry time of a timer started now. -/
def State.expiry (s : State) (d : Nat) : Nat := stampAdd s.now d

/-- A timer's expiry is taken when it runs and its time has run out (00 "Time"; log 2). -/
def State.due (s : State) : Option Nat → Bool
  | some x => decide (x ≤ s.now)
  | none => false

/-- ceil(a / b) for b above 0. -/
def ceilDiv (a b : Nat) : Nat := (a + b - 1) / b

/-- The full stroke timeout ceil(3 × t_close / 2) (R79, R81, R83). -/
def strokeTimeout (t : Nat) : Nat := ceilDiv (3 * t) 2

/-! ### Writing the state -/

def State.setChan (s : State) (c : Chan) (k : Channel) : State := { s with channels := s.channels.set c k }
def State.modChan (s : State) (c : Chan) (f : Channel → Channel) : State := s.setChan c (f (s.chan c))
def State.setTank (s : State) (t : TankNo) (k : Tank) : State := { s with tanks := s.tanks.set t k }
def State.modTank (s : State) (t : TankNo) (f : Tank → Tank) : State := s.setTank t (f (s.tank t))
def State.setEntry (s : State) (i : EntryId) (e : Option Entry) : State :=
  { s with plan := { s.plan with slots := s.plan.slots.set i e } }
def State.modEntry (s : State) (i : EntryId) (f : Entry → Entry) : State := s.setEntry i ((s.entry i).map f)
def State.modHeader (s : State) (f : Header → Header) : State := { s with header := f s.header }
def State.modTrip (s : State) (f : Trip → Trip) : State := { s with trip := f s.trip }
def State.modMeter (s : State) (c : Chan) (f : Meter → Meter) : State :=
  s.modChan c fun k => { k with meter := f k.meter }

def State.setPort (s : State) (p : Side) (x : Port) : State :=
  match p with
  | .barge => { s with portB := x }
  | .ship => { s with portS := x }

def State.modPort (s : State) (p : Side) (f : Port → Port) : State := s.setPort p (f (s.port p))

/-! ### Notices (R172) -/

/-- How a port takes an offered notice: LIVE with fewer than 16 waiting it joins the tail, LIVE with 16 it is dropped and notices
lost is set, SILENT it is dropped (R172). -/
def Port.offer (n : Notice) (p : Port) : Port :=
  match p.link with
  | .silent => p
  | .live => if p.notices.length < 16 then { p with notices := p.notices ++ [n] } else { p with lost := true }

/-- Raises a notice: offered once to both ports (R172). -/
def raise (n : Notice) (s : State) : State := { s with portB := s.portB.offer n, portS := s.portS.offer n }

/-- N-ENTRY (R17). -/
def noteEntry (ev : EntryEvent) (i : EntryId) (s : State) : State :=
  match s.entry i with
  | some e => raise (.entry ev (e.view i) s.now) s
  | none => s

/-- N-CHANNEL; the event STOP carries the last stop (R96). -/
def noteChan (ev : ChannelEvent) (c : Chan) (s : State) : State :=
  raise (.channel ev (s.channelView c) (if ev = .stop then (s.chan c).lastStop else none) s.now) s

/-- N-HEADER (R114). -/
def noteHeader (ev : HeaderEvent) (s : State) : State := raise (.header ev s.headerView s.now) s

/-- N-TRIP (R162). -/
def noteTrip (ev : TripEvent) (s : State) : State := raise (.trip ev s.tripView none s.now) s

/-- N-PROPOSAL (R145). -/
def noteProposal (ev : ProposalEvent) (p : Proposal) (s : State) : State :=
  raise (.proposal ev p.id p.side p.body p.arrival s.now) s

/-- N-TANK of chapter 2; the event DEFINED carries the declared fields (R32). -/
def noteTank (ev : TankEvent) (t : TankNo) (s : State) : State :=
  let k := s.tank t
  raise (.tank ev t k.decl.isSome k.strap k.aboveTable (if ev = .defined then k.decl else none) s.now) s

/-- N-TANK LEVEL_STATE (R49). -/
def noteLevel (t : TankNo) (reading : Option (Nat × Quality)) (s : State) : State :=
  let k := s.tank t
  raise (.tankLevel t k.levelState k.lEff k.window.length k.suspect reading s.now) s

/-- N-TANK ALARM (R49). -/
def noteAlarm (t : TankNo) (s : State) : State :=
  let k := s.tank t
  raise (.tankAlarm t k.shipHi k.shipHihi k.ownHi k.ownHihi s.now) s

/-! ### Hold-reason sets (R76) -/

/-- N-CHANNEL HOLDS where the channel's set is not what it was in `before` (R76, R96). -/
def noteHoldsChange (before : State) (c : Chan) (s : State) : State :=
  if (s.chan c).holds = (before.chan c).holds then s else noteChan .holds c s

/-- N-CHANNEL STATE where the channel's state is not what it was in `before` (R74, R96). -/
def noteStateChange (before : State) (c : Chan) (s : State) : State :=
  if (s.chan c).state = (before.chan c).state then s else noteChan .state c s

/-- Updates a channel's record where the rule changes the hold set and then the state (R76, R81): N-CHANNEL HOLDS and then STATE, each
where that item changed (R96). Both carry the record as updated (log 11). -/
def updateChan (c : Chan) (f : Channel → Channel) (s : State) : State :=
  noteStateChange s c (noteHoldsChange s c (s.modChan c f))

/-- Updates a channel's record where the rule changes the state and then the hold set (R80, R82, R84): N-CHANNEL STATE and then HOLDS, each
where that item changed (R96). Both carry the record as updated (log 11). -/
def moveChan (c : Chan) (f : Channel → Channel) (s : State) : State :=
  noteHoldsChange s c (noteStateChange s c (s.modChan c f))

/-- A channel whose set gains reasons: a FLOWING one becomes HELD, its grant 0 and its stall timer stopped, in the same event (R76,
R120). -/
def Channel.holdWith (k : Channel) (rs : List HoldReason) : Channel :=
  let h := k.holds.plus rs
  if k.holds = h then k
  else if k.state = .flowing then
    { k with state := .held, command := .toOpen, grant := 0, holds := h, meter := { k.meter with stallTimer := none } }
  else { k with holds := h }

/-- Adds reasons to a set (R76). The regrant is the caller's. -/
def addHolds (c : Chan) (rs : List HoldReason) (s : State) : State := updateChan c (fun k => k.holdWith rs) s

/-- The set a removal leaves: NO_GRANT is placed where a HELD channel's set would otherwise become empty with the grant 0 (R76). -/
def Channel.holdsWithout (k : Channel) (rs : List HoldReason) : HoldSet :=
  let h := k.holds.minus rs
  if k.state = .held && k.grant = 0 && h.isEmpty then h.put .noGrant true else h

/-- Removes reasons from a set (R76). The regrant is the caller's. -/
def removeHolds (c : Chan) (rs : List HoldReason) (s : State) : State :=
  updateChan c (fun k => { k with holds := k.holdsWithout rs }) s

/-! ### The transmitters (R171) -/

/-- A transmitter that has become free takes the oldest reply, else the oldest notice, which leaves its list (R171). -/
def Port.transmit (x : Port) : Port :=
  match x.replies with
  | r :: rs => { x with replies := rs, sending := some (.reply r) }
  | [] =>
    match x.notices with
    | n :: ns => { x with notices := ns, sending := some (.notice n) }
    | [] => { x with sending := none }

/-- A transmitter that is free takes its next frame; one that is sending goes on (R171). -/
def Port.begin (x : Port) : Port :=
  match x.sending with
  | some _ => x
  | none => x.transmit

/-- Both transmitters, at the end of a command, its replies and notices in their lists (R171; log 23). -/
def State.startSending (s : State) : State := { s with portB := s.portB.begin, portS := s.portS.begin }

/-! ### Commands -/

/-- A command's effect on a powered part; a part without supply takes no command but POWER_ON (log 8). -/
def whileOn (s : State) (f : State → State) : Host.Outcome State Fault Refusal :=
  .next (if s.powered then f s else s)

end Sys2Proof.Machine
end

