-- ==== Sys2Proof/Machine/Annunciation.lean ====
section
/-! DEFINITION. The horn class, the mute and the caution set (R158 to R161). -/

namespace Sys2Proof.Machine

/-- The mute after a cause of a class is added: it ends at a cause of the muted class or a higher one (R161). -/
def muteAfterCause (mute : Option HornClass) (added : Option HornClass) : Option HornClass :=
  match mute, added with
  | some m, some a => if m.rank ≤ a.rank then none else some m
  | m, _ => m

/-- The mute after the class is judged: cleared at NONE, falling with a class below the muted one (R161). -/
def muteAfterClass (mute : Option HornClass) (cls : HornClass) : Option HornClass :=
  match mute with
  | none => none
  | some m => if cls = .quiet then none else if cls.rank < m.rank then some cls else some m

/-- Judges the horn class and the mute, a cause of class `added` having been added where it is present; one N-TRIP HORN where
class or mute changed (R160, R161; log 13). -/
def judgeHorn (added : Option HornClass) (s : State) : State :=
  let cls := s.hornClass
  let mute := muteAfterClass (muteAfterCause s.trip.mute added) cls
  if cls = s.trip.horn ∧ mute = s.trip.mute then s
  else noteTrip .horn (s.modTrip fun t => { t with horn := cls, mute := mute })

/-- Two cautions have one kind and key; a channel has one UNMETERED_GAIN, whatever tank it carries (R159). -/
def Caution.same (a b : Caution) : Bool :=
  match a, b with
  | .unmeteredGain c _, .unmeteredGain d _ => c == d
  | a, b => a == b

/-- N-CAUTION (R162). -/
def noteCaution (k : Caution) (active : Bool) (s : State) : State :=
  raise (.caution k active s.now s.trip.cautions) s

/-- The owner hands a caution active: its entry is added, and a CAUTION cause with it (R159). -/
def cautionOn (k : Caution) (s : State) : State :=
  if s.trip.cautions.any fun e => e.caution.same k then s
  else
    judgeHorn (some .caution) (noteCaution k true (s.modTrip fun t =>
      { t with cautions := t.cautions ++ [{ caution := k, stamp := s.now }] }))

/-- The owner hands a caution inactive: its entry is removed (R159). -/
def cautionOff (k : Caution) (s : State) : State :=
  if s.trip.cautions.any fun e => e.caution.same k then
    judgeHorn none (noteCaution k false (s.modTrip fun t =>
      { t with cautions := t.cautions.filter fun e => !e.caution.same k }))
  else s

/-- Hands a caution as its owner holds it (R159). -/
def setCaution (k : Caution) (active : Bool) (s : State) : State := if active then cautionOn k s else cautionOff k s

/-- The STRAIN caution of a channel (R92); each change is handed on. -/
def setStrain (c : Chan) (v : Bool) (s : State) : State :=
  if (s.chan c).strain = v then s else setCaution (.strain c) v (s.modChan c fun k => { k with strain := v })

/-- The HIGH_SOON item of a channel (R59); each change is handed on. -/
def setHighSoon (c : Chan) (v : Bool) (s : State) : State :=
  if (s.chan c).highSoon = v then s else setCaution (.highSoon c) v (s.modChan c fun k => { k with highSoon := v })

/-- The UNMETERED_GAIN caution of a channel, with the entry's tank (R126); each change is handed on. -/
def setUnmetered (c : Chan) (t : TankNo) (v : Bool) (s : State) : State :=
  if (s.chan c).meter.unmeteredGain = v then s
  else setCaution (.unmeteredGain c t) v (s.modMeter c fun m => { m with unmeteredGain := v })

/-- The GAUGE_STEP caution of a tank (R37); each change is handed on. -/
def setGaugeStep (t : TankNo) (v : Bool) (s : State) : State :=
  if (s.tank t).gaugeStep = v then s else setCaution (.gaugeStep t) v (s.modTank t fun k => { k with gaugeStep := v })

/-- The CONFIG_DEFAULTS caution (R176, R178); each change is handed on. -/
def setConfigDefaults (v : Bool) (s : State) : State :=
  if s.store.configDefaults = v then s
  else setCaution .configDefaults v { s with store := { s.store with configDefaults := v } }

end Sys2Proof.Machine
end

