-- ==== Sys2Proof/Machine/Arbiter.lean ====
section
/-! DEFINITION. The Header Arbiter: the grants (R108 to R111), the priority lists (R112, R113), and what the calling set does to the
header state (R100 to R105). -/

namespace Sys2Proof.Machine

/-! ### Priority (R112, R113) -/

/-- The order under GROUPED: the HIGH list with the whole LOW list at the place of the token (R112). -/
def groupedOrder (high : List HighItem) (low : List Chan) : List Chan :=
  high.flatMap fun
    | .chan c => [c]
    | .lowToken => low

/-- The priority order in force (R112). -/
def State.priorityOrder (s : State) : List Chan :=
  match s.config.priority with
  | .fixed => chans
  | .grouped => groupedOrder s.header.high s.header.low

/-- The HIGH list built afresh from the configured groups (R112). -/
def freshHigh (k : SiteConfig) : List HighItem :=
  (chans.filter fun c => (k.channels.get c).group == .high).map .chan ++ [.lowToken]

/-- The LOW list built afresh from the configured groups (R112). -/
def freshLow (k : SiteConfig) : List Chan := chans.filter fun c => (k.channels.get c).group == .low

/-- Moves an item to the tail of a list that holds it. -/
def toTail {α : Type} [DecidableEq α] (x : α) (xs : List α) : List α :=
  if x ∈ xs then xs.filter (· ≠ x) ++ [x] else xs

/-- Writes the two lists; a change raises N-HEADER ORDER (R113). -/
def putLists (high : List HighItem) (low : List Chan) (s : State) : State :=
  if s.header.high = high ∧ s.header.low = low then s
  else noteHeader .order (s.modHeader fun h => { h with high := high, low := low })

/-- The rotation at an end with state DONE or SHORT: the channel to the tail of its own list, and with a LOW channel the token to
the tail of the HIGH list (R113). -/
def rotate (c : Chan) (s : State) : State :=
  if c ∈ s.header.low then putLists (toTail .lowToken s.header.high) (toTail c s.header.low) s
  else putLists (toTail (.chan c) s.header.high) s.header.low s

/-- An accepted CHCONFIG that changes a channel's group: out of its old list, to the tail of the list of its new group; the token
does not move (R113). -/
def moveGroup (c : Chan) (g : PriorityGroup) (s : State) : State :=
  let high := s.header.high.filter (· ≠ .chan c)
  let low := s.header.low.filter (· ≠ c)
  match g with
  | .high => putLists (high ++ [.chan c]) low s
  | .low => putLists high (low ++ [c]) s

/-! ### Grants (R110) -/

/-- What step 3 of R110 takes of a channel: its request and its minimum flow. -/
structure Ask where
  chan : Chan
  r : Nat
  minFlow : Nat
  deriving DecidableEq, Repr

/-- Step 3 of R110: each in turn is granted min(r, capacity left), or 0 with the capacity left unchanged where that is below its
minimum flow. -/
def shareOut (left : Nat) : List Ask → List (Chan × Nat)
  | [] => []
  | a :: rest =>
    let g := min a.r left
    if a.minFlow ≤ g then (a.chan, g) :: shareOut (left - g) rest else (a.chan, 0) :: shareOut left rest

/-- Step 1 of R110: a locked-in channel keeps min(previous grant, r), or 0 where that is below its minimum flow. -/
def State.lockedGrant (s : State) (c : Chan) : Nat :=
  let g := min (s.chan c).grant (s.request c)
  if g < (s.chanConfig c).minFlow then 0 else g

/-- The sum of the locked-in grants (R110 step 1). -/
def State.lockedSum (s : State) : Nat := ((chans.filter s.lockedIn).map s.lockedGrant).sum

/-- The channels of step 2 of R110 with r above 0, in priority order. -/
def State.asks (s : State) : List Ask :=
  (s.priorityOrder.filter fun c => !s.lockedIn c && decide (0 < s.request c)).map fun c =>
    { chan := c, r := s.request c, minFlow := (s.chanConfig c).minFlow }

/-- The grants of step 3 of R110. -/
def State.shares (s : State) : List (Chan × Nat) := shareOut (s.config.header.capacity - s.lockedSum) s.asks

/-- A channel's new grant: 0 outside SERVING (R108), else by the three steps of R110. -/
def State.newGrant (s : State) (c : Chan) : Nat :=
  if s.header.state ≠ .serving then 0
  else if s.lockedIn c then s.lockedGrant c
  else (s.shares.lookup c).getD 0

/-- Step 1 of R111 for one channel: a grant fallen to 0 makes a FLOWING channel HELD with NO_GRANT; one risen above 0 removes
NO_GRANT and makes a HELD channel FLOWING, its stall timer started (R120); a HELD channel whose set is empty receives NO_GRANT
(R108). No channel but a FLOWING or HELD one holds a grant. -/
def giveGrant (c : Chan) (g : Nat) (s : State) : State :=
  let stall := s.expiry s.config.device.stallTime
  s.modChan c fun k =>
    match k.state with
    | .flowing =>
      if g = 0 then
        { k with state := .held, command := .toOpen, grant := 0, holds := k.holds.put .noGrant true,
                 meter := { k.meter with stallTimer := none } }
      else { k with grant := g }
    | .held =>
      if g = 0 then { k with grant := 0, holds := if k.holds.isEmpty then k.holds.put .noGrant true else k.holds }
      else
        { k with state := .flowing, command := .toOpen, grant := g, holds := k.holds.put .noGrant false,
                 meter := { k.meter with stallTimer := some stall } }
    | .masked | .idle | .opening | .closing | .fault => { k with grant := 0 }

/-- Step 3 of R111 for one channel: HOLDS where its set changed and STATE where its state changed. -/
def noteRegrant (before : State) (c : Chan) (s : State) : State := noteStateChange before c (noteHoldsChange before c s)

/-- A regrant (R108 to R111): the grants of R110 are given, N-HEADER GRANTS is raised if a grant changed, the channels' notices
follow, and each channel whose grant the regrant changed is left to be evaluated (R111 step 4; log 17). `zeroed`: the event has
already taken a grant to 0, which R111's notice reports too (10.9; log 15) and step 4 does not evaluate (R53). MODEL'S CHOICE (logs 17
and 35): R111 gives no order among several channels; both the notices of step 3, channel by channel, and the evaluations of step 4 go
in ascending channel number. -/
def regrant (zeroed : Bool) (s : State) : State :=
  let changed := chans.filter fun c => s.newGrant c ≠ (s.chan c).grant
  let given := chans.foldl (fun x c => giveGrant c (s.newGrant c) x) s
  let told := if zeroed || !changed.isEmpty then noteHeader .grants given else given
  let noted := chans.foldl (fun x c => noteRegrant s c x) told
  { noted with evals := noted.evals ++ changed }

/-- Adds a hold reason, a regrant event (R76, R108). -/
def addHold (c : Chan) (r : HoldReason) (s : State) : State :=
  if (s.chan c).holds.has r then s
  else regrant (decide (0 < (s.chan c).grant)) (addHolds c [r] s)

/-- Removes a hold reason, a regrant event (R76, R108). -/
def removeHold (c : Chan) (r : HoldReason) (s : State) : State :=
  if (s.chan c).holds.has r then regrant false (removeHolds c [r] s) else s

/-! ### The header state and the calling set (R100 to R105) -/

/-- Writes the header record; a change of header state raises N-HEADER STATE (R101). -/
def changeHeader (f : Header → Header) (s : State) : State :=
  let s1 := s.modHeader f
  if s1.header.state = s.header.state then s1 else noteHeader .state s1

/-- Adds reasons to each calling channel (R100). MODEL'S CHOICE (log 39): R100 gives no order among several; ascending channel number. -/
def holdCallers (rs : List HoldReason) (s : State) : State :=
  chans.foldl (fun x c => if (x.chan c).calling then addHolds c rs x else x) s

/-- Removes reasons from each calling channel (R100). MODEL'S CHOICE (log 39): ascending channel number, as in `holdCallers`. -/
def freeCallers (rs : List HoldReason) (s : State) : State :=
  chans.foldl (fun x c => if (x.chan c).calling then removeHolds c rs x else x) s

/-- Every grant goes to 0: a FLOWING channel is HELD, with NO_GRANT, its set being otherwise empty with the grant 0 (R76, R103,
R105; 6.10; log 16). MODEL'S CHOICE (log 39): the rules give no order among several; their notices go in ascending channel number. -/
def zeroGrants (s : State) : State :=
  chans.foldl
    (fun x c =>
      if (x.chan c).state = .flowing then addHolds c [.noGrant] x
      else if (x.chan c).grant = 0 then x
      else x.modChan c fun k => { k with grant := 0 })
    s

/-- Some grant stands. -/
def State.anyGrant (s : State) : Bool := chans.any fun c => decide (0 < (s.chan c).grant)

/-- Priming starts, or the wait before it where the dp is asserted; HEADER_WAIT to the callers (R102, R100). MODEL'S CHOICE (log 39): the
state and its timer are written together, so N-HEADER STATE carries the timer that the rule starts after it. -/
def startPriming (s : State) : State :=
  if s.header.dp then
    holdCallers [.headerWait] (changeHeader (fun h =>
      { h with state := .waiting, returnState := some .priming, primeTimer := none,
               waitTimer := some (s.expiry s.config.header.waitLimit) }) s)
  else
    holdCallers [.headerWait] (changeHeader (fun h =>
      { h with state := .priming, returnState := none, waitTimer := none,
               primeTimer := some (s.expiry s.config.header.primeTime) }) s)

/-- SERVING is entered: HEADER_WAIT and NO_PUMP are removed (R100, R102, R104, R105). -/
def enterServing (s : State) : State :=
  freeCallers [.headerWait, .noPump] (changeHeader (fun h =>
    { h with state := .serving, returnState := none, primeTimer := none, waitTimer := none }) s)

/-- The state an empty calling set leaves SERVING for (R104). -/
def restState : HeaderPolicy → HeaderState
  | .hold => .standby
  | .release => .idle

/-- A channel has joined the calling set at its open limit (R100, R102, R104, R105). -/
def headerCall (c : Chan) (s : State) : State :=
  match s.header.state with
  | .idle => startPriming s
  | .priming | .waiting => addHolds c [.headerWait] s
  | .standby => enterServing s
  | .serving | .tripped => s

/-- A channel has left the calling set: with none left, PRIMING and WAITING are abandoned for IDLE (R102, R105) and SERVING for
STANDBY or IDLE (R104). -/
def headerUncall (s : State) : State :=
  if s.anyCalling then s
  else
    match s.header.state with
    | .priming | .waiting =>
      changeHeader (fun h => { h with state := .idle, returnState := none, primeTimer := none, waitTimer := none }) s
    | .serving => changeHeader (fun h => { h with state := restState s.config.header.policy }) s
    | .idle | .standby | .tripped => s

/-- The pump is lost in SERVING, or found lost at a dp's clearing: IDLE with HEADER_WAIT off the callers where the header was WAITING
(R100) and NO_PUMP on them, and they at once prime afresh, which puts HEADER_WAIT on (R100, R103, R105). The grants are already 0. -/
def repriming (s : State) : State :=
  let s1 := holdCallers [.noPump] (freeCallers [.headerWait] (changeHeader (fun h =>
    { h with state := .idle, returnState := none, primeTimer := none, waitTimer := none }) s))
  if s1.anyCalling then startPriming s1 else s1

/-- A shutdown takes the header to TRIPPED: every grant 0, the timers stopped, the return state absent (R106). -/
def tripHeader (s : State) : State :=
  let zeroed := s.anyGrant
  let s1 := chans.foldl (fun x c => x.modChan c fun k => { k with grant := 0 }) s
  let s2 := changeHeader (fun h =>
    { h with state := .tripped, returnState := none, primeTimer := none, waitTimer := none }) s1
  if zeroed then noteHeader .grants s2 else s2

end Sys2Proof.Machine
end

