-- ==== Sys2Proof/Machine/Entries.lean ====
section
/-! DEFINITION. Closing a channel's valve (R81, R82) and ending or returning a route entry (R10 to R14, R69). -/

namespace Sys2Proof.Machine

/-! ### Closing (R81, R82) -/

/-- The hold reasons a close or a fault takes away (R81, R84). -/
def closingReasons : List HoldReason := [.noGrant, .headerWait, .noPump, .sourceLow]

/-- The reversal timeout: max(5, ceil(3 × time spent opening / 2)) (R82). -/
def reversalTimeout (spent : Nat) : Nat := max 5 (ceilDiv (3 * spent) 2)

/-- The seconds a channel has been opening (R82). -/
def State.spentOpening (s : State) (c : Chan) : Nat :=
  match (s.chan c).openingStarted with
  | some t => s.now - t
  | none => 0

/-- A channel closing: the command CLOSE, the grant 0, the given reasons out of the set, the stroke timer set, the watches ended
(R81, R82, R91, R93, R120). -/
def Channel.closing (k : Channel) (rs : List HoldReason) (expiry : Nat) : Channel :=
  { k with
    state := .closing, command := .toClose, grant := 0, holds := k.holds.minus rs, strokeTimer := some expiry
    openingStarted := none, pressureTimer := none, sourceLowTimer := none
    meter := { k.meter with stallTimer := none } }

/-- A channel's own part of a close, by its state (R81, R82). The header's part is `closeChannel`'s. -/
def closeValve (c : Chan) (s : State) : State :=
  match (s.chan c).state with
  | .flowing | .held =>
    let expiry := s.expiry (strokeTimeout (s.chanConfig c).strokeTime)
    updateChan c (fun k => k.closing closingReasons expiry) s
  | .opening =>
    let expiry := s.expiry (reversalTimeout (s.spentOpening c))
    moveChan c (fun k => k.closing [.sourceLow] expiry) s
  | .masked | .idle | .closing | .fault => s

/-- A close handed to a channel (R81): the channel's part, its leaving of the calling set (R99, R102, R104, R105), and the
regrant (R108). A channel with no stroke to make, or already closing, is left as it is. MODEL'S CHOICE (log 41): R99 and R104 do not
place the N-HEADER STATE of the last caller's leaving; it comes after the channel's notices and before the regrant's. -/
def closeChannel (c : Chan) (s : State) : State :=
  let k := s.chan c
  if k.watched then
    let s1 := closeValve c s
    regrant (decide (0 < k.grant)) (if k.calling then headerUncall s1 else s1)
  else s

/-! ### End pending (R10, R69) -/

/-- The slug record returns to phase NONE, size and base absent; SETTLING leaves the hold set where it stood (R69). The regrant is
the caller's: a close follows wherever the channel's valve is open (log 18). -/
def clearSlug (i : EntryId) (s : State) : State :=
  match s.entry i with
  | some e =>
    match e.slug with
    | some _ =>
      let s1 := s.modEntry i fun e => { e with slug := some { phase := .idle, size := none, base := none } }
      if e.settling then removeHolds e.chan [.settling] s1 else s1
    | none => s
  | none => s

/-- Sets an end pending on an AWAIT or ACTIVE entry that has none; a later cause leaves the first as it is (R10). N-ENTRY END_PENDING is
raised (R17), and then the slug record returns to NONE (R69): the order of R60 and R64, taken for every cause (log 35). -/
def markEnd (i : EntryId) (r : EndReason) (s : State) : State :=
  match s.entry i with
  | some e =>
    if e.endPending.isNone && (e.state == .await || e.state == .active) then
      clearSlug i (noteEntry .endPending i (s.modEntry i fun e => { e with endPending := some r }))
    else s
  | none => s

/-- The terminal state of an end (R10). -/
def terminalState (r : EndReason) (delivered : Nat) : EntryState :=
  match r with
  | .allotment => .done
  | .levelFinal | .levelHi => .short
  | .shipEnd | .cancel => if 0 < delivered then .short else .cancelled

/-- A channel's authorisation is set or cleared; a change raises N-CHANNEL AUTH (R77). -/
def setAuth (c : Chan) (v : Bool) (s : State) : State :=
  if (s.chan c).authorised = v then s else noteChan .auth c (s.modChan c fun k => { k with authorised := v })

/-- What follows when a channel's entry leaves ACTIVE: HIGH_SOON (R59) and UNMETERED_GAIN (R126) inactive, BLIND off with its timer
(R47), LINEUP_DROPPED off (R76). MODEL'S CHOICE (logs 35 and 39): the rules give these no order; the two N-CAUTION come first, HIGH_SOON
before UNMETERED_GAIN, and then the N-CHANNEL HOLDS. -/
def leaveActive (c : Chan) (t : TankNo) (s : State) : State :=
  let s1 := setUnmetered c t false (setHighSoon c false s)
  removeHolds c [.blind, .lineupDropped] (s1.modTank t fun k => { k with blindTimer := none })

/-- Sets a channel's ended flag on both ports (R173). -/
def setEnded (c : Chan) (s : State) : State :=
  { s with portB := { s.portB with ended := s.portB.ended.set c true },
           portS := { s.portS with ended := s.portS.ended.set c true } }

/-- The earliest non-terminal entry of a channel, if QUEUED, goes to AWAIT with lineup NOT_READY (R3, R14 step 2); the id that
became current is given too. -/
def promote (c : Chan) (s : State) : State × Option EntryId :=
  match s.current c with
  | some (j, e) =>
    if e.state = .queued then (s.modEntry j fun e => { e with state := .await, lineup := .notReady }, some j) else (s, none)
  | none => (s, none)

/-- Step 1 of R14 in the entry: terminal, with its end reason and ended stamp; delivered and remaining keep their values. -/
def Entry.finish (e : Entry) (r : EndReason) (now : Nat) : Entry :=
  { e with state := terminalState r e.delivered, endReason := some r, endPending := none, ended := some now }

/-- Applies the end pending on a channel's current entry (R14): the entry is terminal, the next becomes current, the lists rotate at
DONE or SHORT (R113), a regrant is made (R108), the ended flags are set (R173), the authorisation is cleared where no
non-terminal entry is left (R77), and N-ENTRY is raised for the ended entry and then for the new current one. The new
current entry's lineup is NOT_READY, so it takes no start (R78, R79 step 2). MODEL'S CHOICE (log 39): R14 gives no place to what leaving
ACTIVE brings; its notices come first, ahead of the successor's record and of N-HEADER ORDER and GRANTS. -/
def applyEnd (c : Chan) (i : EntryId) (s : State) : State :=
  match s.entry i with
  | some e =>
    match e.endPending with
    | some r =>
      let s1 := s.modEntry i fun e => e.finish r s.now
      let s2 := if e.state = .active then leaveActive c e.tank s1 else s1
      let next := promote c s2
      let s3 := if terminalState r e.delivered = .cancelled then next.1 else rotate c next.1
      let s4 := setEnded c (regrant false s3)
      let s5 := if (s4.current c).isNone then setAuth c false s4 else s4
      let s6 := noteEntry .state i s5
      match next.2 with
      | some j => noteEntry .state j s6
      | none => s6
    | none => s
  | none => s

/-- Applies an end pending on the current entry where the valve is proven closed and not stroking (R10): at the setting of an end,
and at each report of the closed limit. -/
def settleEnd (c : Chan) (s : State) : State :=
  match s.current c with
  | some (i, e) =>
    if e.endPending.isSome && (s.chan c).provenClosed && !(s.chan c).stroking then applyEnd c i s else s
  | none => s

/-- Applies at once, in the same way, an end that an event has set (R10). `before`: the end pending ahead of the event; one that stood
already is not applied here but at the closed limit's next report. -/
def settleSet (before : Option EndReason) (c : Chan) (s : State) : State := if before.isSome then s else settleEnd c s

/-- An end cause of the current entry (R8, R11, R12, R16): the end is set; an ACTIVE entry's channel is handed a close; and with the valve
proven closed and not stroking the end is applied at once (R10). With an end already pending nothing changes: it waits for the next
report of the closed limit. -/
def endCurrent (c : Chan) (i : EntryId) (r : EndReason) (s : State) : State :=
  match s.entry i with
  | some e =>
    if e.endPending.isSome then s
    else
      let s1 := markEnd i r s
      settleEnd c (if e.state = .active then closeChannel c s1 else s1)
  | none => s

/-- A stop or a shutdown returns an ACTIVE current entry to AWAIT, its slug record to NONE (R13, R69). MODEL'S CHOICE (log 35): R13 gives
no order among the notices this brings; N-ENTRY STATE comes last, after the N-CHANNEL HOLDS and N-CAUTION of leaving ACTIVE. -/
def returnToAwait (c : Chan) (s : State) : State :=
  match s.activeEntry c with
  | some (i, e) =>
    noteEntry .state i (leaveActive c e.tank (clearSlug i (s.modEntry i fun e => { e with state := .await })))
  | none => s

end Sys2Proof.Machine
end

