-- ==== Sys2Proof/Machine/Stops.lean ====
section
/-! DEFINITION. Withdrawal of proposals (R140 to R142), channel stops (R89), shutdowns and the trip record (R148, R152, R153), and
valve faults (R84). -/

namespace Sys2Proof.Machine

/-! ### Withdrawal -/

/-- Removes the proposals that satisfy `p`, each reported WITHDRAWN with the cause, in queue order (R140 to R142). -/
def withdrawWhere (p : Proposal → Bool) (cause : WithdrawCause) (s : State) : State :=
  let out := s.queue.proposals.filter p
  let kept := { s with queue := { s.queue with proposals := s.queue.proposals.filter fun q => !p q } }
  out.foldl (fun x q => noteProposal (.withdrawn cause) q x) kept

/-- A START, for channel `c` where one is named (R140). -/
def Proposal.isStart (p : Proposal) (c : Option Chan) : Bool :=
  match p.body, c with
  | .start _, none => true
  | .start d, some c => d == c
  | .plan .., _ | .amend .., _ | .cancel .., _ | .clear .., _ | .init, _ => false

/-! ### The trip record (R153) -/

/-- The record and the fate of an offered cause, by the first row of R153 that applies; causes are one where code and channel or
tank agree, whatever the origin. -/
def Trip.offer (t : Trip) (e : CauseEntry) : Trip × CauseFate :=
  let held := match t.firstOut with
    | some f => f.cause == e.cause || t.later.any fun x => x.cause == e.cause
    | none => t.later.any fun x => x.cause == e.cause
  if held then (t, .held)
  else if t.firstOut.isNone then ({ t with firstOut := some e }, .added)
  else if t.later.length < 7 then ({ t with later := t.later ++ [e] }, .added)
  else ({ t with more := true }, .more)

/-- VALVE_UNPROVEN sets its channel's unproven mark each time it is taken, whether or not the record has room (R148). -/
def Trip.mark (t : Trip) : ShutdownCause → Trip
  | .valveUnproven c => { t with unproven := t.unproven.set c true }
  | .restart | .esdB | .esdS | .linkB | .linkS | .stopAll | .levelHihi _ | .hoseStrain _ | .strainer | .pumpFail => t

/-- TRIPPING becomes TRIPPED when every channel is settled (R148). -/
def judgeSettled (s : State) : State :=
  if s.trip.state = .tripping ∧ s.allSettled = true then
    noteTrip .state (s.modTrip fun t => { t with state := .tripped })
  else s

/-- A channel's part of a shutdown (R90). -/
def shutChannel (c : Chan) (s : State) : State := returnToAwait c (setAuth c false (closeValve c s))

/-- Steps 3 to 8 of R152. `changed`: step 2 changed the trip state. The regrant of R108 finds the header TRIPPED and no channel
calling. MODEL'S CHOICE (log 41): step 4 and R90 give no order among the channels; ascending channel number, each whole before the
next. -/
def shutdownEffects (e : CauseEntry) (fate : CauseFate) (changed : Bool) (s : State) : State :=
  let s3 := tripHeader s
  let s4 := regrant false (chans.foldl (fun x c => shutChannel c x) s3)
  let s5 := withdrawWhere (fun p => p.isStart none) (.shutdown e.cause.code) s4
  let s6 := judgeHorn (some .trip) s5
  let s7 := raise (.trip .cause s6.tripView (some (e, fate)) s6.now) s6
  let s8 := if changed then noteTrip .state s7 else s7
  judgeSettled s8

/-- A cause taken while the part is not NORMAL: step 1 and steps 3 to 8 of R152. -/
def shutdownTripped (cause : ShutdownCause) (origin : Origin) (s : State) : State :=
  let e : CauseEntry := { cause := cause, origin := origin, stamp := s.now }
  let offered := s.trip.offer e
  shutdownEffects e offered.2 false (s.modTrip fun _ => offered.1.mark cause)

/-- A channel faulted before the shutdown, its valve not proven closed: VALVE_UNPROVEN is taken for it at once (R148; log 20). -/
def unprovenAtTrip (c : Chan) (s : State) : State :=
  if (s.chan c).state = .fault ∧ (s.chan c).provenClosed = false then shutdownTripped (.valveUnproven c) .watch s else s

/-- A shutdown cause is taken (R152). From NORMAL the state becomes TRIPPING and the faulted channels are looked at. MODEL'S CHOICE
(log 20): R148 gives no order among several faulted channels; their VALVE_UNPROVEN are taken in ascending channel number, and so stand
in the later causes. -/
def shutdown (cause : ShutdownCause) (origin : Origin) (s : State) : State :=
  let e : CauseEntry := { cause := cause, origin := origin, stamp := s.now }
  let offered := s.trip.offer e
  let s1 := s.modTrip fun _ => offered.1.mark cause
  if s1.trip.state = .normal then
    let s2 := s1.modTrip fun t => { t with state := .tripping }
    shutdownEffects e offered.2 true (chans.foldl (fun x c => unprovenAtTrip c x) s2)
  else shutdownEffects e offered.2 false s1

/-! ### Channel stops and valve faults (R84, R89) -/

/-- A channel in FAULT (R84): the valve commanded closed, the grant 0, the stroke, pressure and source-low timers stopped, the arbiter's
and the source's reasons out of the set. -/
def Channel.faulted (k : Channel) : Channel :=
  { k with
    state := .fault, command := .toClose, grant := 0, holds := k.holds.minus closingReasons, strokeTimer := none
    pressureTimer := none, sourceLowTimer := none, meter := { k.meter with stallTimer := none } }

/-- A channel goes FAULT (R84); it leaves the calling set (R99) and a regrant is made (R108). MODEL'S CHOICE (log 41): the order of
`closeChannel`. -/
def goFault (c : Chan) (s : State) : State :=
  let k := s.chan c
  let s1 := moveChan c Channel.faulted s
  regrant (decide (0 < k.grant)) (if k.calling then headerUncall s1 else s1)

/-- A channel stop is taken (R89), its five steps in order; at LEVEL_HI the fourth sets the end of the current entry (R12), an end pending
already being left as it is (R10). `t` is the tank where R88 records one. -/
def channelStop (cause : StopCause) (origin : Origin) (t : Option TankNo) (c : Chan) (s : State) : State :=
  let stop : LastStop := { cause := cause, origin := origin, tank := t, stamp := s.now, acknowledged := false }
  let s1 := s.modChan c fun k => { k with lastStop := some stop }
  let s2 := if cause = .valveStuck then goFault c s1 else closeChannel c s1
  let s3 := withdrawWhere (fun p => p.isStart (some c)) (.stop cause.code) (setAuth c false s2)
  let s4 :=
    if cause = .levelHi then
      match s3.current c with
      | some (i, _) => endCurrent c i .levelHi s3
      | none => s3
    else returnToAwait c s3
  noteChan .stop c (judgeHorn (some .alarm) s4)

/-- A valve fault (R84), in any state but FAULT: with the trip state TRIPPING the shutdown cause VALVE_UNPROVEN, else channel stop
VALVE_STUCK; in either case the channel goes FAULT. -/
def valveFault (c : Chan) (s : State) : State :=
  if (s.chan c).state = .fault then s
  else if s.trip.state = .tripping then goFault c (shutdown (.valveUnproven c) .watch s)
  else channelStop .valveStuck .watch none c s

end Sys2Proof.Machine
end

