-- ==== Sys2Proof/Machine/Ladder.lean ====
section
/-! DEFINITION. The margin arithmetic and the topping ladder (chapter 4): the figures, an evaluation (R54), and the evaluations a
regrant hands on (R111 step 4). -/

namespace Sys2Proof.Machine

/-! ### The figures (R55 to R58, R62, R66) -/

/-- A_close = ceil(Q × t_close / 120) (R56). -/
def closureAllowance (q tClose : Nat) : Nat := ceilDiv (q * tClose) 120

/-- M = V_hi − V_now − A_close − D (R57). -/
def levelMargin (vHi vNow aClose drain : Nat) : Int := (vHi : Int) - vNow - aClose - drain

/-- T (R58). -/
def timeToHigh (m : Int) (q : Nat) : TimeToHigh :=
  if m ≤ 0 then .seconds 0 else if q = 0 then .noFlow else .seconds (m.toNat * 60 / q)

/-- HIGH_SOON from T (R59). -/
def TimeToHigh.soon : TimeToHigh → Bool
  | .seconds n => decide (n ≤ 120)
  | .noFlow => false

/-- The computed stage (R62). -/
def computedStage (m : Int) (vt sv : Nat) : Stage :=
  if (vt : Int) < m then .full else if (sv : Int) < m then .topping else if 0 < m then .slug else .final

/-- The order of the stages, 0 the highest (R63). -/
def Stage.rank : Stage → Nat
  | .full => 0 | .topping => 1 | .slug => 2 | .final => 3

/-- The lower of two stages (R63). -/
def Stage.lower (a b : Stage) : Stage := if a.rank < b.rank then b else a

/-- Mm = remaining − A_close (R60). -/
def meterMargin (remaining aClose : Nat) : Int := (remaining : Int) - aClose

/-- min(S, M) rounded down to a multiple of 10 L (R66). -/
def slugSize (sv : Nat) (m : Int) : Nat := (min (sv : Int) m).toNat / 10 * 10

/-- What an evaluation is made for (R53). -/
inductive EvalKind where
  | activation
  | reading
  | settlingEnd
  /-- a grant change or a measured-rate update -/
  | change
  deriving DecidableEq, Repr

/-- Activation and settling end take the prospective rate into Q (R53, R55). -/
def EvalKind.prospective : EvalKind → Bool
  | .activation | .settlingEnd => true
  | .reading | .change => false

/-- The prospective rate: min(plan rate, hose max rate, ladder cap) with the cap of the stage held before the evaluation and slug
phase NONE; no cap where no stage is held (R55). -/
def State.prospectiveRate (s : State) (c : Chan) (e : Entry) : Nat :=
  capped (min e.planRate (s.chanConfig c).hoseMaxRate) (stageCap (s.topRate e.tank) e.stage)

/-- Q (R55). -/
def State.marginRate (s : State) (c : Chan) (e : Entry) (kind : EvalKind) : Nat :=
  let k := s.chan c
  let q := max k.grant (min k.meter.rate 20000)
  if kind.prospective then max q (s.prospectiveRate c e) else q

/-- Whether the level half runs (R53). -/
def State.levelHalfRuns (s : State) (e : Entry) : EvalKind → Bool
  | .activation | .settlingEnd => true
  | .reading => !e.settling
  | .change => (s.tank e.tank).levelState.known && !e.settling

/-- The figures of a level half (R54 step 2, R57, R58, R62), from the tank's effective level and sealed table; none where the tank has
none of them. -/
def Tank.levelHalf (k : Tank) (q aClose drain : Nat) : Option LevelHalf :=
  match k.decl, k.lEff with
  | some d, some l =>
    match k.volume l, k.volume d.hHi with
    | some vNow, some vHi =>
      let m := levelMargin vHi vNow aClose drain
      some { levelState := k.levelState, lEff := l, vNow := vNow, vHi := vHi, m := m, t := timeToHigh m q,
             computed := computedStage m d.toppingVolume d.slugVolume }
    | _, _ => none
  | _, _ => none

/-! ### The above-table flag (R30) -/

/-- Writes the above-table flag; a change raises N-TANK ABOVE_TABLE (R30). -/
def setAbove (t : TankNo) (v : Bool) (s : State) : State :=
  if (s.tank t).aboveTable = v then s else noteTank .aboveTable t (s.modTank t fun k => { k with aboveTable := v })

/-- Judges the flag of a SEALED tank against its effective level: at each accepted reading that leaves one present and at each
conversion of it (R30). -/
def judgeAbove (t : TankNo) (s : State) : State :=
  match (s.tank t).topLevel, (s.tank t).lEff with
  | some top, some l => setAbove t (decide (top ≤ l)) s
  | _, _ => s

/-! ### Stage falls and slugs (R63 to R66) -/

/-- A fall of the ladder stage, reported by N-ENTRY STAGE (R63). -/
def lowerStage (i : EntryId) (st : Stage) (s : State) : State :=
  noteEntry .stage i (s.modEntry i fun e => { e with stage := some st })

/-- R64: end pending LEVEL_FINAL unless an end is pending, slug phase NONE with SETTLING removed, and a close. By the close's regrant
the channel no longer calls (R109; log 19). -/
def finalStage (c : Chan) (i : EntryId) (s : State) : State :=
  closeChannel c (clearSlug i (markEnd i .levelFinal s))

/-- Sizes a slug, with the slug phase NONE and the stage not FINAL (R66): 100 L or more begins it, less sets FINAL. An entry with an end
pending is closing to its end and has no next slug (R69). -/
def sizeSlug (c : Chan) (i : EntryId) (sv : Nat) (m : Int) (s : State) : State :=
  match s.entry i with
  | some e =>
    let idle := match e.slug with
      | some r => r.phase == .idle
      | none => false
    if idle && e.stage != some .final && e.endPending.isNone then
      let size := slugSize sv m
      if 100 ≤ size then
        s.modEntry i fun e => { e with slug := some { phase := .delivering, size := some size, base := some e.delivered } }
      else finalStage c i (lowerStage i .final s)
    else s
  | none => s

/-- The stage and its effects (R54 steps 2 and 3, R63): set at the first activation, lowered to the computed stage after; FINAL by
R64; a changed cap brings a regrant; a slug is sized at a fall to SLUG, and at an activation that finds SLUG or serves
mode SLUG (R66). MODEL'S CHOICE (log 36): the stage set at the first activation, FINAL included, is no change that raises N-ENTRY STAGE;
R71 raises it at each fall, and a stage that was absent has not fallen. -/
def applyStage (kind : EvalKind) (c : Chan) (i : EntryId) (h : LevelHalf) (d : TankDecl) (s : State) : State :=
  match s.entry i with
  | some e =>
    let activating := decide (kind = .activation)
    match e.stage with
    | none =>
      let s1 := s.modEntry i fun e => { e with stage := some h.computed }
      if h.computed = .final then finalStage c i s1
      else if h.computed = .slug ∨ e.mode = .slug then sizeSlug c i d.slugVolume h.m s1
      else s1
    | some held =>
      let new := held.lower h.computed
      let fell := decide (new ≠ held)
      let s1 := if fell then lowerStage i new s else s
      if new = .final then
        if fell || activating then finalStage c i s1 else s1
      else
        let s2 :=
          if fell && stageCap d.toppingRate (some held) != stageCap d.toppingRate (some new) then regrant false s1 else s1
        if (activating && (new == .slug || e.mode == .slug)) || (fell && new == .slug) then
          sizeSlug c i d.slugVolume h.m s2
        else s2
  | none => s

/-- The close of a settling (R68): unless the stage is FINAL, SETTLING leaves the hold set, the slug phase becomes NONE and a slug is
sized; the arbiter regrants once the slug is sized (log 18). -/
def endSettling (c : Chan) (i : EntryId) (sv : Nat) (m : Int) (s : State) : State :=
  match s.entry i with
  | some e =>
    if e.stage = some .final then s
    else regrant false (sizeSlug c i sv m (clearSlug i s))
  | none => s

/-- Step 5 of R54: a meter margin at or below 0 with no end pending sets ALLOTMENT and hands the channel a close (R60). -/
def meterHalf (c : Chan) (i : EntryId) (aClose : Nat) (s : State) : State :=
  match s.entry i with
  | some e =>
    if meterMargin e.remaining aClose ≤ 0 ∧ e.endPending = none ∧ e.state = .active then
      closeChannel c (markEnd i .allotment s)
    else s
  | none => s

/-- Step 6 of R54: the record is written; a level half that did not run leaves its fields (R51). -/
def writeMargin (i : EntryId) (q aClose : Nat) (half : Option LevelHalf) (s : State) : State :=
  s.modEntry i fun e =>
    let kept := match e.margin with
      | some r => r.level
      | none => none
    { e with margin := some { evaluatedAt := s.now, q := q, aClose := aClose, level := half.or kept,
                              mm := meterMargin e.remaining aClose } }

/-- One evaluation of the margin of a channel's ACTIVE entry (R53, R54), its six steps in order; an end it sets with the valve proven
closed and not stroking is then applied (R10, R79 step 2), and one pending before it is left to the closed limit's next report. -/
def evaluate (kind : EvalKind) (c : Chan) (s : State) : State :=
  match s.activeEntry c with
  | some (i, e) =>
    let config := s.chanConfig c
    let q := s.marginRate c e kind
    let aClose := closureAllowance q config.strokeTime
    let half := if s.levelHalfRuns e kind then (s.tank e.tank).levelHalf q aClose config.hoseDrain else none
    let s1 :=
      match half, (s.tank e.tank).decl with
      | some h, some d =>
        let s2 := applyStage kind c i h d (setHighSoon c h.t.soon (judgeAbove e.tank s))
        if kind = .settlingEnd then endSettling c i d.slugVolume h.m s2 else s2
      | _, _ => s
    settleSet e.endPending c (writeMargin i q aClose half (meterHalf c i aClose s1))
  | none => s

/-- Runs the evaluations regrants have handed on, first in first out; each is an event of its own (R111 step 4; log 17). -/
def runEvals : Nat → State → State
  | 0, s => s
  | n + 1, s =>
    match s.evals with
    | [] => s
    | c :: rest => runEvals n (evaluate .change c { s with evals := rest })

/-- More evaluations than one step can bring: the downward latch bounds the chain (R54, R111; log 17). -/
def evalBudget : Nat := 1000

/-- A command's effect with the evaluations it brings; none is left when the command ends. -/
def effect (f : State → State) (s : State) : State := { runEvals evalBudget (f s) with evals := [] }

/-- A command's whole step: its effect with the evaluations it brings, and then the frames that free transmitters take (R171; log 23). -/
def withEvals (f : State → State) (s : State) : State := (effect f s).startSending

end Sys2Proof.Machine
end

