-- ==== Sys2Proof/Machine/Start.lean ====
section
/-! DEFINITION. Activation of an entry (R9, R122) and the start of a channel (R78, R79). -/

namespace Sys2Proof.Machine

/-- The start quality of a level state: STEADY at a STEADY tank, else CONSERVATIVE (R122). -/
def startQualityOf : LevelState → StartQuality
  | .steady => .steady
  | .cold | .partFull | .sloshing | .stale | .suspect => .conservative

/-- The volume a tank holds at its effective level, V(L_eff) (R29, R31). -/
def Tank.nowVolume (k : Tank) : Option Nat := k.lEff.bind k.volume

/-- What an activation records in the entry (R9, R52, R79, R121, R122): at the first, the delivery baseline, the started stamp and the
slug record; at every one, the meter baseline, the start volume and quality, the hose fill credit, strikes 0 and a fresh
reconciliation record. -/
def Entry.activated (e : Entry) (s : State) : Entry :=
  let k := s.chan e.chan
  let config := s.chanConfig e.chan
  let tank := s.tank e.tank
  { e with
    state := .active
    baseline := e.baseline.or (some { total := k.meter.total, kFactor := config.kFactor })
    started := e.started.or (some s.now)
    slug := e.slug.or (some { phase := .idle, size := none, base := none })
    meterBaseline := some k.meter.total
    startVolume := tank.nowVolume
    startQuality := some (startQualityOf tank.levelState)
    credit := if k.hose = .drained then config.hoseDrain else 0
    strikes := 0
    recon := some { origin := .activation, figures := none } }

/-- Activates entry `i` of channel `c` (R9, R79 step 1): the records, then the activation evaluation, which may set and apply an
end. -/
def activate (c : Chan) (i : EntryId) (s : State) : State :=
  evaluate .activation c (s.modEntry i fun e => e.activated s)

/-- The seconds a pressure at the max is borne (R91). -/
def pressureDwell : Nat := 2

/-- The pressure watch of a channel begins (R91). -/
def beginPressureWatch (c : Chan) (s : State) : State :=
  if (s.chanConfig c).pressureMax ≤ (s.chan c).pressure then
    s.modChan c fun k => { k with pressureTimer := some (s.expiry pressureDwell) }
  else s

/-- SOURCE_LOW is added and the source-low timer started (R93). -/
def sourceLowHold (c : Chan) (s : State) : State :=
  addHold c .sourceLow (s.modChan c fun k => { k with sourceLowTimer := some (s.expiry s.config.device.sourceLowLimit) })

/-- The source-low watch of a channel begins (R93). -/
def beginSourceWatch (c : Chan) (s : State) : State := if (s.chan c).sourceLow then sourceLowHold c s else s

/-- The channel's own part of step 3 of R79: OPENING, the opening stamp, the stroke timer, the hose FULL. -/
def openValve (c : Chan) (s : State) : State :=
  let timer := s.expiry (strokeTimeout (s.chanConfig c).strokeTime)
  let drained := decide ((s.chan c).hose = .drained)
  let s1 := updateChan c (fun k =>
    { k with state := .opening, command := .toOpen, openingStarted := some s.now, strokeTimer := some timer,
             hose := .hoseFull }) s
  if drained then noteChan .hose c s1 else s1

/-- A start is taken for channel `c` and its current entry `i` (R79): with an end set at the activation the channel stays IDLE. -/
def takeStart (c : Chan) (i : EntryId) (s : State) : State :=
  let s1 := activate c i s
  match s1.entry i with
  | some e =>
    if e.state = .active then
      beginSourceWatch c (beginPressureWatch c (openValve c (noteEntry .state i s1)))
    else s1
  | none => s1

/-- The start conditions of a channel (R78). -/
def State.canStart (s : State) (c : Chan) : Bool :=
  match s.current c with
  | some (_, e) =>
    (s.chan c).state == .idle && (s.chan c).authorised && e.state == .await && e.lineup == .ready
      && e.endPending.isNone && (s.tank e.tank).levelState.settled && s.trip.state == .normal
  | none => false

/-- Judges a channel's start conditions and takes the start where all hold (R78). -/
def judgeStart (c : Chan) (s : State) : State :=
  if s.canStart c then
    match s.currentId c with
    | some i => takeStart c i s
    | none => s
  else s

end Sys2Proof.Machine
end

