-- ==== Sys2Proof/Machine/Level.lean ====
section
/-! DEFINITION. The Level Watch: readings and the window (R35 to R42), what a reading hands on (R43 to R46), blind channels (R47,
R48), and the reconciliation a STEADY reading brings (R123 to R126). -/

namespace Sys2Proof.Machine

/-! ### The window (R39, R42) -/

/-- A flush (R42): the window empty, the stale timer stopped, stale clear, the above-table flag clear. -/
def flushWindow (t : TankNo) (s : State) : State :=
  setAbove t false (s.modTank t fun k => { k with window := [], stale := false, staleTimer := none })

/-- The window with a reading added as the newest, the oldest removed where it held 8 (R39). -/
def addReading (w : List Reading) (r : Reading) : List Reading :=
  (if w.length < 8 then w else w.drop (w.length - 7)) ++ [r]

/-- A good reading is taken into the window (R37, R39); GAUGE_STEP ends when the window then holds 8. -/
def takeIn (t : TankNo) (level : Nat) (s : State) : State :=
  let timer := s.expiry s.config.device.staleTime
  let s1 := s.modTank t fun k =>
    { k with window := addReading k.window { level := level, stamp := s.now }, suspect := none, stale := false,
             staleTimer := some timer, stepRef := some level }
  if (s1.tank t).window.length = 8 then setGaugeStep t false s1 else s1

/-- A reading is taken as suspect (R38). -/
def takeSuspect (t : TankNo) (o : Origin) (s : State) : State :=
  flushWindow t (s.modTank t fun k => { k with suspect := some o, stepRef := none })

/-- The distance between two levels. -/
def levelGap (a b : Nat) : Nat := (a - b) + (b - a)

/-- The greatest level a gauge can show (R36). -/
def topLevelMm : Nat := 30000

/-- A level as the Level Watch takes it: above 30,000 mm it is clamped (R36). -/
def clampLevel (level : Nat) : Nat := min level topLevelMm

/-- Whether a GOOD reading passes the step check (R37). -/
def Tank.stepOk (k : Tank) (level : Nat) : Bool :=
  match k.stepRef, k.decl with
  | some r, some d => decide (levelGap level r ≤ d.stepLimit)
  | _, _ => true

/-- Judges a reading's quality and takes it (R36 to R39): step 2 of R43. -/
def judgeReading (t : TankNo) (level : Nat) (q : Quality) (s : State) : State :=
  if topLevelMm < level then takeSuspect t .watch s
  else
    match q with
    | .suspect => takeSuspect t .ship s
    | .good => if (s.tank t).stepOk level then takeIn t level s else setGaugeStep t true (takeSuspect t .watch s)

/-! ### Notices (R49) -/

/-- LEVEL_STATE where the level state, or the suspect mark's origin while SUSPECT, differs from what it was (R49). -/
def noteLevelChange (t : TankNo) (before : LevelState) (suspect : Option Origin) (reading : Option (Nat × Quality))
    (s : State) : State :=
  let k := s.tank t
  if k.levelState ≠ before ∨ (before = .suspect ∧ k.suspect ≠ suspect) then noteLevel t reading s else s

/-- The four alarm items. -/
def Tank.alarms (k : Tank) : Bool × Bool × Bool × Bool := (k.shipHi, k.shipHihi, k.ownHi, k.ownHihi)

/-! ### Alarm levels (R44 to R46) -/

/-- Own HI and own HIHI judged against an effective level found (R44). -/
def Tank.judgeOwn (k : Tank) : Tank :=
  match k.lEff, k.decl with
  | some l, some d => { k with ownHi := decide (d.hHi ≤ l), ownHihi := decide (d.hHihi ≤ l) }
  | _, _ => k

/-- Step 4 of R43: LEVEL_HIHI where the HIHI assertion has risen (R46). -/
def judgeHihi (t : TankNo) (before : Bool) (s : State) : State :=
  let k := s.tank t
  if !before && k.hihi then shutdown (.levelHihi t) (if k.shipHihi then .ship else .watch) s else s

/-- Step 5 of R43: LEVEL_HI (R45). `flag`: the reading just accepted carried HI set. -/
def judgeHi (t : TankNo) (flag : Bool) (s : State) : State :=
  match s.servingChan t with
  | some c =>
    match s.currentId c with
    | some i =>
      if (s.tank t).hi && (s.tank t).hiStopMark != some i then
        (channelStop .levelHi (if flag then .ship else .watch) (some t) c s).modTank t fun k =>
          { k with hiStopMark := some i }
      else s
    | none => s
  | none => s

/-! ### Blind channels (R47, R48) -/

/-- The BLIND hold of the channel whose ACTIVE entry names the tank, by the tank's level state (R47). -/
def judgeBlind (t : TankNo) (s : State) : State :=
  match s.activeChan t with
  | some c =>
    if (s.tank t).levelState.known then
      removeHold c .blind (s.modTank t fun k => { k with blindTimer := none })
    else if (s.chan c).holds.blind then s
    else addHold c .blind (s.modTank t fun k => { k with blindTimer := some (s.expiry s.config.device.blindLimit) })
  | none => s

/-! ### Reconciliation (R123 to R126) -/

/-- A rebase (R123). -/
def Entry.rebase (e : Entry) (total vNow : Nat) : Entry :=
  { e with startVolume := some vNow, startQuality := some .steady, meterBaseline := some total, strikes := 0,
           recon := some { origin := .rebase, figures := none } }

/-- The metered volume since the meter baseline (R118, R124 step 1). -/
def Entry.metered (e : Entry) (total : Nat) : Nat :=
  match e.meterBaseline, e.baseline with
  | some p, some b => pulseVolume (total - p) b.kFactor
  | _, _ => 0

/-- The origin of the comparison's baseline (R121). -/
def Entry.origin (e : Entry) : BaselineOrigin :=
  match e.recon with
  | some r => r.origin
  | none => .activation

/-- The result of a comparison (R124 step 6). -/
def reconResult (e : Int) (tol : Nat) : ReconResult :=
  if (tol : Int) < e then .excess else if e < -(tol : Int) then .gain else .within

/-- tol = max(reconciliation floor, ceil(dVm / 20)) (R124 step 5). -/
def reconTolerance (floor dVm : Nat) : Nat := max floor (ceilDiv dVm 20)

/-- Steps 1 to 6 of R124. -/
def Entry.compare (e : Entry) (now total vNow floor : Nat) : ReconFigures :=
  let dVm := e.metered total
  let dVl := (vNow : Int) - (e.startVolume.getD 0 : Nat)
  let credit := if e.origin = .activation then e.credit else 0
  let x := (dVm : Int) - dVl - credit
  let tol := reconTolerance floor dVm
  { evaluatedAt := now, dVm := dVm, dVl := dVl, credit := credit, e := x, tol := tol, result := reconResult x tol }

/-- The strikes after a result (R125). -/
def strikesAfter (before : Nat) : ReconResult → Nat
  | .excess => min 2 (before + 1)
  | .within | .gain => 0

/-- One evaluation of the reconciliation (R124 to R126). -/
def compareVolumes (c : Chan) (i : EntryId) (e : Entry) (vNow : Nat) (s : State) : State :=
  let f := e.compare s.now (s.chan c).meter.total vNow s.config.device.reconFloor
  let strikes := strikesAfter e.strikes f.result
  let s1 := s.modEntry i fun e => { e with recon := some { origin := e.origin, figures := some f }, strikes := strikes }
  let s2 := setUnmetered c e.tank (decide (f.result = .gain)) s1
  if f.result = .excess ∧ strikes = 2 then channelStop .misroute .watch (some e.tank) c s2 else s2

/-- Step 8 of R43: a reading that leaves the tank STEADY while its entry is ACTIVE rebases a CONSERVATIVE entry (R123) and is compared
for a STEADY one (R124). -/
def reconcile (t : TankNo) (s : State) : State :=
  match s.activeChan t with
  | some c =>
    match s.activeEntry c, (s.tank t).nowVolume with
    | some (i, e), some vNow =>
      if (s.tank t).levelState = .steady then
        let s1 := judgeAbove t s
        match e.startQuality with
        | some .conservative =>
          setUnmetered c t false (s1.modEntry i fun e => e.rebase (s.chan c).meter.total vNow)
        | some .steady => compareVolumes c i e vNow s1
        | none => s1
      else s
    | _, _ => s
  | none => s

/-! ### A reading (R35, R43) -/

/-- The settling period ends at this reading (R68). -/
def State.settlingEnds (s : State) (t : TankNo) (e : Entry) : Bool :=
  e.settling && (s.tank t).window.length == 8 && (s.tank t).levelState.settled

/-- Step 7 of R43: the margin evaluation of the ACTIVE entry that names the tank (R53, R68). -/
def evaluateReading (t : TankNo) (s : State) : State :=
  match s.activeChan t with
  | some c =>
    match s.activeEntry c with
    | some (_, e) =>
      if (s.tank t).levelState.known then evaluate (if s.settlingEnds t e then .settlingEnd else .reading) c s else s
    | none => s
  | none => s

/-- Judges the start of the channel whose current entry names the tank, the level state having changed (R78; log 21). -/
def startAfterLevel (t : TankNo) (before : LevelState) (s : State) : State :=
  if (s.tank t).levelState = before then s
  else
    match s.servingChan t with
    | some c => judgeStart c s
    | none => s

/-- An accepted LEVEL, the steps of R43 in order. MODEL'S CHOICE (log 37): R49's notice carries a reading's quality, and where the part
itself marked a GOOD reading SUSPECT (R36, R37) that is the quality the ship sent; the mark is beside it, as the suspect origin. -/
def acceptReading (t : TankNo) (level : Nat) (q : Quality) (hi hihi : Bool) (s : State) : State :=
  let k := s.tank t
  let s1 := s.modTank t fun k => { k with shipHi := hi, shipHihi := hihi }
  let s2 := judgeReading t level q s1
  let s3 := judgeAbove t (s2.modTank t Tank.judgeOwn)
  let s4 := judgeHihi t k.hihi s3
  let s5 := judgeHi t hi s4
  let s6 := judgeBlind t s5
  let s7 := evaluateReading t s6
  let s8 := reconcile t s7
  let s9 := noteLevelChange t k.levelState k.suspect (some (clampLevel level, q)) s8
  let s10 := if (s9.tank t).alarms = k.alarms then s9 else noteAlarm t s9
  startAfterLevel t k.levelState s10

/-! ### Timers (R41, R48) -/

/-- The stale timer runs out (R41). MODEL'S CHOICE (log 35): the spec gives no order between the N-TANK LEVEL_STATE and the BLIND hold's
N-CHANNEL HOLDS of a stale expiry; LEVEL_STATE comes first. -/
def takeStale (t : TankNo) (s : State) : State :=
  let k := s.tank t
  if s.due k.staleTimer then
    let s1 := s.modTank t fun k => { k with stale := true, staleTimer := none }
    startAfterLevel t k.levelState (judgeBlind t (noteLevelChange t k.levelState k.suspect none s1))
  else s

/-- The blind timer runs out: GAUGE_LOST for the channel whose ACTIVE entry names the tank (R48). -/
def takeBlind (t : TankNo) (s : State) : State :=
  if s.due (s.tank t).blindTimer then
    let s1 := s.modTank t fun k => { k with blindTimer := none }
    match s1.activeChan t with
    | some c => channelStop .gaugeLost .watch (some t) c s1
    | none => s1
  else s

/-! ### Commands -/

/-- STALE_TIMER_EXPIRY (R41). -/
def execStaleTimerExpiry (t : TankNo) (s : State) : Host.Outcome State Fault Refusal := whileOn s (withEvals (takeStale t))

/-- BLIND_TIMER_EXPIRY (R48). -/
def execBlindTimerExpiry (t : TankNo) (s : State) : Host.Outcome State Fault Refusal := whileOn s (withEvals (takeBlind t))

end Sys2Proof.Machine
end

