-- ==== Sys2Proof/Machine/Metering.lean ====
section
/-! DEFINITION. Pulses (R116, R117), the meter margin between evaluations (R60), the end of a slug (R67), the rate window (R119) and
the meter stall (R120). -/

namespace Sys2Proof.Machine

/-- The greatest pulse total (R115). -/
def pulseLimit : Nat := 4294967295

/-- Steps 1 and 2 of R116: the total and the window count rise by 1; a total that reaches the limit sets saturated (R117). -/
def Meter.count (m : Meter) : Meter :=
  { m with total := m.total + 1, windowCount := m.windowCount + 1, saturated := decide (pulseLimit ≤ m.total + 1) }

/-- Counts a pulse on a channel that is not saturated: the meter, the METER_FULL caution, and a FLOWING channel's stall timer
(R116 steps 1 to 3, R117, R120). -/
def countPulse (c : Chan) (s : State) : State :=
  let s1 := s.modMeter c Meter.count
  let s2 := if (s1.chan c).meter.saturated then cautionOn (.meterFull c) s1 else s1
  if (s2.chan c).state = .flowing then
    s2.modMeter c fun m => { m with stallTimer := some (s2.expiry s2.config.device.stallTime) }
  else s2

/-- Delivered worked again from the channel's pulse total (R4). -/
def Entry.recount (e : Entry) (total : Nat) : Entry :=
  match e.baseline with
  | some b => { e with delivered := pulseVolume (total - b.total) b.kFactor }
  | none => e

/-- The meter margin worked again at a change of remaining, with the A_close held in the margin record (R60). -/
def Entry.reworkMargin (e : Entry) : Entry :=
  match e.margin with
  | some r => { e with margin := some { r with mm := meterMargin e.remaining r.aClose } }
  | none => e

/-- The meter margin in the record is at or below 0. -/
def Entry.marginSpent (e : Entry) : Bool :=
  match e.margin with
  | some r => decide (r.mm ≤ 0)
  | none => false

/-- R60 at a change of an ACTIVE entry's remaining: the margin is worked, and at or below 0 with no end pending it ends the entry on its
allotment. -/
def workMargin (c : Chan) (i : EntryId) (s : State) : State :=
  let s1 := s.modEntry i Entry.reworkMargin
  match s1.entry i with
  | some e => if e.marginSpent then endCurrent c i .allotment s1 else s1
  | none => s1

/-- The slug in hand has reached its size (R67). -/
def Entry.slugDone (e : Entry) : Bool :=
  match e.slug with
  | some { phase := .delivering, size := some size, base := some base } => decide (size ≤ e.delivered - base)
  | _ => false

/-- The end of a slug (R67): SETTLING, its hold, the flush of the tank's window and the blind hold. -/
def endSlug (c : Chan) (i : EntryId) (t : TankNo) (s : State) : State :=
  let s1 := s.modEntry i fun e => { e with slug := e.slug.map fun r => { r with phase := .settling } }
  let s2 := addHold c .settling s1
  let before := (s2.tank t).levelState
  judgeBlind t (noteLevelChange t before (s2.tank t).suspect none (flushWindow t s2))

/-- The slug-end test at a pulse (R67). -/
def testSlug (c : Chan) (i : EntryId) (s : State) : State :=
  match s.entry i with
  | some e => if e.slugDone then endSlug c i e.tank s else s
  | none => s

/-- R11: remaining has reached 0 on an AWAIT or ACTIVE entry with no end pending. -/
def testAllotment (c : Chan) (i : EntryId) (s : State) : State :=
  match s.entry i with
  | some e =>
    if (e.state = .await ∨ e.state = .active) ∧ e.endPending = none ∧ e.remaining = 0 then endCurrent c i .allotment s
    else s
  | none => s

/-- Step 4 of R116: the pulse is handed to the channel's current entry where that has been activated. -/
def handPulse (c : Chan) (s : State) : State :=
  match s.current c with
  | some (i, e) =>
    if e.baseline.isSome then
      let s1 := s.modEntry i fun e => e.recount (s.chan c).meter.total
      let s2 := if e.state = .active then testSlug c i (workMargin c i s1) else s1
      testAllotment c i s2
    else s
  | none => s

/-- A meter pulse (R116); a saturated channel counts none (R117). -/
def takePulse (c : Chan) (s : State) : State :=
  if (s.chan c).meter.saturated then s else handPulse c (countPulse c s)

/-- The measured rate of a window (R119). -/
def windowRate (count k : Nat) : Nat := pulseVolume count k * 6

/-- The seconds of a rate window (R119). -/
def ratePeriod : Nat := 10

/-- Steps 1 and 2 of R119. -/
def Meter.refresh (m : Meter) (k : Nat) : Meter :=
  { m with rate := windowRate m.windowCount k, windowCount := 0, nextRefresh := stampAdd m.nextRefresh ratePeriod }

/-- The refresh of a channel's rate window, taken when its time has come (R119; log 2). -/
def takeRefresh (c : Chan) (s : State) : State :=
  if (s.chan c).meter.nextRefresh ≤ s.now then
    evaluate .change c (s.modMeter c fun m => m.refresh (s.chanConfig c).kFactor)
  else s

/-- The stall timer runs out: channel stop METER_STALL (R120). -/
def takeStall (c : Chan) (s : State) : State :=
  if s.due (s.chan c).meter.stallTimer then channelStop .meterStall .watch none c s else s

/-! ### Commands -/

/-- METER_PULSE (R116). -/
def execMeterPulse (c : Chan) (s : State) : Host.Outcome State Fault Refusal := whileOn s (withEvals (takePulse c))

/-- RATE_WINDOW_REFRESH (R119). -/
def execRateWindowRefresh (c : Chan) (s : State) : Host.Outcome State Fault Refusal := whileOn s (withEvals (takeRefresh c))

/-- STALL_TIMER_EXPIRY (R120). -/
def execStallTimerExpiry (c : Chan) (s : State) : Host.Outcome State Fault Refusal := whileOn s (withEvals (takeStall c))

end Sys2Proof.Machine
end

