-- ==== Sys2Proof/Machine/Valves.lean ====
section
/-! DEFINITION. Limit switches and strokes (R75, R80, R83, R84): each arrival and each loss of a limit, and the stroke timer. -/

namespace Sys2Proof.Machine

/-- The full stroke timeout of a channel, from now (R79, R81, R83). -/
def State.strokeExpiry (s : State) (c : Chan) : Nat := s.expiry (strokeTimeout (s.chanConfig c).strokeTime)

/-- The open limit is reached while OPENING (R80): HELD with NO_GRANT; the channel joins the calling set (R99, R102, R104) and a
regrant is made. -/
def reachOpen (c : Chan) (s : State) : State :=
  regrant false (headerCall c (moveChan c (fun k =>
    { k with state := .held, command := .toOpen, strokeTimer := none, openingStarted := none,
             holds := k.holds.put .noGrant true }) s))

/-- The closed limit is reached while CLOSING (R83): IDLE, an end pending applied, the start conditions judged. -/
def reachClosed (c : Chan) (s : State) : State :=
  let s1 := settleEnd c (s.modChan c fun k => { k with state := .idle, command := .toClose, strokeTimer := none })
  judgeStart c (noteChan .state c s1)

/-- The closed limit is lost while IDLE (R83). -/
def leaveClosed (c : Chan) (s : State) : State :=
  updateChan c (fun k => { k with state := .closing, command := .toClose, strokeTimer := some (s.strokeExpiry c) }) s

/-- CLOSED_LIMIT_REACHED by the channel state, the input recorded (R75). Both limits at once are a fault but in FAULT (R84). -/
def closedReached (c : Chan) (s : State) : State :=
  match (s.chan c).state with
  | .fault => settleEnd c s
  | .flowing | .held => valveFault c s
  | .masked =>
    if (s.chan c).openLimit then valveFault c s else settleEnd c (s.modChan c fun k => { k with strokeTimer := none })
  | .closing => if (s.chan c).openLimit then valveFault c s else reachClosed c s
  | .idle | .opening => if (s.chan c).openLimit then valveFault c s else s

/-- CLOSED_LIMIT_LOST by the channel state (R75). -/
def closedLost (c : Chan) (s : State) : State :=
  match (s.chan c).state with
  | .masked => s.modChan c fun k => { k with strokeTimer := some (s.strokeExpiry c) }
  | .idle => leaveClosed c s
  | .opening | .flowing | .held | .closing | .fault => s

/-- OPEN_LIMIT_REACHED by the channel state (R75). -/
def openReached (c : Chan) (s : State) : State :=
  match (s.chan c).state with
  | .fault => s
  | .opening => if (s.chan c).closedLimit then valveFault c s else reachOpen c s
  | .masked | .idle | .flowing | .held | .closing => if (s.chan c).closedLimit then valveFault c s else s

/-- OPEN_LIMIT_LOST by the channel state (R75): a fault in FLOWING and HELD; in FAULT, with the closed limit present, the valve is
then proven closed, which is handed on (R84). -/
def openLost (c : Chan) (s : State) : State :=
  match (s.chan c).state with
  | .flowing | .held => valveFault c s
  | .fault => settleEnd c s
  | .masked | .idle | .opening | .closing => s

/-- A change of the closed limit: without effect where the input already reads so (R75's dash; log 3); else recorded, taken, and the
trip state judged (R148). MODEL'S CHOICE (log 41): R148 does not place the judgement in the event; it comes last, so the N-TRIP STATE of
TRIPPED follows the event's N-CHANNEL and N-ENTRY. -/
def takeClosedLimit (c : Chan) (v : Bool) (s : State) : State :=
  if (s.chan c).closedLimit = v then s
  else
    let s1 := s.modChan c fun k => { k with closedLimit := v }
    judgeSettled (if v then closedReached c s1 else closedLost c s1)

/-- A change of the open limit, in the same way and the same order (R75, R148; logs 3 and 41). -/
def takeOpenLimit (c : Chan) (v : Bool) (s : State) : State :=
  if (s.chan c).openLimit = v then s
  else
    let s1 := s.modChan c fun k => { k with openLimit := v }
    judgeSettled (if v then openReached c s1 else openLost c s1)

/-- The stroke timer runs out: a valve fault (R80, R83, R84). -/
def takeStroke (c : Chan) (s : State) : State := if s.due (s.chan c).strokeTimer then valveFault c s else s

/-! ### Commands -/

/-- CLOSED_LIMIT_REACHED (R75, R83). -/
def execClosedLimitReached (c : Chan) (s : State) : Host.Outcome State Fault Refusal :=
  whileOn s (withEvals (takeClosedLimit c true))

/-- CLOSED_LIMIT_LOST (R75, R83). -/
def execClosedLimitLost (c : Chan) (s : State) : Host.Outcome State Fault Refusal :=
  whileOn s (withEvals (takeClosedLimit c false))

/-- OPEN_LIMIT_REACHED (R75, R80). -/
def execOpenLimitReached (c : Chan) (s : State) : Host.Outcome State Fault Refusal :=
  whileOn s (withEvals (takeOpenLimit c true))

/-- OPEN_LIMIT_LOST (R75, R84). -/
def execOpenLimitLost (c : Chan) (s : State) : Host.Outcome State Fault Refusal :=
  whileOn s (withEvals (takeOpenLimit c false))

/-- STROKE_TIMER_EXPIRY (R80, R83, R84). -/
def execStrokeTimerExpiry (c : Chan) (s : State) : Host.Outcome State Fault Refusal := whileOn s (withEvals (takeStroke c))

end Sys2Proof.Machine
end

