-- ==== Sys2Proof/Machine/Watches.lean ====
section
/-! DEFINITION. The field watches of a channel: pressure (R91), strain (R92) and source low (R93). -/

namespace Sys2Proof.Machine

/-! ### Pressure (R91) -/

/-- A pressure is read: recorded, and where it crosses the max the timer of a running watch starts or stops (R91). -/
def takePressure (c : Chan) (v : Nat) (s : State) : State :=
  let limit := (s.chanConfig c).pressureMax
  let timer := some (s.expiry pressureDwell)
  s.modChan c fun k =>
    { k with
      pressure := v
      pressureTimer :=
        if v < limit then none else if k.pressure < limit ∧ k.watched = true then timer else k.pressureTimer }

/-- Pressure reaches max: the value read is at or above it (R91; log 28). -/
def pressureUp (c : Chan) (v : Nat) (s : State) : State :=
  if (s.chanConfig c).pressureMax ≤ v then takePressure c v s else s

/-- Pressure falls below max: the value read is below it (R91; log 28). -/
def pressureDown (c : Chan) (v : Nat) (s : State) : State :=
  if v < (s.chanConfig c).pressureMax then takePressure c v s else s

/-- The pressure timer runs out: OVERPRESSURE (R91). -/
def takeOverpressure (c : Chan) (s : State) : State :=
  if s.due (s.chan c).pressureTimer then channelStop .overpressure .watch none c s else s

/-! ### Strain (R92) -/

/-- The dwell timer after a tension `v` is read where `k` stood before: started as it reaches strain trip, stopped as it falls below
(R92). -/
def Channel.dwellAfter (k : Channel) (v trip expiry : Nat) : Option Nat :=
  if v < trip then none else if k.tension < trip then some expiry else k.strainTimer

/-- A tension is read: recorded, and in every state but MASKED the STRAIN caution and the dwell timer follow it (R92). -/
def takeTension (c : Chan) (v : Nat) (s : State) : State :=
  let config := s.chanConfig c
  if (s.chan c).state = .masked then s.modChan c fun k => { k with tension := v }
  else
    setStrain c (decide (config.strainWarn ≤ v)) (s.modChan c fun k =>
      { k with tension := v,
               strainTimer := k.dwellAfter v config.strainTrip (s.expiry s.config.device.strainDwell) })

/-- Tension reaches strain warn: the value read is at or above it (R92; log 28). -/
def tensionWarnUp (c : Chan) (v : Nat) (s : State) : State :=
  if (s.chanConfig c).strainWarn ≤ v then takeTension c v s else s

/-- Tension falls below strain warn (R92; log 28). -/
def tensionWarnDown (c : Chan) (v : Nat) (s : State) : State :=
  if v < (s.chanConfig c).strainWarn then takeTension c v s else s

/-- Tension reaches strain trip (R92; log 28). -/
def tensionTripUp (c : Chan) (v : Nat) (s : State) : State :=
  if (s.chanConfig c).strainTrip ≤ v then takeTension c v s else s

/-- Tension falls below strain trip (R92; log 28). -/
def tensionTripDown (c : Chan) (v : Nat) (s : State) : State :=
  if v < (s.chanConfig c).strainTrip then takeTension c v s else s

/-- The strain dwell timer runs out: shutdown HOSE_STRAIN with the channel (R92). -/
def takeStrainDwell (c : Chan) (s : State) : State :=
  if s.due (s.chan c).strainTimer then
    shutdown (.hoseStrain c) .watch (s.modChan c fun k => { k with strainTimer := none })
  else s

/-! ### Source low (R93) -/

/-- The source-low switch asserts (R93; log 3). -/
def sourceLowOn (c : Chan) (s : State) : State :=
  if (s.chan c).sourceLow then s
  else
    let s1 := s.modChan c fun k => { k with sourceLow := true }
    if (s1.chan c).watched then sourceLowHold c s1 else s1

/-- The source-low switch clears: SOURCE_LOW removed, the timer stopped (R93; log 3). -/
def sourceLowOff (c : Chan) (s : State) : State :=
  if (s.chan c).sourceLow then
    removeHold c .sourceLow (s.modChan c fun k => { k with sourceLow := false, sourceLowTimer := none })
  else s

/-- The source-low timer runs out: SOURCE_EMPTY (R93). -/
def takeSourceEmpty (c : Chan) (s : State) : State :=
  if s.due (s.chan c).sourceLowTimer then channelStop .sourceEmpty .watch none c s else s

/-! ### Commands -/

/-- PRESSURE_REACHES_MAX (R91). -/
def execPressureReachesMax (c : Chan) (v : Nat) (s : State) : Host.Outcome State Fault Refusal :=
  whileOn s (withEvals (pressureUp c v))

/-- PRESSURE_FALLS_BELOW_MAX (R91). -/
def execPressureFallsBelowMax (c : Chan) (v : Nat) (s : State) : Host.Outcome State Fault Refusal :=
  whileOn s (withEvals (pressureDown c v))

/-- PRESSURE_TIMER_EXPIRY (R91). -/
def execPressureTimerExpiry (c : Chan) (s : State) : Host.Outcome State Fault Refusal :=
  whileOn s (withEvals (takeOverpressure c))

/-- TENSION_REACHES_STRAIN_WARN (R92). -/
def execTensionReachesStrainWarn (c : Chan) (v : Nat) (s : State) : Host.Outcome State Fault Refusal :=
  whileOn s (withEvals (tensionWarnUp c v))

/-- TENSION_FALLS_BELOW_STRAIN_WARN (R92). -/
def execTensionFallsBelowStrainWarn (c : Chan) (v : Nat) (s : State) : Host.Outcome State Fault Refusal :=
  whileOn s (withEvals (tensionWarnDown c v))

/-- TENSION_REACHES_STRAIN_TRIP (R92). -/
def execTensionReachesStrainTrip (c : Chan) (v : Nat) (s : State) : Host.Outcome State Fault Refusal :=
  whileOn s (withEvals (tensionTripUp c v))

/-- TENSION_FALLS_BELOW_STRAIN_TRIP (R92). -/
def execTensionFallsBelowStrainTrip (c : Chan) (v : Nat) (s : State) : Host.Outcome State Fault Refusal :=
  whileOn s (withEvals (tensionTripDown c v))

/-- STRAIN_DWELL_TIMER_EXPIRY (R92). -/
def execStrainDwellTimerExpiry (c : Chan) (s : State) : Host.Outcome State Fault Refusal :=
  whileOn s (withEvals (takeStrainDwell c))

/-- SOURCE_LOW_ASSERTS (R93). -/
def execSourceLowAsserts (c : Chan) (s : State) : Host.Outcome State Fault Refusal := whileOn s (withEvals (sourceLowOn c))

/-- SOURCE_LOW_CLEARS (R93). -/
def execSourceLowClears (c : Chan) (s : State) : Host.Outcome State Fault Refusal := whileOn s (withEvals (sourceLowOff c))

/-- SOURCE_LOW_TIMER_EXPIRY (R93). -/
def execSourceLowTimerExpiry (c : Chan) (s : State) : Host.Outcome State Fault Refusal :=
  whileOn s (withEvals (takeSourceEmpty c))

end Sys2Proof.Machine
end

