-- ==== Sys2Proof/Machine/Pump.lean ====
section
/-! DEFINITION. The header's events: the prime and wait timers, the strainer dp and the pump running input (R102, R103, R105); and the
two ESD loops (R150). -/

namespace Sys2Proof.Machine

/-- The prime timer runs out: SERVING with the pump running, else shutdown PUMP_FAIL (R102). -/
def takePrime (s : State) : State :=
  if s.due s.header.primeTimer then
    if s.header.pumpRunning then regrant false (enterServing s) else shutdown .pumpFail .watch s
  else s

/-- The wait timer runs out: shutdown STRAINER (R105). -/
def takeWait (s : State) : State := if s.due s.header.waitTimer then shutdown .strainer .watch s else s

/-- The header goes WAITING from state `h` (R105). MODEL'S CHOICE (log 39): steps 2 and 4 are written together, so the N-HEADER STATE of
step 2, which comes before the HOLDS of step 3, carries the wait timer that step 4 starts. -/
def suspend (h : HeaderState) (s : State) : State :=
  let zeroed := s.anyGrant
  let s1 := changeHeader (fun x =>
    { x with state := .waiting, returnState := some h, primeTimer := none,
             waitTimer := some (s.expiry s.config.header.waitLimit) }) (zeroGrants s)
  regrant zeroed (holdCallers [.headerWait] s1)

/-- The strainer dp asserts (R105; log 3). -/
def dpOn (s : State) : State :=
  if s.header.dp then s
  else
    let s1 := s.modHeader fun h => { h with dp := true }
    match s1.header.state with
    | .priming => suspend .priming s1
    | .serving => suspend .serving s1
    | .standby => suspend .standby s1
    | .idle | .waiting | .tripped => s1

/-- The header leaves WAITING for IDLE or, under HOLD with the pump running, STANDBY: no channel calls (R105). -/
def restHeader (st : HeaderState) (s : State) : State :=
  changeHeader (fun h => { h with state := st, returnState := none, primeTimer := none, waitTimer := none }) s

/-- The header leaves WAITING as the dp clears, by the table of R105. -/
def resume (ret : HeaderState) (s : State) : State :=
  if ret = .priming then
    if s.anyCalling then startPriming s else restHeader .idle s
  else if s.header.pumpRunning then
    if s.anyCalling then enterServing s else restHeader (restState s.config.header.policy) s
  else if s.anyCalling then repriming s
  else restHeader .idle s

/-- The strainer dp clears (R105; log 3). -/
def dpOff (s : State) : State :=
  if s.header.dp then
    let s1 := s.modHeader fun h => { h with dp := false }
    match s1.header.state, s1.header.returnState with
    | .waiting, some ret => regrant false (resume ret s1)
    | _, _ => s1
  else s

/-- The pump running input is lost (R103; log 3). -/
def pumpLost (s : State) : State :=
  if s.header.pumpRunning then
    let s1 := s.modHeader fun h => { h with pumpRunning := false }
    match s1.header.state with
    | .serving => regrant s1.anyGrant (repriming (zeroGrants s1))
    | .standby => regrant false (restHeader .idle s1)
    | .idle | .priming | .waiting | .tripped => s1
  else s

/-- The pump running input returns: recorded (R102, R103). -/
def pumpBack (s : State) : State := s.modHeader fun h => { h with pumpRunning := true }

/-- Whether a loop is open, as last taken. -/
def Trip.loopOpen (t : Trip) : Side → Bool
  | .barge => t.loopBOpen
  | .ship => t.loopSOpen

/-- Records a loop (R150). -/
def Trip.recordLoop (t : Trip) (l : Side) (v : Bool) : Trip :=
  match l with
  | .barge => { t with loopBOpen := v }
  | .ship => { t with loopSOpen := v }

/-- The cause of a loop's opening (R149). -/
def loopCause : Side → ShutdownCause
  | .barge => .esdB
  | .ship => .esdS

/-- A loop opens: recorded OPEN, and its shutdown is taken (R150; log 3). -/
def loopOpens (l : Side) (s : State) : State :=
  if s.trip.loopOpen l then s else shutdown (loopCause l) (originOf l) (s.modTrip fun t => t.recordLoop l true)

/-- A loop closes: recorded CLOSED, and N-TRIP STATE is raised (R150; log 3). -/
def loopCloses (l : Side) (s : State) : State :=
  if s.trip.loopOpen l then noteTrip .state (s.modTrip fun t => t.recordLoop l false) else s

/-! ### Commands -/

/-- STRAINER_DP_ASSERTS (R105). -/
def execStrainerDpAsserts (s : State) : Host.Outcome State Fault Refusal := whileOn s (withEvals dpOn)

/-- STRAINER_DP_CLEARS (R105). -/
def execStrainerDpClears (s : State) : Host.Outcome State Fault Refusal := whileOn s (withEvals dpOff)

/-- WAIT_TIMER_EXPIRY (R105). -/
def execWaitTimerExpiry (s : State) : Host.Outcome State Fault Refusal := whileOn s (withEvals takeWait)

/-- PRIME_TIMER_EXPIRY (R102). -/
def execPrimeTimerExpiry (s : State) : Host.Outcome State Fault Refusal := whileOn s (withEvals takePrime)

/-- PUMP_RUNNING_LOST (R103). -/
def execPumpRunningLost (s : State) : Host.Outcome State Fault Refusal := whileOn s (withEvals pumpLost)

/-- PUMP_RUNNING_RETURNS (R103). -/
def execPumpRunningReturns (s : State) : Host.Outcome State Fault Refusal := whileOn s (withEvals pumpBack)

/-- ESD_LOOP_OPENS (R150). -/
def execEsdLoopOpens (l : Side) (s : State) : Host.Outcome State Fault Refusal := whileOn s (withEvals (loopOpens l))

/-- ESD_LOOP_CLOSES (R150). -/
def execEsdLoopCloses (l : Side) (s : State) : Host.Outcome State Fault Refusal := whileOn s (withEvals (loopCloses l))

end Sys2Proof.Machine
end

