-- ==== Sys2Proof/Machine/Consent.lean ====
section
/-! DEFINITION. The Consent Queue (R128 to R145): arrival, endorsement, ordering, lapse and adoption; and what each adopted kind does
(R6 to R8, R77, R154 to R156, R180). -/

namespace Sys2Proof.Machine

/-! ### The queue (R129 to R132, R136) -/

/-- The bound channel of a body: a PLAN's and a START's own, an AMEND's and a CANCEL's the entry's (R129). -/
def State.boundOf (s : State) : ProposalBody → Option Chan
  | .plan c .. => some c
  | .start c => some c
  | .amend e .. => (s.entry e).map Entry.chan
  | .cancel e => (s.entry e).map Entry.chan
  | .clear _ | .init => none

/-- An AMEND or CANCEL names an assigned slot (R130). -/
def State.assigned (s : State) : ProposalBody → Bool
  | .amend e .. => (s.entry e).isSome
  | .cancel e => (s.entry e).isSome
  | .plan .. | .start _ | .clear _ | .init => true

/-- The id that follows another, 1 following 255 (R132). -/
def nextProposalId (n : Nat) : Nat := if n = 255 then 1 else n + 1

/-- The first id from `n` on that no pending proposal carries (R132); 9 tries find one among at most 8. -/
def freeId (used : List Nat) : Nat → Nat → Nat
  | 0, n => n
  | k + 1, n => if n ∈ used then freeId used k (nextProposalId n) else n

/-- Whether an older pending proposal `q` stands in the way of `p` (R136). -/
def Proposal.blockedBy (p q : Proposal) : Bool :=
  match p.body with
  | .clear _ => false
  | .init => q.bound.isSome
  | .plan .. | .amend .. | .cancel _ | .start _ => q.bound.isSome && q.bound == p.bound

/-- The proposals older than the one with an id: those before it in the queue (R128, R136). -/
def olderThan (id : Nat) (ps : List Proposal) : List Proposal := ps.takeWhile fun q => q.id != id

/-- Whether the ordering rule lets a pending proposal be adopted now (R136). -/
def ConsentQueue.mayAdopt (q : ConsentQueue) (p : Proposal) : Bool := !(olderThan p.id q.proposals).any p.blockedBy

/-- The queue without a proposal. -/
def ConsentQueue.without (q : ConsentQueue) (id : Nat) : ConsentQueue :=
  { q with proposals := q.proposals.filter fun p => p.id != id }

/-- The pending proposal with an id. -/
def ConsentQueue.find (q : ConsentQueue) (id : Nat) : Option Proposal := q.proposals.find? fun p => p.id == id

/-! ### Adoption checks (R138, R154) -/

/-- The checks of R5. -/
def State.planReject (s : State) (c : Chan) (t : TankNo) : Option Rejection :=
  let k := s.tank t
  let taken := entryIds.any fun i =>
    match s.entry i with
    | some e => e.tank == t && e.chan != c && !e.state.terminal
    | none => false
  let graded := match k.decl with
    | some d => d.grade == (s.chanConfig c).grade
    | none => false
  let sealed := match k.strap with
    | .sealed _ => true
    | .empty | .unsealed => false
  if 16 ≤ s.plan.nextId then some .planFull
  else if taken then some .tankBusy
  else if !graded then some .grade
  else if !sealed then some .unsealed
  else none

/-- AMEND and CANCEL: the entry is not terminal (R7, R8). -/
def State.entryReject (s : State) (i : EntryId) : Option Rejection :=
  match s.entry i with
  | some e => if e.state.terminal then some .state else none
  | none => some .state

/-- START: the channel is IDLE and the trip state NORMAL (R138). -/
def State.startReject (s : State) (c : Chan) : Option Rejection :=
  if (s.chan c).state = .idle ∧ s.trip.state = .normal then none else some .state

/-- The checks of R154, in order. -/
def State.clearReject (s : State) (code : Nat) : Option Rejection :=
  match s.trip.firstOut with
  | some f =>
    if f.cause.code ≠ code then some .tripCode
    else if s.standing.any then some .state
    else if !s.allClosed then some .state
    else none
  | none => some .tripCode

/-- A channel passes the INIT check: MASKED, IDLE or FAULT with its valve proven closed (R138). -/
def Channel.restful (k : Channel) : Bool :=
  match k.state with
  | .masked | .idle | .fault => k.provenClosed
  | .opening | .flowing | .held | .closing => false

/-- INIT: every channel at rest (R138). -/
def State.initReject (s : State) : Option Rejection :=
  if chans.all fun c => (s.chan c).restful then none else some .valvesOpen

/-- The adoption check of a kind (R138). -/
def State.reject (s : State) : ProposalBody → Option Rejection
  | .plan c t .. => s.planReject c t
  | .amend e .. => s.entryReject e
  | .cancel e => s.entryReject e
  | .start c => s.startReject c
  | .clear k => s.clearReject k
  | .init => s.initReject

/-! ### What an adoption does -/

/-- A fresh entry (R6): NOT_READY, delivered 0, every optional field absent. -/
def Entry.fresh (c : Chan) (t : TankNo) (m : Mode) (allotment planRate : Nat) (st : EntryState) : Entry :=
  { chan := c, tank := t, mode := m, allotment := allotment, planRate := planRate, state := st, delivered := 0,
    lineup := .notReady, stage := none, baseline := none, meterBaseline := none, startVolume := none,
    startQuality := none, credit := 0, strikes := 0, endPending := none, endReason := none, started := none,
    ended := none, margin := none, slug := none, recon := none }

/-- The plan rate clamped to the channel's hose max rate (R6, R7). -/
def State.clampRate (s : State) (c : Chan) (r : Nat) : Nat := min r (s.chanConfig c).hoseMaxRate

/-- An adopted PLAN (R6). -/
def adoptPlan (c : Chan) (t : TankNo) (allotment planRate : Nat) (m : Mode) (s : State) : State :=
  match entryOf s.plan.nextId with
  | some i =>
    let st := if (s.current c).isNone then .await else .queued
    let s1 := s.setEntry i (some (Entry.fresh c t m allotment (s.clampRate c planRate) st))
    noteEntry .adopted i { s1 with plan := { s1.plan with nextId := s.plan.nextId + 1 } }
  | none => s

/-- An adopted AMEND (R7): the figures; then, by the entry's state, the end on an allotment already reached, with its close (R11), the
regrant of a changed plan rate (R108), and the meter margin worked again (R60). A pending end is kept. MODEL'S CHOICE (log 40): R7 and
R108 give no order between the end and the regrant; the end is set first, so no grant is made at the new rate to an entry that has
nothing remaining. -/
def adoptAmend (i : EntryId) (allotment planRate : Nat) (s : State) : State :=
  match s.entry i with
  | some e =>
    let rate := s.clampRate e.chan planRate
    let s1 := noteEntry .amended i (s.modEntry i fun e => { e with allotment := allotment, planRate := rate })
    let s2 := testAllotment e.chan i s1
    if e.state = .active then workMargin e.chan i (if rate = e.planRate then s2 else regrant false s2) else s2
  | none => s

/-- An adopted CANCEL (R8): a QUEUED entry is CANCELLED at once (R14 steps 1 and 4); a current entry has its end set. -/
def adoptCancel (i : EntryId) (s : State) : State :=
  match s.entry i with
  | some e =>
    if e.state = .queued then noteEntry .state i (s.modEntry i fun e => e.finish .cancel s.now)
    else endCurrent e.chan i .cancel s
  | none => s

/-- An adopted START (R77): the authorisation set, the last stop acknowledged (R158), the start conditions judged (R78). -/
def adoptStart (c : Chan) (s : State) : State :=
  let s1 := setAuth c true s
  let s2 := s1.modChan c fun k => { k with lastStop := k.lastStop.map fun l => { l with acknowledged := true } }
  judgeStart c (judgeHorn none s2)

/-- Both pauses leave a channel's hold set (R94, R156 step 4). -/
def liftPauses (c : Chan) (s : State) : State := removeHolds c [.pauseB, .pauseS] s

/-- An adopted CLEAR (R156), its steps in order. MODEL'S CHOICE (log 39): R156 gives no order among channels; step 4 lifts the pauses, and
step 7 judges the starts, in ascending channel number. -/
def adoptClear (s : State) : State :=
  let s1 := s.modTrip fun t =>
    { t with firstOut := none, later := [], more := false, unproven := Vector.replicate 4 false, state := .normal }
  let s2 := changeHeader (fun h => { h with state := .idle }) s1
  let s3 := regrant false (chans.foldl (fun x c => liftPauses c x) s2)
  let s4 := judgeHorn none s3
  let s5 := noteTrip .state (noteTrip .cleared s4)
  chans.foldl (fun x c => judgeStart c x) s5

/-- Step 1 of R180 for a tank: its items as after power-on, GAUGE_STEP handed inactive first (R159). -/
def clearTank (t : TankNo) (s : State) : State := (setGaugeStep t false s).setTank t Tank.blank

/-- Step 2 of R180 for a channel's record: MASKED with its hose DRAINED, both pauses kept, the meter's totals and rates kept, the last
stop kept (R72, R115). -/
def Channel.initialised (k : Channel) : Channel :=
  { k with
    state := .masked, command := .toClose, strokeTimer := none, openingStarted := none,
    holds := { HoldSet.empty with pauseB := k.holds.pauseB, pauseS := k.holds.pauseS }
    authorised := false, hose := .drained, pressureTimer := none, sourceLowTimer := none, strainTimer := none
    grant := 0, meter := { k.meter with stallTimer := none } }

/-- The tank a channel's UNMETERED_GAIN entry carries (R159). -/
def Trip.gainTank (t : Trip) (c : Chan) : TankNo :=
  (t.cautions.findSome? fun e =>
    match e.caution with
    | .unmeteredGain d k => if d = c then some k else none
    | .strain _ | .highSoon _ | .meterFull _ | .gaugeStep _ | .configDefaults => none).getD 0

/-- Step 2 of R180 for a channel, its cautions handed inactive. -/
def clearChannel (c : Chan) (s : State) : State :=
  setUnmetered c (s.trip.gainTank c) false (setStrain c false (setHighSoon c false (s.modChan c Channel.initialised)))

/-- Step 4 of R180 for a channel: STATE, HOLDS, AUTH and HOSE where they changed. -/
def noteCleared (before : State) (c : Chan) (s : State) : State :=
  let a := before.chan c
  let b := s.chan c
  let s1 := if a.state = b.state then s else noteChan .state c s
  let s2 := if a.holds = b.holds then s1 else noteChan .holds c s1
  let s3 := if a.authorised = b.authorised then s2 else noteChan .auth c s2
  if a.hose = b.hose then s3 else noteChan .hose c s3

/-- The header of step 3 of R180 (R97, R112). -/
def Header.initialised (h : Header) (trip : TripState) (k : SiteConfig) : Header :=
  { h with
    state := if trip = .normal then .idle else .tripped
    returnState := none, primeTimer := none, waitTimer := none, high := freshHigh k, low := freshLow k }

/-- An adopted INIT: the withdrawal of R142, then the steps of R180 in order. MODEL'S CHOICE (log 39): R159 and R180 give no order among
tanks or channels; the cautions of step 1 go in ascending tank, those of step 2 and the notices of step 4 in ascending channel
number. -/
def adoptInit (s : State) : State :=
  let s0 := withdrawWhere (fun _ => true) .init s
  let s1 := tankNos.foldl (fun x t => clearTank t x) { s0 with plan := Plan.blank }
  let s2 := chans.foldl (fun x c => clearChannel c x) s1
  let s3 := s2.modHeader fun h => h.initialised s2.trip.state s2.config
  let s4 := chans.foldl (fun x c => noteCleared s c x) s3
  let s5 := if s.header.state = s4.header.state then s4 else noteHeader .state s4
  if s.header.high = s5.header.high ∧ s.header.low = s5.header.low then s5 else noteHeader .order s5

/-- Carries an adopted proposal out (R137 step 3). -/
def carryOut (b : ProposalBody) (s : State) : State :=
  match b with
  | .plan c t a r m => adoptPlan c t a r m s
  | .amend e a r => adoptAmend e a r s
  | .cancel e => adoptCancel e s
  | .start c => adoptStart c s
  | .clear _ => adoptClear s
  | .init => adoptInit s

/-- Adopts a pending proposal on the endorsement of side `x` (R137): out of the queue, checked (R138), then rejected (R139) or carried
out. N-PROPOSAL ADOPTED stands ahead of the effects' notices (R137 step 5; log 22). -/
def adopt (p : Proposal) (x : Side) (s : State) : State × Result :=
  let s1 := { s with queue := s.queue.without p.id }
  match s1.reject p.body with
  | some r => (noteProposal (.rejected x r) p s1, .done (.proposal p.id))
  | none => (carryOut p.body (noteProposal (.adopted x) p s1), .adopted p.id)

/-! ### PROPOSE and ENDORSE (R130, R131, R134, R135) -/

/-- Accepts a proposal into the queue (R131 row 4, R132, R133). -/
def enqueue (x : Side) (b : ProposalBody) (s : State) : State × Result :=
  let id := freeId (s.queue.proposals.map Proposal.id) 9 s.queue.nextId
  let p : Proposal :=
    { id := id, side := x, body := b, bound := s.boundOf b, arrival := s.now,
      lapseAt := s.expiry s.config.device.consentWindow }
  let s1 := { s with queue := { proposals := s.queue.proposals ++ [p], nextId := nextProposalId id } }
  (noteProposal (.pending p.lapseAt) p s1, .pending id)

/-- The pending proposals of a side. -/
def ConsentQueue.ofSide (q : ConsentQueue) (x : Side) : List Proposal := q.proposals.filter fun p => p.side == x

/-- A proposal within the ranges of R130, judged by the rows of R131. -/
def arrive (x : Side) (b : ProposalBody) (s : State) : State × Result :=
  match s.queue.proposals.find? fun p => p.body == b with
  | some p =>
    if p.side = x then (s, .refused .duplicate)
    else if s.queue.mayAdopt p then adopt p x s
    else (s, .refused .order)
  | none =>
    if 8 ≤ s.queue.proposals.length ∨ 4 ≤ (s.queue.ofSide x).length then (s, .refused .queueFull) else enqueue x b s

/-- PROPOSE from side `x` (R130, R131). -/
def propose (x : Side) (raw : RawProposal) (s : State) : State × Result :=
  match proposalOf raw with
  | some b => if s.assigned b then arrive x b s else (s, .refused .range)
  | none => (s, .refused .range)

/-- ENDORSE from side `x` (R134). -/
def endorse (x : Side) (id : Nat) (raw : RawProposal) (s : State) : State × Result :=
  match proposalOf raw with
  | some b =>
    if inRange 1 255 id then
      match s.queue.find id with
      | some p =>
        if p.side = x then (s, .refused .self)
        else if p.body ≠ b then (s, .refused .mismatch)
        else if s.queue.mayAdopt p then adopt p x s
        else (s, .refused .order)
      | none => (s, .refused .noSuch)
    else (s, .refused .range)
  | none => (s, .refused .range)

/-- A lapse timer runs out: the proposal leaves the queue, reported LAPSED (R133). -/
def takeLapse (id : Nat) (s : State) : State :=
  match s.queue.find id with
  | some p =>
    if s.due (some p.lapseAt) then noteProposal .lapsed p { s with queue := s.queue.without id } else s
  | none => s

/-! ### Commands -/

/-- LAPSE_TIMER_EXPIRY (R133). -/
def execLapseTimerExpiry (id : Nat) (s : State) : Host.Outcome State Fault Refusal := whileOn s (withEvals (takeLapse id))

end Sys2Proof.Machine
end

