-- ==== Sys2Proof/Machine/Requests.lean ====
section
/-! DEFINITION. What each unilateral request does (R168): the owning rule's checks in order, its change, and the result that becomes the
reply (R167 step 5). -/

namespace Sys2Proof.Machine

/-- A request carried out with no data. -/
def doneWith (s : State) : State × Result := (s, .done .nothing)

/-- A refusal leaves the state as it was (R170). -/
def refuse (s : State) (r : Reason) : State × Result := (s, .refused r)

/-! ### Reads (R32, R96, R162, R169) -/

/-- The report of STATUS for side `p` (R169). -/
def State.report (s : State) (p : Side) : StatusReport :=
  { stamp := s.now, linkB := s.portB.link, linkS := s.portS.link, trip := s.trip.state, firstOut := s.trip.firstOut,
    laterCount := s.trip.later.length, more := s.trip.more, horn := s.trip.horn, header := s.headerView
    channels := chans.map fun c =>
      let k := s.chan c
      { state := k.state, holds := k.holds, authorised := k.authorised, grant := k.grant, current := s.currentId c,
        lastStop := k.lastStop }
    proposals := s.queue.proposals, nextProposalId := s.queue.nextId, storeValid := s.store.valid
    storeInFlight := s.store.inFlight.isSome, configDefaults := s.store.configDefaults
    cursor := if p = .ship then some s.cursor else none
    noticesLost := (s.port p).lost, ended := (s.port p).ended }

/-- STATUS (R169): the report, then the port's own notices lost and ended flags cleared. -/
def doStatus (p : Side) (s : State) : State × Result :=
  (s.modPort p fun x => { x with lost := false, ended := Vector.replicate 4 false }, .done (.status (s.report p)))

/-- READ-ENTRY (R169). -/
def doReadEntry (n : Nat) (s : State) : State × Result :=
  match entryOf n with
  | some i =>
    match s.entry i with
    | some e => (s, .done (.entry i e e.remaining))
    | none => refuse s .range
  | none => refuse s .range

/-- READ-TANK (R32, R49). -/
def doReadTank (n : Nat) (s : State) : State × Result :=
  match tankOf n with
  | some t => (s, .done (.tank t (s.tank t) (s.tankInUse t) (s.tank t).levelState (s.tank t).lEff))
  | none => refuse s .range

/-- READ-CHANNEL (R96). -/
def doReadChannel (n : Nat) (s : State) : State × Result :=
  match chanOf n with
  | some c => (s, .done (.channel c (s.chan c) (s.chanConfig c) (s.currentId c) (s.lockedIn c)))
  | none => refuse s .range

/-- READ-TRIP (R162). -/
def doReadTrip (s : State) : State × Result :=
  (s, .done (.trip s.trip s.standing (chans.map fun c => (s.chan c).provenClosed)))

/-! ### Stops, pauses and silence (R88, R94, R151, R161) -/

/-- STOP's ALL (R174). -/
def allChannels : Nat := 255

/-- STOP (R88): a channel stop STOP_CH, or with ALL the shutdown STOP_ALL (R151). -/
def doStop (p : Side) (n : Nat) (s : State) : State × Result :=
  if n = allChannels then doneWith (shutdown .stopAll (originOf p) s)
  else
    match chanOf n with
    | some c => doneWith (channelStop .stopCh (originOf p) none c s)
    | none => refuse s .range

/-- PAUSE (R94). -/
def doPause (p : Side) (n : Nat) (s : State) : State × Result :=
  match chanOf n with
  | some c => doneWith (addHold c (pauseOf p) s)
  | none => refuse s .range

/-- CONTINUE (R94). -/
def doContinue (p : Side) (n : Nat) (s : State) : State × Result :=
  match chanOf n with
  | some c => if (s.chan c).holds.has (pauseOf p) then doneWith (removeHold c (pauseOf p) s) else refuse s .notHeld
  | none => refuse s .range

/-- SILENCE (R161). -/
def doSilence (s : State) : State × Result :=
  if s.trip.horn = .quiet ∨ s.trip.mute = some s.trip.horn then doneWith s
  else doneWith (noteTrip .horn (s.modTrip fun t => { t with mute := some t.horn }))

/-! ### Tanks (R19, R20, R25 to R28, R35) -/

/-- Step 1 of R20 with the Level Watch items R34 sets at a TANKDEF. -/
def Tank.declare (k : Tank) (d : TankDecl) : Tank :=
  { k with decl := some d, suspect := none, stepRef := none, hiStopMark := none, blindTimer := none }

/-- An accepted TANKDEF (R20, R34, R42). MODEL'S CHOICE (log 35): the order of the notices one TANKDEF brings, which R20, R34 and R42 leave
open, is N-TANK ABOVE_TABLE (the flag falls within the flush), N-CAUTION of GAUGE_STEP, N-TANK LEVEL_STATE, N-TANK DEFINED. -/
def declareTank (t : TankNo) (d : TankDecl) (s : State) : State :=
  let k := s.tank t
  let s1 := setGaugeStep t false (flushWindow t (s.modTank t fun k => k.declare d))
  noteTank .defined t (noteLevelChange t k.levelState k.suspect none s1)

/-- TANKDEF (R19). -/
def doTankdef (n : Nat) (d : TankDecl) (s : State) : State × Result :=
  match tankOf n with
  | some t =>
    if !d.ok then refuse s .range
    else if s.tankInUse t then refuse s .inUse
    else
      match (s.tank t).topLevel with
      | some top => if top < d.hHi ∨ top < d.hHihi then refuse s .range else doneWith (declareTank t d s)
      | none => doneWith (declareTank t d s)
  | none => refuse s .range

/-- STRAP-SEEK (R25). -/
def doStrapSeek (n i : Nat) (s : State) : State × Result :=
  match tankOf n with
  | some t =>
    if i ≤ 15 then
      let cursor : Cursor := { tank := t, index := i }
      ({ s with cursor := cursor }, .done (.cursor cursor))
    else refuse s .range
  | none => refuse s .range

/-- Points written into slots from `i` on (R23, R26 step 1). -/
def writePoints (slots : Vector (Option Point) 16) (i : Nat) : List Point → Vector (Option Point) 16
  | [] => slots
  | p :: ps => writePoints (slots.setIfInBounds i (some p)) (i + 1) ps

/-- An accepted STRAP-PUT (R26, its five steps). -/
def putPoints (ps : List Point) (s : State) : State × Result :=
  let t := s.cursor.tank
  let cursor : Cursor := { s.cursor with index := s.cursor.index + ps.length }
  let before := (s.tank t).strap
  let s1 := { s.modTank t fun k => { k with points := writePoints k.points s.cursor.index ps, strap := .unsealed } with
    cursor := cursor }
  let s2 := match before with
    | .sealed _ => setAbove t false s1
    | .empty | .unsealed => s1
  (if before = .unsealed then s2 else noteTank .unsealed t s2, .done (.cursor cursor))

/-- STRAP-PUT (R26). -/
def doStrapPut (n : Nat) (p0 p1 p2 p3 : Point) (s : State) : State × Result :=
  let ps := [p0, p1, p2, p3].take n
  if !inRange 1 4 n || !ps.all Point.ok then refuse s .range
  else if 16 < s.cursor.index + n then refuse s .range
  else if s.tankInUse s.cursor.tank then refuse s .inUse
  else putPoints ps s

/-- The sum of the levels and volumes of points, modulo 2^32 (R27 check 4). -/
def pointSum (ps : List Point) : Nat := (ps.map fun p => p.level + p.volume).sum % 4294967296

/-- Levels rise strictly from each point to the next (R27 check 5). -/
def levelsRise : List Point → Bool
  | p :: q :: rest => decide (p.level < q.level) && levelsRise (q :: rest)
  | [_] => true
  | [] => true

/-- Volumes do not fall from any point to the next (R27 check 6). -/
def volumesHold : List Point → Bool
  | p :: q :: rest => decide (p.volume ≤ q.volume) && volumesHold (q :: rest)
  | [_] => true
  | [] => true

/-- The tank's high-high level is not above the last point, where the tank is defined (R27 check 7). -/
def Tank.hihiWithin (k : Tank) (ps : List Point) : Bool :=
  match k.decl, ps.getLast? with
  | some d, some p => decide (d.hHihi ≤ p.level)
  | _, _ => true

/-- An accepted STRAP-SEAL (R28). -/
def sealTable (t : TankNo) (n : Nat) (s : State) : State :=
  noteTank .sealed t (setAbove t false (s.modTank t fun k => { k with strap := .sealed n }))

/-- STRAP-SEAL (R27). -/
def doStrapSeal (n check : Nat) (s : State) : State × Result :=
  let t := s.cursor.tank
  if !inRange 2 16 n then refuse s .range
  else if s.tankInUse t then refuse s .inUse
  else
    match (s.tank t).firstPoints n with
    | some ps =>
      if pointSum ps ≠ check then refuse s .check
      else if !levelsRise ps || !volumesHold ps || !(s.tank t).hihiWithin ps then refuse s .shape
      else doneWith (sealTable t n s)
    | none => refuse s .shape

/-- LEVEL (R35, R36: the reply reports the tank SUSPECT with its origin). -/
def doLevel (n level : Nat) (q : Quality) (hi hihi : Bool) (s : State) : State × Result :=
  match tankOf n with
  | some t =>
    if (s.tank t).decl.isSome then
      let s1 := acceptReading t level q hi hihi s
      (s1, .done (.level (s1.tank t).levelState (s1.tank t).lEff (s1.tank t).suspect))
    else refuse s .undefinedTank
  | none => refuse s .range

/-! ### Entries (R15, R16) -/

/-- The entry is its channel's current entry (R15). -/
def State.isCurrent (s : State) (i : EntryId) (e : Entry) : Bool := s.currentId e.chan == some i

/-- What the channel does with a lineup stored (R15, R86): a start while AWAIT, the LINEUP_DROPPED hold in DEMAND, channel stop
LINEUP_LOST in BATCH and SLUG. -/
def lineupEffect (e : Entry) (v : Lineup) (s : State) : State :=
  match e.state with
  | .await => judgeStart e.chan s
  | .active =>
    match e.mode, v with
    | .demand, .notReady => addHold e.chan .lineupDropped s
    | .demand, .ready => removeHold e.chan .lineupDropped s
    | .batch, .notReady => channelStop .lineupLost .ship (some e.tank) e.chan s
    | .slug, .notReady => channelStop .lineupLost .ship (some e.tank) e.chan s
    | .batch, .ready => s
    | .slug, .ready => s
  | .queued | .done | .short | .cancelled => s

/-- An accepted LINEUP (R15). -/
def setLineup (i : EntryId) (e : Entry) (v : Lineup) (s : State) : State :=
  let s1 := s.modEntry i fun e => { e with lineup := v }
  lineupEffect e v (if e.lineup = v then s1 else noteEntry .lineup i s1)

/-- LINEUP (R15). -/
def doLineup (n : Nat) (v : Lineup) (s : State) : State × Result :=
  match entryOf n with
  | some i =>
    match s.entry i with
    | some e => if s.isCurrent i e then doneWith (setLineup i e v s) else refuse s .notCurrent
    | none => refuse s .notCurrent
  | none => refuse s .range

/-- ENTRY-END (R16). -/
def doEntryEnd (n : Nat) (s : State) : State × Result :=
  match entryOf n with
  | some i =>
    match s.entry i with
    | some e => if s.isCurrent i e then doneWith (endCurrent e.chan i .shipEnd s) else refuse s .notCurrent
    | none => refuse s .notCurrent
  | none => refuse s .range

/-! ### Configuration (R73, R98, R112, R177) -/

/-- An accepted CHCONFIG (R73): the ten fields; a changed K-factor zeroes the window count (R119); a changed group moves the channel
between the lists (R113). MODEL'S CHOICE (log 39): R73 and R113 give no order between their notices; N-CHANNEL CONFIG comes before N-HEADER
ORDER. -/
def configure (c : Chan) (k : ChannelConfig) (s : State) : State :=
  let old := s.chanConfig c
  let s1 := { s with config := { s.config with channels := s.config.channels.set c k } }
  let s2 := if old.kFactor = k.kFactor then s1 else s1.modMeter c fun m => { m with windowCount := 0 }
  let s3 := noteChan .config c s2
  if old.group = k.group then s3 else moveGroup c k.group s3

/-- CHCONFIG (R73). -/
def doChconfig (n : Nat) (k : ChannelConfig) (s : State) : State × Result :=
  match chanOf n with
  | some c =>
    if !k.ok then refuse s .range
    else if (s.chan c).state ≠ .masked then refuse s .inUse
    else if k.grade ≠ (s.chanConfig c).grade ∧ (s.current c).isSome = true then refuse s .inUse
    else doneWith (configure c k s)
  | none => refuse s .range

/-- HEADERCONFIG (R98). -/
def doHeaderconfig (h : HeaderConfig) (d : DeviceConfig) (s : State) : State × Result :=
  if !h.ok || !d.ok then refuse s .range
  else if s.header.state ≠ .idle then refuse s .inUse
  else doneWith (noteHeader .config { s with config := { s.config with header := h, device := d } })

/-- PRIORITY (R112). -/
def doPriority (q : PriorityPolicy) (s : State) : State × Result :=
  if s.anyCalling then refuse s .inUse
  else doneWith (regrant false (noteHeader .priority { s with config := { s.config with priority := q } }))

/-- STORE (R177). -/
def doStore (s : State) : State × Result :=
  match s.store.inFlight with
  | some _ => refuse s .busy
  | none => doneWith { s with store := { s.store with inFlight := some { snapshot := s.config, accepted := s.now } } }

/-! ### Arming, masking and the hose (R85, R95) -/

/-- A channel goes IDLE at an ARM (R85). -/
def armIdle (c : Chan) (s : State) : State :=
  updateChan c (fun k => { k with state := .idle, command := .toClose }) s

/-- The strain watch of a channel armed from MASKED starts, judged against the present tension (R85, R92). -/
def startStrain (c : Chan) (s : State) : State :=
  let config := s.chanConfig c
  let timer := some (s.expiry s.config.device.strainDwell)
  setStrain c (decide (config.strainWarn ≤ (s.chan c).tension)) (s.modChan c fun k =>
    { k with strainTimer := if config.strainTrip ≤ k.tension then timer else none })

/-- ARM (R85); the start conditions are judged at the channel's reaching IDLE (R78). -/
def doArm (n : Nat) (s : State) : State × Result :=
  match chanOf n with
  | some c =>
    let k := s.chan c
    match k.state with
    | .masked => if k.closedLimit then doneWith (judgeStart c (startStrain c (armIdle c s))) else refuse s .state
    | .idle => doneWith s
    | .fault => if k.provenClosed then doneWith (judgeStart c (armIdle c s)) else refuse s .state
    | .opening | .flowing | .held | .closing => refuse s .state
  | none => refuse s .range

/-- A channel goes MASKED (R85): the authorisation cleared (R77), the strain watch stopped with its caution (R92). MODEL'S CHOICE (log 39):
N-CHANNEL STATE, then AUTH, then the N-CAUTION of STRAIN. -/
def maskChannel (c : Chan) (s : State) : State :=
  setStrain c false (setAuth c false (updateChan c (fun k =>
    { k with state := .masked, command := .toClose, strainTimer := none }) s))

/-- MASK (R85). -/
def doMask (n : Nat) (s : State) : State × Result :=
  match chanOf n with
  | some c =>
    let k := s.chan c
    match k.state with
    | .masked => doneWith (setAuth c false s)
    | .idle => doneWith (maskChannel c s)
    | .fault => if k.provenClosed then doneWith (maskChannel c s) else refuse s .state
    | .opening | .flowing | .held | .closing => refuse s .state
  | none => refuse s .range

/-- An accepted HOSE (R95). -/
def drainHose (c : Chan) (s : State) : State :=
  if (s.chan c).hose = .drained then s else noteChan .hose c (s.modChan c fun k => { k with hose := .drained })

/-- HOSE (R95). -/
def doHose (n : Nat) (s : State) : State × Result :=
  match chanOf n with
  | some c =>
    let k := s.chan c
    if (k.state = .idle ∨ k.state = .masked) ∧ k.provenClosed = true then doneWith (drainHose c s) else refuse s .state
  | none => refuse s .range

/-! ### The request table (R168) -/

/-- Carries a request of side `p` out (R167 step 5, R168). -/
def handle (p : Side) (r : Request) (s : State) : State × Result :=
  match r with
  | .status => doStatus p s
  | .readEntry e => doReadEntry e s
  | .readTank t => doReadTank t s
  | .readChannel c => doReadChannel c s
  | .readTrip => doReadTrip s
  | .propose b => propose p b s
  | .endorse i b => endorse p i b s
  | .stop c => doStop p c s
  | .pause c => doPause p c s
  | .continue_ c => doContinue p c s
  | .silence => doSilence s
  | .tankdef t d => doTankdef t d s
  | .strapSeek t i => doStrapSeek t i s
  | .strapPut n p0 p1 p2 p3 => doStrapPut n p0 p1 p2 p3 s
  | .strapSeal n w => doStrapSeal n w s
  | .level t l q hi hihi => doLevel t l q hi hihi s
  | .lineup e v => doLineup e v s
  | .entryEnd e => doEntryEnd e s
  | .chconfig c k => doChconfig c k s
  | .headerconfig h d => doHeaderconfig h d s
  | .priority q => doPriority q s
  | .arm c => doArm c s
  | .mask c => doMask c s
  | .hose c => doHose c s
  | .store => doStore s

end Sys2Proof.Machine
end

