-- ==== Sys2Proof/Machine/Ports.lean ====
section
/-! DEFINITION. The link ports: bytes and frames (R163, R164), the link state (R165, R166), the taking of a request and its reply (R167,
R168, R170), the transmitter (R171). One meaning per request row. -/

namespace Sys2Proof.Machine

/-! ### The link state (R165) -/

/-- A valid frame restarts the silence timer; on a SILENT port it makes the port LIVE with notices lost set, and N-TRIP STATE is raised
(R164 step 4, R165; log 25). The frame is then no longer in progress. -/
def refreshLink (p : Side) (s : State) : State :=
  let timer := s.expiry s.config.device.linkSilence
  match (s.port p).link with
  | .live => s.modPort p fun x => { x with silenceTimer := some timer, rx := none }
  | .silent =>
    noteTrip .state (s.modPort p fun x => { x with link := .live, lost := true, silenceTimer := some timer, rx := none })

/-! ### Requests (R167, R168) -/

/-- Who may send a kind (R168). -/
def permits (k : RequestKind) (p : Side) : Bool :=
  match k with
  | .status | .readEntry | .readTank | .readChannel | .readTrip | .propose | .endorse | .stop | .pause | .continue_
  | .silence => true
  | .tankdef | .strapSeek | .strapPut | .strapSeal | .level | .lineup | .entryEnd => p == .ship
  | .chconfig | .headerconfig | .priority | .arm | .mask | .hose | .store => p == .barge

/-- The replies a port holds at most (R165). -/
def replyRoom : Nat := 4

/-- Places a reply at the tail of a port's reply list (R170). -/
def pushReply (p : Side) (r : Reply) (s : State) : State := s.modPort p fun x => { x with replies := x.replies ++ [r] }

/-- Steps 3 to 5 of R167: role, body, hand-off. -/
def judgeRequest (p : Side) (k : RequestKind) (body : List Byte) (s : State) : State × Result :=
  if permits k p then
    match decodeRequest k body with
    | some r => handle p r s
    | none => refuse s .range
  else refuse s .role

/-- A valid frame of a request kind (R167): the link refreshed, and where the reply list has room the request is judged and answered. -/
def takeRequest (p : Side) (k : RequestKind) (body : List Byte) (s : State) : State :=
  let s1 := refreshLink p s
  if replyRoom ≤ (s1.port p).replies.length then s1
  else
    let out := judgeRequest p k body s1
    pushReply p { tag := bodyTag body, kind := k.code, result := out.2 } out.1

/-- A valid frame of any other KIND (R167 step 2): refused RANGE. -/
def takeUnassigned (p : Side) (kind : Byte) (body : List Byte) (s : State) : State :=
  let s1 := refreshLink p s
  if replyRoom ≤ (s1.port p).replies.length then s1
  else pushReply p { tag := bodyTag body, kind := kind, result := .refused .range } s1

/-- A valid frame, by its KIND byte (R167). -/
def takeFrame (p : Side) (kind : Byte) (body : List Byte) (s : State) : State :=
  match RequestKind.ofCode kind with
  | some k => takeRequest p k body s
  | none => takeUnassigned p kind body s

/-! ### Bytes (R163, R164) -/

/-- A frame in progress is dropped (R163). -/
def dropFrame (p : Side) (s : State) : State := s.modPort p fun x => { x with rx := none }

/-- A byte received with its stop bit (R163, R164): SYNC begins a frame, any other byte outside one is discarded; inside one it joins it,
and the frame is judged (log 24). -/
def takeByte (p : Side) (b : Byte) (s : State) : State :=
  match (s.port p).rx with
  | none => if b = syncByte then s.modPort p fun x => { x with rx := some [] } else s
  | some bs =>
    match judgeFrame (bs ++ [b]) with
    | .more => s.modPort p fun x => { x with rx := some (bs ++ [b]) }
    | .discard => dropFrame p s
    | .valid kind body => takeFrame p kind body s

/-! ### The transmitter (R171) -/

/-- A frame has been sent whole: the transmitter is free (R171). -/
def frameSent (p : Side) (s : State) : State := s.modPort p fun x => { x with sending := none }

/-! ### Silence (R166, R141) -/

/-- The shutdown cause of a port's silence (R149). -/
def linkCause : Side → ShutdownCause
  | .barge => .linkB
  | .ship => .linkS

/-- A port after steps 1 to 3 of R166. -/
def Port.silenced (x : Port) : Port :=
  { x with link := .silent, silenceTimer := none, replies := [], notices := [], lost := false,
           ended := Vector.replicate 4 false }

/-- The withdrawal a silence hands on (R141). -/
def withdrawSilent (p : Side) (s : State) : State := withdrawWhere (fun q => q.side == p) .silent s

/-- The shutdown a silence hands on (R149, R166). -/
def shutdownSilent (p : Side) (s : State) : State := shutdown (linkCause p) .watch s

/-- The silence of a LIVE port (R166): N-TRIP STATE reports the change (R165), and which of the two hand-offs comes first is a free value
(log 10). -/
def goSilent (p : Side) (s : State) : State :=
  let s1 := s.modPort p Port.silenced
  let s2 := match p with
    | .ship => { s1 with cursor := Cursor.origin }
    | .barge => s1
  let s3 := { noteTrip .state s2 with freeCount := s.freeCount + 1 }
  if Config.silenceWithdrawsFirst s.freeCount then shutdownSilent p (withdrawSilent p s3)
  else withdrawSilent p (shutdownSilent p s3)

/-- The silence timer runs out (R165, R166). -/
def takeSilence (p : Side) (s : State) : State :=
  if (s.port p).link = .live ∧ s.due (s.port p).silenceTimer = true then goSilent p s else s

/-! ### Commands -/

/-- DISCARDED_FRAME (R163, R164): no item changes but the frame in progress. -/
def execDiscardedFrame (p : Side) (_cause : DiscardCause) (s : State) : Host.Outcome State Fault Refusal :=
  whileOn s (withEvals (dropFrame p))

/-- FRAME_GAP_TIMEOUT (R163). -/
def execFrameGapTimeout (p : Side) (s : State) : Host.Outcome State Fault Refusal := whileOn s (withEvals (dropFrame p))

/-- SILENCE_TIMER_EXPIRY (R165, R166). -/
def execSilenceTimerExpiry (p : Side) (s : State) : Host.Outcome State Fault Refusal := whileOn s (withEvals (takeSilence p))

/-- FRAME_TRANSMITTED (R171): the frame has gone, and the free transmitter takes the next (log 23). -/
def execFrameTransmitted (p : Side) (s : State) : Host.Outcome State Fault Refusal := whileOn s (withEvals (frameSent p))

/-- BYTE_RECEIVED (R163, R164). -/
def execByteReceived (p : Side) (b : Byte) (s : State) : Host.Outcome State Fault Refusal := whileOn s (withEvals (takeByte p b))

/-- UNASSIGNED_KIND_FRAME (R167). -/
def execUnassignedKindFrame (p : Side) (kind : Byte) (body : List Byte) (s : State) : Host.Outcome State Fault Refusal :=
  whileOn s (withEvals (takeFrame p kind body))

/-- STATUS (R169). -/
def execStatus (p : Side) (body : List Byte) (s : State) : Host.Outcome State Fault Refusal :=
  whileOn s (withEvals (takeRequest p .status body))

/-- READ-ENTRY (R169). -/
def execReadEntry (p : Side) (body : List Byte) (s : State) : Host.Outcome State Fault Refusal :=
  whileOn s (withEvals (takeRequest p .readEntry body))

/-- READ-TANK (R32, R49). -/
def execReadTank (p : Side) (body : List Byte) (s : State) : Host.Outcome State Fault Refusal :=
  whileOn s (withEvals (takeRequest p .readTank body))

/-- READ-CHANNEL (R96). -/
def execReadChannel (p : Side) (body : List Byte) (s : State) : Host.Outcome State Fault Refusal :=
  whileOn s (withEvals (takeRequest p .readChannel body))

/-- READ-TRIP (R162). -/
def execReadTrip (p : Side) (body : List Byte) (s : State) : Host.Outcome State Fault Refusal :=
  whileOn s (withEvals (takeRequest p .readTrip body))

/-- PROPOSE (R130, R131). -/
def execPropose (p : Side) (body : List Byte) (s : State) : Host.Outcome State Fault Refusal :=
  whileOn s (withEvals (takeRequest p .propose body))

/-- ENDORSE (R134). -/
def execEndorse (p : Side) (body : List Byte) (s : State) : Host.Outcome State Fault Refusal :=
  whileOn s (withEvals (takeRequest p .endorse body))

/-- STOP (R88); a body naming ALL is R151's (log 26). -/
def execStop (p : Side) (body : List Byte) (s : State) : Host.Outcome State Fault Refusal :=
  whileOn s (withEvals (takeRequest p .stop body))

/-- STOP naming all channels (R151): its body is the tag and $FF (R174). -/
def execStopAll (p : Side) (tag : Byte) (s : State) : Host.Outcome State Fault Refusal :=
  whileOn s (withEvals (takeRequest p .stop [tag, 0xFF]))

/-- PAUSE (R94). -/
def execPause (p : Side) (body : List Byte) (s : State) : Host.Outcome State Fault Refusal :=
  whileOn s (withEvals (takeRequest p .pause body))

/-- CONTINUE (R94). -/
def execContinue (p : Side) (body : List Byte) (s : State) : Host.Outcome State Fault Refusal :=
  whileOn s (withEvals (takeRequest p .continue_ body))

/-- SILENCE (R161). -/
def execSilence (p : Side) (body : List Byte) (s : State) : Host.Outcome State Fault Refusal :=
  whileOn s (withEvals (takeRequest p .silence body))

/-- TANKDEF (R19, R20). -/
def execTankdef (p : Side) (body : List Byte) (s : State) : Host.Outcome State Fault Refusal :=
  whileOn s (withEvals (takeRequest p .tankdef body))

/-- STRAP-SEEK (R25). -/
def execStrapSeek (p : Side) (body : List Byte) (s : State) : Host.Outcome State Fault Refusal :=
  whileOn s (withEvals (takeRequest p .strapSeek body))

/-- STRAP-PUT (R26). -/
def execStrapPut (p : Side) (body : List Byte) (s : State) : Host.Outcome State Fault Refusal :=
  whileOn s (withEvals (takeRequest p .strapPut body))

/-- STRAP-SEAL (R27, R28). -/
def execStrapSeal (p : Side) (body : List Byte) (s : State) : Host.Outcome State Fault Refusal :=
  whileOn s (withEvals (takeRequest p .strapSeal body))

/-- LEVEL (R35, R43). -/
def execLevel (p : Side) (body : List Byte) (s : State) : Host.Outcome State Fault Refusal :=
  whileOn s (withEvals (takeRequest p .level body))

/-- LINEUP (R15). -/
def execLineup (p : Side) (body : List Byte) (s : State) : Host.Outcome State Fault Refusal :=
  whileOn s (withEvals (takeRequest p .lineup body))

/-- ENTRY-END (R16). -/
def execEntryEnd (p : Side) (body : List Byte) (s : State) : Host.Outcome State Fault Refusal :=
  whileOn s (withEvals (takeRequest p .entryEnd body))

/-- CHCONFIG (R73). -/
def execChconfig (p : Side) (body : List Byte) (s : State) : Host.Outcome State Fault Refusal :=
  whileOn s (withEvals (takeRequest p .chconfig body))

/-- HEADERCONFIG (R98). -/
def execHeaderconfig (p : Side) (body : List Byte) (s : State) : Host.Outcome State Fault Refusal :=
  whileOn s (withEvals (takeRequest p .headerconfig body))

/-- PRIORITY (R112). -/
def execPriority (p : Side) (body : List Byte) (s : State) : Host.Outcome State Fault Refusal :=
  whileOn s (withEvals (takeRequest p .priority body))

/-- ARM (R85). -/
def execArm (p : Side) (body : List Byte) (s : State) : Host.Outcome State Fault Refusal :=
  whileOn s (withEvals (takeRequest p .arm body))

/-- MASK (R85). -/
def execMask (p : Side) (body : List Byte) (s : State) : Host.Outcome State Fault Refusal :=
  whileOn s (withEvals (takeRequest p .mask body))

/-- HOSE (R95). -/
def execHose (p : Side) (body : List Byte) (s : State) : Host.Outcome State Fault Refusal :=
  whileOn s (withEvals (takeRequest p .hose body))

/-- STORE (R177). -/
def execStore (p : Side) (body : List Byte) (s : State) : Host.Outcome State Fault Refusal :=
  whileOn s (withEvals (takeRequest p .store body))

end Sys2Proof.Machine
end

