-- ==== Sys2Proof/Machine/Supply.lean ====
section
/-! DEFINITION. The completion of a store write (R178), the loss of supply (R178, R179) and power-on (R176, R179). -/

namespace Sys2Proof.Machine

/-! ### The store (R175 to R178) -/

/-- A copy whose check word is the one worked over it (R175). -/
def StoredCopy.whole (k : SiteConfig) : StoredCopy := { items := k, checkWord := Config.checkWord k }

/-- A word that is not the one worked over the items: `w`, but where that is it (R176). -/
def failingWord (items : SiteConfig) (w : BitVec 32) : BitVec 32 := if Config.checkWord items = w then w + 1 else w

/-- A copy that fails its check: what it holds is not relied on, and items and word are free values but for that (R176, R178; log 7). -/
def StoredCopy.unrelied (n : Nat) : StoredCopy :=
  { items := Config.unreliedItems n, checkWord := failingWord (Config.unreliedItems n) (Config.unreliedWord n) }

/-- N-STORE (R178). -/
def noteStore (ok : Bool) (w : StoreWrite) (s : State) : State := raise (.store ok w.accepted s.now s.store.valid) s

/-- The write completes (R178). -/
def completeStore (verified : Bool) (w : StoreWrite) (s : State) : State :=
  if verified then
    noteStore true w (setConfigDefaults false
      { s with store := { s.store with copy := StoredCopy.whole w.snapshot, valid := true, inFlight := none } })
  else
    noteStore false w
      { s with freeCount := s.freeCount + 1,
               store := { s.store with copy := StoredCopy.unrelied s.freeCount, valid := false, inFlight := none } }

/-- A store completion is taken while a write is in flight (R178; log 3). -/
def takeCompletion (verified : Bool) (s : State) : State :=
  match s.store.inFlight with
  | some w => completeStore verified w s
  | none => s

/-! ### Loss of supply (R178) -/

/-- The copy a cut-off write leaves (R176, R178; log 7). -/
def Store.cut (k : Store) (w : StoreWrite) (n : Nat) : Store :=
  match Config.cutWrite n with
  | .untouched => { k with inFlight := none }
  | .partWritten => { k with copy := StoredCopy.unrelied n, inFlight := none }
  | .complete => { k with copy := StoredCopy.whole w.snapshot, inFlight := none }

/-- The supply is lost: a write in flight takes no completion (R178; log 7, log 8). -/
def losePower (s : State) : State :=
  match s.store.inFlight with
  | some w => { s with powered := false, freeCount := s.freeCount + 1, store := s.store.cut w s.freeCount }
  | none => { s with powered := false }

/-! ### Power-on (R176, R179) -/

/-- The store after the load of R176; `agrees`: the check word worked over the copy is the one stored with it. -/
def Store.loaded (k : Store) (agrees : Bool) : Store :=
  { k with valid := agrees, inFlight := none, configDefaults := !agrees }

/-- The running configuration R176 loads. -/
def Store.loadedConfig (k : Store) (agrees : Bool) : SiteConfig := if agrees then k.copy.items else SiteConfig.default

/-- Steps 1 to 3 of R179, with the trip record of step 4. -/
def powerOnBase (agrees : Bool) (f : FieldInputs) (s : State) : State :=
  let config := s.store.loadedConfig agrees
  { powered := true
    now := 0
    plan := Plan.blank
    tanks := Vector.replicate 12 Tank.blank
    channels := f.channels.map Channel.blank
    header :=
      { state := .tripped, returnState := none, primeTimer := none, waitTimer := none, dp := f.dp,
        pumpRunning := f.pumpRunning, high := freshHigh config, low := freshLow config }
    queue := { proposals := [], nextId := 1 }
    trip :=
      { state := .tripping, firstOut := some { cause := .restart, origin := .watch, stamp := 0 }, later := [], more := false,
        unproven := Vector.replicate 4 false, loopBOpen := f.loopBOpen, loopSOpen := f.loopSOpen, cautions := [],
        horn := .trip, mute := none }
    portB := Port.blank
    portS := Port.blank
    cursor := Cursor.origin
    config := config
    store := s.store.loaded agrees
    freeCount := s.freeCount
    evals := []
    pending := s.pending }

/-- A loop found open at power-on is taken as its shutdown cause, a later cause (R150, R179 step 4). -/
def loopAtStart (l : Side) (s : State) : State :=
  if s.trip.loopOpen l then shutdown (loopCause l) (originOf l) s else s

/-- Step 5 of R179 for a channel: the closed limit absent starts the stroke timer. Both limits present are a valve fault (R84; log 31). -/
def strokeAtStart (c : Chan) (s : State) : State :=
  let k := s.chan c
  if !k.closedLimit then s.modChan c fun k => { k with strokeTimer := some (s.strokeExpiry c) }
  else if k.openLimit then valveFault c s
  else s

/-- The steps of R179 in order, the field inputs `f` read and the stored copy checked. MODEL'S CHOICE (log 38): of two loops found open
R150 and R179 do not say which cause is taken first; loop B's is, and so stands first in the later causes. Nor do they order several
channels that show both limits (log 31): their VALVE_UNPROVEN are taken, and stand in the later causes, in ascending channel number. -/
def startUp (agrees : Bool) (f : FieldInputs) (s : State) : State :=
  let s1 := loopAtStart .ship (loopAtStart .barge (powerOnBase agrees f s))
  let s2 := if agrees then s1 else cautionOn .configDefaults s1
  judgeSettled (chans.foldl (fun x c => strokeAtStart c x) s2)

/-- Power-on (R179): the check word worked over the stored copy is compared with the one stored with it (R176), and the part starts. -/
def powerUp (f : FieldInputs) (s : State) : State := startUp s.store.copy.agrees f s

/-- The supply comes on; where it was on already it has first been lost (log 9). -/
def takePowerOn (f : FieldInputs) (s : State) : State := powerUp f (if s.powered then losePower s else s)

/-! ### Commands -/

/-- STORE_COMPLETION (R178). -/
def execStoreCompletion (verified : Bool) (s : State) : Host.Outcome State Fault Refusal :=
  whileOn s (withEvals (takeCompletion verified))

/-- POWER_ON (R179). It is taken with or without supply (log 8, log 9). -/
def execPowerOn (f : FieldInputs) (s : State) : Host.Outcome State Fault Refusal := .next (withEvals (takePowerOn f) s)

/-- POWER_LOSS (R178). A part without supply sends no frame. -/
def execPowerLoss (s : State) : Host.Outcome State Fault Refusal := whileOn s losePower

end Sys2Proof.Machine
end

