-- ==== Sys2Proof/Machine/Dispatch.lean ====
section
/-! DEFINITION. The meaning of every command: one arm per row of the opcode table, each one direct call. -/

namespace Sys2Proof.Machine

def exec (i : Instr) (s : State) : Host.Outcome State Fault Refusal :=
  match i with
  | .powerOn inputs => Sys2Proof.Machine.execPowerOn inputs s
  | .discardedFrame p cause => Sys2Proof.Machine.execDiscardedFrame p cause s
  | .frameGapTimeout p => Sys2Proof.Machine.execFrameGapTimeout p s
  | .silenceTimerExpiry p => Sys2Proof.Machine.execSilenceTimerExpiry p s
  | .frameTransmitted p => Sys2Proof.Machine.execFrameTransmitted p s
  | .status p body => Sys2Proof.Machine.execStatus p body s
  | .readEntry p body => Sys2Proof.Machine.execReadEntry p body s
  | .readTank p body => Sys2Proof.Machine.execReadTank p body s
  | .readChannel p body => Sys2Proof.Machine.execReadChannel p body s
  | .readTrip p body => Sys2Proof.Machine.execReadTrip p body s
  | .propose p body => Sys2Proof.Machine.execPropose p body s
  | .endorse p body => Sys2Proof.Machine.execEndorse p body s
  | .lapseTimerExpiry id => Sys2Proof.Machine.execLapseTimerExpiry id s
  | .stop p body => Sys2Proof.Machine.execStop p body s
  | .stopAll p tag => Sys2Proof.Machine.execStopAll p tag s
  | .pause p body => Sys2Proof.Machine.execPause p body s
  | .continue_ p body => Sys2Proof.Machine.execContinue p body s
  | .silence p body => Sys2Proof.Machine.execSilence p body s
  | .tankdef p body => Sys2Proof.Machine.execTankdef p body s
  | .strapSeek p body => Sys2Proof.Machine.execStrapSeek p body s
  | .strapPut p body => Sys2Proof.Machine.execStrapPut p body s
  | .strapSeal p body => Sys2Proof.Machine.execStrapSeal p body s
  | .level p body => Sys2Proof.Machine.execLevel p body s
  | .lineup p body => Sys2Proof.Machine.execLineup p body s
  | .entryEnd p body => Sys2Proof.Machine.execEntryEnd p body s
  | .chconfig p body => Sys2Proof.Machine.execChconfig p body s
  | .headerconfig p body => Sys2Proof.Machine.execHeaderconfig p body s
  | .priority p body => Sys2Proof.Machine.execPriority p body s
  | .arm p body => Sys2Proof.Machine.execArm p body s
  | .mask p body => Sys2Proof.Machine.execMask p body s
  | .hose p body => Sys2Proof.Machine.execHose p body s
  | .store p body => Sys2Proof.Machine.execStore p body s
  | .storeCompletion verified => Sys2Proof.Machine.execStoreCompletion verified s
  | .closedLimitReached c => Sys2Proof.Machine.execClosedLimitReached c s
  | .closedLimitLost c => Sys2Proof.Machine.execClosedLimitLost c s
  | .openLimitReached c => Sys2Proof.Machine.execOpenLimitReached c s
  | .openLimitLost c => Sys2Proof.Machine.execOpenLimitLost c s
  | .strokeTimerExpiry c => Sys2Proof.Machine.execStrokeTimerExpiry c s
  | .meterPulse c => Sys2Proof.Machine.execMeterPulse c s
  | .rateWindowRefresh c => Sys2Proof.Machine.execRateWindowRefresh c s
  | .stallTimerExpiry c => Sys2Proof.Machine.execStallTimerExpiry c s
  | .staleTimerExpiry t => Sys2Proof.Machine.execStaleTimerExpiry t s
  | .blindTimerExpiry t => Sys2Proof.Machine.execBlindTimerExpiry t s
  | .pressureReachesMax c v => Sys2Proof.Machine.execPressureReachesMax c v s
  | .pressureFallsBelowMax c v => Sys2Proof.Machine.execPressureFallsBelowMax c v s
  | .pressureTimerExpiry c => Sys2Proof.Machine.execPressureTimerExpiry c s
  | .tensionReachesStrainWarn c v => Sys2Proof.Machine.execTensionReachesStrainWarn c v s
  | .tensionFallsBelowStrainWarn c v => Sys2Proof.Machine.execTensionFallsBelowStrainWarn c v s
  | .tensionReachesStrainTrip c v => Sys2Proof.Machine.execTensionReachesStrainTrip c v s
  | .tensionFallsBelowStrainTrip c v => Sys2Proof.Machine.execTensionFallsBelowStrainTrip c v s
  | .strainDwellTimerExpiry c => Sys2Proof.Machine.execStrainDwellTimerExpiry c s
  | .sourceLowAsserts c => Sys2Proof.Machine.execSourceLowAsserts c s
  | .sourceLowClears c => Sys2Proof.Machine.execSourceLowClears c s
  | .sourceLowTimerExpiry c => Sys2Proof.Machine.execSourceLowTimerExpiry c s
  | .strainerDpAsserts => Sys2Proof.Machine.execStrainerDpAsserts s
  | .strainerDpClears => Sys2Proof.Machine.execStrainerDpClears s
  | .waitTimerExpiry => Sys2Proof.Machine.execWaitTimerExpiry s
  | .primeTimerExpiry => Sys2Proof.Machine.execPrimeTimerExpiry s
  | .pumpRunningLost => Sys2Proof.Machine.execPumpRunningLost s
  | .pumpRunningReturns => Sys2Proof.Machine.execPumpRunningReturns s
  | .esdLoopOpens l => Sys2Proof.Machine.execEsdLoopOpens l s
  | .esdLoopCloses l => Sys2Proof.Machine.execEsdLoopCloses l s
  | .byteReceived p b => Sys2Proof.Machine.execByteReceived p b s
  | .unassignedKindFrame p kind body => Sys2Proof.Machine.execUnassignedKindFrame p kind body s
  | .powerLoss => Sys2Proof.Machine.execPowerLoss s

end Sys2Proof.Machine
end

