-- ==== Sys2Proof/Machine/Step.lean ====
section
/-! DEFINITION. One step of the part: the command at the front of its queue, or, with none waiting, the passing of one second (log 1). -/

namespace Sys2Proof.Machine

/-- A second passes: the time stamp counts it on a part that has its supply (00 "Time"; log 1, log 4). -/
def tick (s : State) : State := if s.powered then { s with now := stampAdd s.now 1 } else s

/-- One step: the command at the front of the queue is taken, with the queue's rest behind it (log 1). -/
def step (s : State) : Host.Outcome State Fault Refusal :=
  match s.pending with
  | [] => .next (tick s)
  | c :: rest => exec c { s with pending := rest }

/-- The state with the command a table word spells put at the front of its queue; the table gives no row bits, so no word spells one. -/
def State.withFetchWord (s : State) (nbits w : Nat) : State :=
  match decodeTableWord nbits w with
  | some c => { s with pending := c :: s.pending }
  | none => s

end Sys2Proof.Machine
end

