-- ==== Sys2Proof/Machine/Frames.lean ====
section
/-! DEFINITION. The frames the part sends, byte by byte (R171, R174): the KIND and result codes, the items each reply and notice carries
with the size of its type, and the frame on the line. The spec lays out requests, the first bytes of a reply, and no more; the
rest is arranged by a free value (log 12). -/

namespace Sys2Proof.Machine

/-! ### Fields (R174) -/

/-- An item as a body carries it, by its type in R174's table. -/
inductive Field where
  /-- a small number -/
  | small (n : Nat)
  /-- one value of a named set, coded from $00 in the order of its table -/
  | choice (n : Nat)
  /-- a level, rate, pressure, tension or time -/
  | word (n : Nat)
  /-- a volume, K-factor or check word -/
  | long (n : Nat)
  /-- a signed volume -/
  | signed (z : Int)
  /-- a time stamp -/
  | stamp (n : Nat)
  /-- flags, eight to a flag byte; which of an item's two values is a flag's, and which share a byte, is the model's (log 12) -/
  | flags (bs : List Bool)
  /-- an item whose type the table does not give -/
  | untyped (z : Int)
  | absent
  deriving DecidableEq, Repr

/-- `put n` where `n` is below `bound`, the size of the type; else a free value (log 12). -/
def sized (bound : Nat) (put : Nat → List Byte) (n : Nat) : List Byte := if n < bound then put n else Config.untypedField n

/-- The bytes of a field (R174). -/
def Field.bytes : Field → List Byte
  | .small n => sized 256 put1 n
  | .choice n => put1 n
  | .word n => sized 65536 put2 n
  | .long n => sized 4294967296 put4 n
  | .stamp n => sized 4294967296 put4 n
  | .signed z => if -2147483648 ≤ z ∧ z < 2147483648 then putSigned z else Config.untypedField z
  | .flags bs => flagByte (bs.take 8) :: (if 8 < bs.length then [flagByte (bs.drop 8)] else [])
  | .untyped z => Config.untypedField z
  | .absent => Config.absentField

/-- An item that may be absent. -/
def optField {α : Type} (f : α → Field) : Option α → Field
  | some a => f a
  | none => .absent

/-! ### Choice codes that do not follow the constructors (R174)

Every other set's constructors stand in the order of the table of its field. -/

/-- TRIP, ALARM, CAUTION, NONE (R146). -/
def HornClass.field : HornClass → Field
  | .trip => .choice 0 | .alarm => .choice 1 | .caution => .choice 2 | .quiet => .choice 3

/-- The suspect mark's origin: SHIP or WATCH (R34). -/
def suspectField : Option Origin → Field
  | some .ship => .choice 0
  | some .watch => .choice 1
  | some .barge => .absent
  | none => .absent

/-- The return state: PRIMING, SERVING, STANDBY (R97), a set of its own beside the header state's. No other state is ever one. -/
def returnField : Option HeaderState → Field
  | some .priming => .choice 0
  | some .serving => .choice 1
  | some .standby => .choice 2
  | some .idle | some .waiting | some .tripped | none => .absent

/-- The level state of a level basis: PARTIAL, STEADY, SLOSHING (R51). A level half runs in no other (R54). -/
def basisField : LevelState → Field
  | .partFull => .choice 0
  | .steady => .choice 1
  | .sloshing => .choice 2
  | .cold | .stale | .suspect => .absent

/-- T (R51): no rule gives NO_FLOW a code or a size, and the range of the seconds passes the sizes of the table; the bytes of both are
free values (log 12). -/
def TimeToHigh.field : TimeToHigh → Field
  | .noFlow => .untyped (-2)
  | .seconds n => .untyped n

/-! ### The items of the records (R17, R32, R49, R71, R96, R114, R127, R145, R159, R162, R169) -/

/-- The hold-reason set, one flag per reason in the order of R76. MODEL'S CHOICE (log 12): R174 gives it no type; nine flags fill two flag
bytes. -/
def HoldSet.field (h : HoldSet) : Field :=
  .flags [h.noGrant, h.headerWait, h.noPump, h.settling, h.lineupDropped, h.sourceLow, h.blind, h.pauseB, h.pauseS]

def LevelHalf.fields (h : LevelHalf) : List Field :=
  [basisField h.levelState, .word h.lEff, .long h.vNow, .long h.vHi, .signed h.m, h.t.field, .choice h.computed.ctorIdx]

def MarginRecord.fields (r : MarginRecord) : List Field :=
  [.stamp r.evaluatedAt, .word r.q, .long r.aClose, .signed r.mm]
    ++ match r.level with
      | some h => h.fields
      | none => [.absent]

def SlugRecord.fields (r : SlugRecord) : List Field :=
  [.choice r.phase.ctorIdx, optField .long r.size, optField .long r.base]

def ReconRecord.fields (r : ReconRecord) : List Field :=
  .choice r.origin.ctorIdx ::
    match r.figures with
    | some f =>
      [.stamp f.evaluatedAt, .long f.dVm, .signed f.dVl, .long f.credit, .signed f.e, .long f.tol, .choice f.result.ctorIdx]
    | none => [.absent]

/-- The items of an entry record in the order of R2, then its margin, slug and reconciliation records. -/
def Entry.fields (e : Entry) (i : EntryId) : List Field :=
  [.small i, .small e.chan, .small e.tank, .choice e.mode.ctorIdx, .long e.allotment, .word e.planRate,
   .choice e.state.ctorIdx, .long e.delivered, .long e.remaining, .choice e.lineup.ctorIdx,
   optField (fun x => .choice x.ctorIdx) e.stage, optField (fun b => .untyped b.total) e.baseline,
   optField (fun b => .long b.kFactor) e.baseline, optField (fun n => .untyped n) e.meterBaseline,
   optField .long e.startVolume, optField (fun x => .choice x.ctorIdx) e.startQuality, .long e.credit, .untyped e.strikes,
   optField (fun x => .choice x.ctorIdx) e.endPending, optField (fun x => .choice x.ctorIdx) e.endReason,
   optField .stamp e.started, optField .stamp e.ended]
    ++ (match e.margin with
      | some r => r.fields
      | none => [.absent])
    ++ (match e.slug with
      | some r => r.fields
      | none => [.absent])
    ++ (match e.recon with
      | some r => r.fields
      | none => [.absent])

def EntryView.fields (v : EntryView) : List Field :=
  [.small v.id, .small v.chan, .small v.tank, .choice v.mode.ctorIdx, .choice v.state.ctorIdx, .long v.allotment,
   .word v.planRate, .long v.delivered, .long v.remaining, .choice v.lineup.ctorIdx,
   optField (fun x => .choice x.ctorIdx) v.stage, optField (fun x => .choice x.ctorIdx) v.endPending,
   optField (fun x => .choice x.ctorIdx) v.endReason]

def declFields : Option TankDecl → List Field
  | some d =>
    [.small d.grade, .word d.hHi, .word d.hHihi, .word d.slosh, .long d.toppingVolume, .word d.toppingRate,
     .long d.slugVolume, .word d.stepLimit]
  | none => [.absent]

/-- The strap state and the sealed point count (R22). -/
def StrapState.fields : StrapState → List Field
  | .empty => [.choice 0, .absent]
  | .unsealed => [.choice 1, .absent]
  | .sealed n => [.choice 2, .small n]

def pointFields : Option Point → List Field
  | some p => [.word p.level, .long p.volume]
  | none => [.absent]

/-- The items of a tank record with its Level Watch items (R32, R49). -/
def Tank.fields (k : Tank) (t : TankNo) (inUse : Bool) : List Field :=
  [.small t, .flags [k.decl.isSome]] ++ declFields k.decl ++ k.strap.fields ++ k.points.toList.flatMap pointFields
    ++ [.flags [k.aboveTable], .flags [inUse]]
    ++ k.window.flatMap (fun r => [.word r.level, .stamp r.stamp])
    ++ [.choice k.levelState.ctorIdx, optField .word k.lEff, suspectField k.suspect, optField .word k.stepRef,
        .flags [k.shipHi, k.shipHihi, k.ownHi, k.ownHihi], optField (fun i => .small i.val) k.hiStopMark, .flags [k.gaugeStep],
        optField .stamp k.staleTimer, optField .stamp k.blindTimer]

/-- A last stop: cause code, origin, tank, time stamp and acknowledged mark (R72). -/
def lastStopFields : Option LastStop → List Field
  | some l =>
    [.small l.cause.code, .choice l.origin.ctorIdx, optField (fun t => .small t.val) l.tank, .stamp l.stamp,
     .flags [l.acknowledged]]
  | none => [.absent]

def ChannelConfig.fields (k : ChannelConfig) : List Field :=
  [.small k.grade, .word k.strokeTime, .long k.hoseDrain, .long k.kFactor, .word k.hoseMaxRate, .word k.minFlow,
   .word k.pressureMax, .word k.strainWarn, .word k.strainTrip, .choice k.group.ctorIdx]

/-- The items of READ-CHANNEL (R96, R127). -/
def Channel.fields (k : Channel) (c : Chan) (config : ChannelConfig) (current : Option EntryId) (lockedIn : Bool) : List Field :=
  .small c :: ChannelConfig.fields config
    ++ [.choice k.state.ctorIdx, optField (fun i => .small i.val) current, .choice k.command.ctorIdx,
        optField .stamp k.strokeTimer, optField .stamp k.openingStarted, k.holds.field, .flags [k.authorised], .flags [lockedIn],
        .choice k.hose.ctorIdx]
    ++ lastStopFields k.lastStop
    ++ [optField .stamp k.pressureTimer, optField .stamp k.sourceLowTimer, optField .stamp k.strainTimer, .flags [k.strain],
        .flags [k.highSoon], .flags [k.openLimit, k.closedLimit, k.sourceLow], .word k.pressure, .word k.tension, .word k.grant,
        .untyped k.meter.total, .flags [k.meter.saturated], .untyped k.meter.windowCount, .stamp k.meter.nextRefresh,
        .word k.meter.rate, optField .stamp k.meter.stallTimer, .flags [k.meter.unmeteredGain]]

def ChannelView.fields (v : ChannelView) : List Field :=
  [.small v.chan, .choice v.state.ctorIdx, v.holds.field, .flags [v.authorised], .flags [v.lockedIn],
   optField (fun i => .small i.val) v.current, .choice v.hose.ctorIdx, .word v.grant]

/-- A place in the HIGH list: a channel, or the LOW token, whose code no rule gives. -/
def HighItem.field : HighItem → Field
  | .chan c => .small c
  | .lowToken => .untyped (-1)

/-- The items of N-HEADER (R114). MODEL'S CHOICE (log 12): pump RUN (on, off), the dp (asserted, clear) and pump running (true, false) are
flags; R174 gives them no type. -/
def HeaderView.fields (v : HeaderView) : List Field :=
  [.choice v.state.ctorIdx, returnField v.returnState, .word v.capacity, .choice v.policy.ctorIdx,
   .choice v.priority.ctorIdx]
    ++ v.grants.map .word
    ++ [.flags [v.run], .word v.demand, .flags [v.dp], .flags [v.pumpRunning], optField .stamp v.primeTimer,
        optField .stamp v.waitTimer]
    ++ v.high.map HighItem.field ++ v.low.map fun c => .small c.val

/-- The channel or the tank a shutdown cause carries (R149). -/
def ShutdownCause.keyField : ShutdownCause → Field
  | .levelHihi t => .small t
  | .hoseStrain c => .small c
  | .valveUnproven c => .small c
  | .restart | .esdB | .esdS | .linkB | .linkS | .stopAll | .strainer | .pumpFail => .absent

/-- A cause entry (R146). -/
def CauseEntry.fields (e : CauseEntry) : List Field :=
  [.small e.cause.code, .choice e.origin.ctorIdx, e.cause.keyField, .stamp e.stamp]

def optCause : Option CauseEntry → List Field
  | some e => e.fields
  | none => [.absent]

def Standing.field (k : Standing) : Field := .flags [k.loopB, k.loopS, k.portB, k.portS, k.hihi, k.tension, k.dp, k.pump]

/-- What every N-TRIP carries (R162). -/
def TripView.fields (v : TripView) : List Field :=
  .choice v.state.ctorIdx :: optCause v.firstOut ++ v.later.flatMap CauseEntry.fields
    ++ [.flags [v.more], .flags v.unproven.toList, .choice v.loopBOpen.toNat, .choice v.loopSOpen.toNat, .choice v.linkB.ctorIdx,
        .choice v.linkS.ctorIdx, v.standing.field, v.horn.field, optField HornClass.field v.mute]

/-- A caution's kind and key (R159). -/
def Caution.fields : Caution → List Field
  | .strain c => [.choice 0, .small c]
  | .highSoon c => [.choice 1, .small c]
  | .unmeteredGain c t => [.choice 2, .small c, .small t]
  | .meterFull c => [.choice 3, .small c]
  | .gaugeStep t => [.choice 4, .small t]
  | .configDefaults => [.choice 5]

def CautionEntry.fields (e : CautionEntry) : List Field := e.caution.fields ++ [.stamp e.stamp]

/-- The items of READ-TRIP (R162). -/
def Trip.fields (t : Trip) (standing : Standing) (closed : List Bool) : List Field :=
  .choice t.state.ctorIdx :: optCause t.firstOut ++ t.later.flatMap CauseEntry.fields
    ++ [.flags [t.more], .flags t.unproven.toList, .choice t.loopBOpen.toNat, .choice t.loopSOpen.toNat]
    ++ t.cautions.flatMap CautionEntry.fields ++ [t.horn.field, optField HornClass.field t.mute, standing.field, .flags closed]

/-- A proposal's kind and body (R129). -/
def ProposalBody.fields : ProposalBody → List Field
  | .plan c t a r m => [.choice 0, .small c, .small t, .long a, .word r, .choice m.ctorIdx]
  | .amend e a r => [.choice 1, .small e, .long a, .word r]
  | .cancel e => [.choice 2, .small e]
  | .start c => [.choice 3, .small c]
  | .clear k => [.choice 4, .small k]
  | .init => [.choice 5]

/-- A side as a proposing or endorsing side: BARGE, SHIP (R128). -/
def sideField (p : Side) : Field := .choice p.ctorIdx

/-- All the fields of a pending proposal (R128, R145). -/
def Proposal.fields (p : Proposal) : List Field :=
  [.small p.id, sideField p.side] ++ p.body.fields
    ++ [optField (fun c => .small c.val) p.bound, .stamp p.arrival, .stamp p.lapseAt]

/-- What STATUS reports of one channel (R169). -/
def ChannelBrief.fields (b : ChannelBrief) : List Field :=
  [.choice b.state.ctorIdx, b.holds.field, .flags [b.authorised], .word b.grant, optField (fun i => .small i.val) b.current]
    ++ lastStopFields b.lastStop

/-- The cursor: tank and index (R24). -/
def Cursor.fields (k : Cursor) : List Field := [.small k.tank, .small k.index]

/-- VALID, INVALID (R175). -/
def validField (v : Bool) : Field := .choice (!v).toNat

/-- The items of STATUS, in the order of R169. -/
def StatusReport.fields (r : StatusReport) : List Field :=
  [.stamp r.stamp, .choice r.linkB.ctorIdx, .choice r.linkS.ctorIdx, .choice r.trip.ctorIdx] ++ optCause r.firstOut
    ++ [.untyped r.laterCount, .flags [r.more], r.horn.field] ++ r.header.fields
    ++ r.channels.flatMap ChannelBrief.fields ++ r.proposals.flatMap Proposal.fields
    ++ [.small r.nextProposalId, validField r.storeValid, .flags [r.storeInFlight], .flags [r.configDefaults]]
    ++ (match r.cursor with
      | some k => k.fields
      | none => [.absent])
    ++ [.flags [r.noticesLost], .flags r.ended.toList]

/-! ### Replies (R170, R174) -/

/-- The KIND of every reply (R174). -/
def replyKindCode : Byte := 0x40

/-- The reason byte of a REFUSED reply, coded from $01 (R174). -/
def Reason.code : Reason → Byte
  | .role => 0x01 | .range => 0x02 | .busy => 0x03 | .inUse => 0x04 | .queueFull => 0x05 | .duplicate => 0x06
  | .self => 0x07 | .mismatch => 0x08 | .noSuch => 0x09 | .order => 0x0A | .notCurrent => 0x0B | .notHeld => 0x0C
  | .undefinedTank => 0x0D | .check => 0x0E | .shape => 0x0F | .state => 0x10

/-- The bytes of items one after another. -/
def concatFields (fs : List Field) : List Byte := fs.flatMap Field.bytes

/-- The bytes of a record's items, arranged by the free value. MODEL'S CHOICE (log 12): a record can need more than a body's 120 bytes
(R164; a full tank record, R32), and the spec does not say what the frame then carries; the arranged bytes are cut at `room`. -/
def recordBytes (kind : Byte) (room : Nat) (fs : List Field) : List Byte := (Config.arrange kind (fs.map Field.bytes)).take room

/-- The data of a DONE reply: a rejection's proposal id, a cursor position and a reading's figures stand after the result one after
another in the order their rules name them (R25, R35, R36, R139); the records are arranged by the free value (log 12). -/
def ReplyData.bytes (kind : Byte) : ReplyData → List Byte
  | .nothing => []
  | .proposal id => concatFields [.small id]
  | .cursor k => concatFields k.fields
  | .level st l suspect => (concatFields [.choice st.ctorIdx, optField .word l, suspectField suspect]).take (maxBody - 3)
  | .status r => recordBytes kind (maxBody - 3) r.fields
  | .entry i e _ => recordBytes kind (maxBody - 3) (e.fields i)
  | .tank t k inUse _ _ => recordBytes kind (maxBody - 3) (k.fields t inUse)
  | .channel c k config current lockedIn => recordBytes kind (maxBody - 3) (k.fields c config current lockedIn)
  | .trip t standing closed => recordBytes kind (maxBody - 3) (t.fields standing closed)

/-- The result byte and the data after it (R174). -/
def Result.bytes (kind : Byte) : Result → List Byte
  | .done d => 0x00 :: d.bytes kind
  | .pending id => 0x01 :: concatFields [.small id]
  | .adopted id => 0x02 :: concatFields [.small id]
  | .refused r => [0x03, r.code]

/-- The body of a reply: the request's tag, its KIND, the result and its data (R174). -/
def Reply.body (r : Reply) : List Byte := r.tag :: r.kind :: r.result.bytes r.kind

/-! ### Notices (R172, R174) -/

/-- The KIND of a notice (R174). -/
def Notice.kindCode : Notice → Byte
  | .entry .. => 0x50 | .channel .. => 0x51 | .header .. => 0x52
  | .tank .. => 0x53 | .tankLevel .. => 0x53 | .tankAlarm .. => 0x53
  | .proposal .. => 0x54 | .trip .. => 0x55 | .caution .. => 0x56 | .store .. => 0x57

/-- Why a proposal was withdrawn: STOP, SHUTDOWN, SILENT, INIT, the first two with the cause code (R145). -/
def WithdrawCause.fields : WithdrawCause → List Field
  | .stop k => [.choice 0, .small k]
  | .shutdown k => [.choice 1, .small k]
  | .silent => [.choice 2]
  | .init => [.choice 3]

/-- The event of an N-PROPOSAL with what it carries beside the proposal (R145). -/
def ProposalEvent.fields : ProposalEvent → List Field
  | .pending lapseAt => [.choice 0, .stamp lapseAt]
  | .adopted q => [.choice 1, sideField q]
  | .rejected q reason => [.choice 2, sideField q, .choice reason.ctorIdx]
  | .lapsed => [.choice 3]
  | .withdrawn w => .choice 4 :: w.fields

/-- The items a notice carries. The events of N-TANK are those of R32 and then those of R49. -/
def Notice.fields : Notice → List Field
  | .entry ev v stamp => .choice ev.ctorIdx :: v.fields ++ [.stamp stamp]
  | .channel ev v last stamp =>
    .choice ev.ctorIdx :: v.fields ++ (if ev = .stop then lastStopFields last else []) ++ [.stamp stamp]
  | .header ev v stamp => .choice ev.ctorIdx :: v.fields ++ [.stamp stamp]
  | .tank ev t defined strap above decl stamp =>
    [.choice ev.ctorIdx, .small t, .flags [defined]] ++ strap.fields ++ [.flags [above]]
      ++ (if ev = .defined then declFields decl else []) ++ [.stamp stamp]
  | .tankLevel t st l count suspect reading stamp =>
    [.choice 4, .small t, .choice st.ctorIdx, optField .word l, .untyped count, suspectField suspect]
      ++ (match reading with
        | some (level, q) => [.word level, .choice q.ctorIdx]
        | none => [])
      ++ [.stamp stamp]
  | .tankAlarm t shipHi shipHihi ownHi ownHihi stamp =>
    [.choice 5, .small t, .flags [shipHi, shipHihi, ownHi, ownHihi], .stamp stamp]
  | .proposal ev id side body arrival stamp =>
    ev.fields ++ [.small id, sideField side] ++ body.fields ++ [.stamp arrival, .stamp stamp]
  | .trip ev v taken stamp =>
    .choice ev.ctorIdx :: v.fields
      ++ (match taken with
        | some (e, fate) => e.fields ++ [.choice fate.ctorIdx]
        | none => [])
      ++ [.stamp stamp]
  | .caution k active stamp set =>
    k.fields ++ [.flags [active], .stamp stamp] ++ set.flatMap CautionEntry.fields
  | .store ok accepted completed valid => [.choice (!ok).toNat, .stamp accepted, .stamp completed, validField valid]

/-! ### The frame on the line (R171, R174) -/

/-- The KIND byte of a frame the part sends. -/
def OutFrame.kindCode : OutFrame → Byte
  | .reply _ => replyKindCode
  | .notice n => n.kindCode

/-- The body of a frame the part sends. -/
def OutFrame.body : OutFrame → List Byte
  | .reply r => r.body
  | .notice n => recordBytes n.kindCode maxBody n.fields

/-- A frame the part sends, as it stands on the line: SYNC, LEN, KIND, the body and the two CRC bytes (R174). -/
def OutFrame.bytes (f : OutFrame) : List Byte := encodeFrame f.kindCode f.body

/-- The line output of a port: the bytes of the frame in transmission, none while the transmitter is free (R171). -/
def Port.lineBytes (x : Port) : List Byte :=
  match x.sending with
  | some f => f.bytes
  | none => []

end Sys2Proof.Machine
end

