-- ==== Sys2Proof/Safety.lean ====
section
/-! DEFINITION. What holds of the part at every moment by the rules' own words: the invariants the statements claim of every step. -/

namespace Sys2Proof.Machine

/-- The valve command output is OPEN in OPENING, FLOWING and HELD, and CLOSE in every other state (R75). -/
def State.CommandsFollow (s : State) : Prop := ∀ c, (s.chan c).command = (s.chan c).state.command

/-- While the trip state is not NORMAL, every valve is commanded closed and no channel holds run authorisation (R147). -/
def State.TrippedShut (s : State) : Prop :=
  s.trip.state ≠ .normal → ∀ c, (s.chan c).state.command = .toClose ∧ (s.chan c).authorised = false

/-- At most 8 proposals, at most 4 of a side, no two with the same body (R128); each under an id of its own (R132). -/
def ConsentQueue.Bounded (q : ConsentQueue) : Prop :=
  q.proposals.length ≤ 8 ∧ (∀ x, (q.ofSide x).length ≤ 4) ∧ (q.proposals.map Proposal.body).Nodup
    ∧ (q.proposals.map Proposal.id).Nodup ∧ (∀ p ∈ q.proposals, 1 ≤ p.id ∧ p.id ≤ 255) ∧ 1 ≤ q.nextId ∧ q.nextId ≤ 255

/-- A free transmitter has nothing waiting: it would have taken it (R171). -/
def Port.Settled (p : Port) : Prop := p.sending = none → p.replies = [] ∧ p.notices = []

/-- Neither port has a frame waiting with its transmitter free (R171). -/
def State.PortsSettled (s : State) : Prop := s.portB.Settled ∧ s.portS.Settled

/-- The lists of a port keep their room; a SILENT port keeps none and runs no silence timer, a LIVE one runs it; a free transmitter leaves
none waiting (R165, R166, R171, R172). -/
def Port.Bounded (p : Port) : Prop :=
  p.replies.length ≤ 4 ∧ p.notices.length ≤ 16
    ∧ (p.link = .silent → p.replies = [] ∧ p.notices = [] ∧ p.lost = false ∧ p.silenceTimer = none)
    ∧ (p.link = .live → p.silenceTimer.isSome = true) ∧ p.Settled

/-- The trip record: at most 7 later causes; with the trip state NORMAL it is empty, and otherwise its first-out is present (R153, R154,
R156). -/
def Trip.Bounded (t : Trip) : Prop :=
  t.later.length ≤ 7
    ∧ (t.state = .normal → t.firstOut = none ∧ t.later = [] ∧ t.more = false ∧ ∀ c : Chan, t.unproven.get c = false)
    ∧ (t.state ≠ .normal → t.firstOut.isSome = true)

/-- The header is TRIPPED just while the trip state is not NORMAL (R106, R156, R180). -/
def State.HeaderTrips (s : State) : Prop := s.header.state = .tripped ↔ s.trip.state ≠ .normal

/-- The caution set shows CONFIG_DEFAULTS just while the store holds it active (R159, R178). -/
def State.DefaultsShown (s : State) : Prop :=
  s.store.configDefaults = true ↔ ∃ e ∈ s.trip.cautions, e.caution = .configDefaults

/-- The header's timers run in their own state only, and the return state stands in WAITING only (R97, R102, R105). -/
def Header.TimersOk (h : Header) : Prop :=
  (h.primeTimer.isSome = true ↔ h.state = .priming) ∧ (h.waitTimer.isSome = true ↔ h.state = .waiting)
    ∧ (h.returnState.isSome = true ↔ h.state = .waiting)

/-- A channel flows just while it holds a grant, and then with an empty hold set; a HELD one has a reason (R76, R110, R111). -/
def Channel.FlowsByGrant (k : Channel) : Prop :=
  (0 < k.grant ↔ k.state = .flowing) ∧ (k.state = .flowing → k.holds = HoldSet.empty)
    ∧ (k.state = .held → k.holds ≠ HoldSet.empty)

/-- The grants: their sum within the capacity, each 0 outside SERVING, each above 0 on a FLOWING channel only (R110). -/
def State.GrantsOk (s : State) : Prop :=
  s.grantSum ≤ s.config.header.capacity ∧ (s.header.state ≠ .serving → ∀ c, (s.chan c).grant = 0)
    ∧ ∀ c, (s.chan c).FlowsByGrant

/-- The pulse total keeps its limit, and saturated is set just when it stands there (R115, R117). -/
def Meter.Ok (m : Meter) : Prop := m.total ≤ pulseLimit ∧ (m.saturated = true ↔ m.total = pulseLimit)

/-- Every meter keeps its limit (R117). -/
def State.MetersOk (s : State) : Prop := ∀ c, (s.chan c).meter.Ok

/-- Slots are assigned in order: below the next id, and none at it or past it (R1). -/
def State.SlotsOk (s : State) : Prop :=
  s.plan.nextId ≤ 16 ∧ ∀ i : EntryId, (s.entry i).isSome = true ↔ i.val < s.plan.nextId

/-- A non-terminal entry is AWAIT or ACTIVE just when it is its channel's current entry (R3). -/
def State.CurrentOk (s : State) : Prop :=
  ∀ i e, s.entry i = some e → e.state.terminal = false → (e.state ≠ .queued ↔ s.currentId e.chan = some i)

/-- Non-terminal entries that name one tank belong to one channel (R5). -/
def State.TanksShared (s : State) : Prop :=
  ∀ i j e f, s.entry i = some e → s.entry j = some f → e.state.terminal = false → f.state.terminal = false →
    e.tank = f.tank → e.chan = f.chan

/-- An entry activated and not terminal is its channel's current one, and its delivered volume is worked from the pulse total (R4). -/
def State.DeliveredOk (s : State) : Prop :=
  ∀ i e b, s.entry i = some e → e.baseline = some b → e.state.terminal = false →
    e.state ≠ .queued ∧ b.total ≤ (s.chan e.chan).meter.total
      ∧ e.delivered = pulseVolume ((s.chan e.chan).meter.total - b.total) b.kFactor

/-- An entry never activated has delivered nothing (R4). -/
def State.FreshOk (s : State) : Prop :=
  ∀ i e, s.entry i = some e → e.baseline = none → e.delivered = 0

/-- The plan's own invariants together (R1, R3, R4, R5). -/
def State.PlanOk (s : State) : Prop := s.SlotsOk ∧ s.CurrentOk ∧ s.TanksShared ∧ s.DeliveredOk ∧ s.FreshOk

/-- A tank's window and its marks: at most 8 readings, none while SUSPECT, the stale timer running just while there are readings that are
not stale (R34, R38, R41, R42). -/
def Tank.WindowOk (k : Tank) : Prop :=
  k.window.length ≤ 8 ∧ (∀ r ∈ k.window, r.level ≤ 30000) ∧ (k.suspect.isSome = true → k.window = [] ∧ k.stale = false)
    ∧ (k.staleTimer.isSome = true ↔ k.window ≠ [] ∧ k.stale = false) ∧ (k.stale = true → k.window ≠ [])

/-- A channel's state and its current entry agree (R74): with the valve open or opening the entry is ACTIVE with no end pending, and
otherwise no ACTIVE entry is without one. -/
def State.StatesAgree (s : State) : Prop :=
  ∀ c,
    ((s.chan c).watched = true → ∃ i e, s.activeEntry c = some (i, e) ∧ e.endPending = none)
      ∧ ((s.chan c).watched = false → ∀ i e, s.activeEntry c = some (i, e) → e.endPending.isSome = true)

/-! ### What a command's consequences leave (frames) -/

/-- The field inputs of a channel as last taken (R75, R91 to R93). -/
structure Inputs where
  openLimit : Bool
  closedLimit : Bool
  pressure : Nat
  tension : Nat
  sourceLow : Bool
  deriving DecidableEq, Repr

def Channel.inputs (k : Channel) : Inputs := ⟨k.openLimit, k.closedLimit, k.pressure, k.tension, k.sourceLow⟩

/-- The counted items of a meter (R115): its pulses, its window and its rate. -/
structure Counts where
  total : Nat
  saturated : Bool
  windowCount : Nat
  nextRefresh : Nat
  rate : Nat
  deriving DecidableEq, Repr

def Meter.counts (m : Meter) : Counts := ⟨m.total, m.saturated, m.windowCount, m.nextRefresh, m.rate⟩

/-- What the ship station has given of a tank: the declaration and the strapping (R18). -/
structure Declared where
  decl : Option TankDecl
  strap : StrapState
  points : Vector (Option Point) 16
  deriving DecidableEq, Repr

def Tank.declared (k : Tank) : Declared := ⟨k.decl, k.strap, k.points⟩

/-- What a port holds but its notices, which a consequence may add to (R165, R172), and its ended flags (R173). -/
structure Line where
  link : LinkState
  silenceTimer : Option Nat
  replies : List Reply
  rx : Option (List Byte)
  sending : Option OutFrame
  deriving DecidableEq, Repr

def Port.line (p : Port) : Line := ⟨p.link, p.silenceTimer, p.replies, p.rx, p.sending⟩

/-- What the part is GIVEN and only counts or keeps: its inputs, its counts, what the stations declared, the configuration, the store
but for CONFIG_DEFAULTS, the links and the time. No consequence of a command (a regrant, an evaluation, a close, a start, a
stop, a shutdown) changes any of it. -/
structure Given where
  powered : Bool
  now : Nat
  cursor : Cursor
  config : SiteConfig
  copy : StoredCopy
  valid : Bool
  inFlight : Option StoreWrite
  freeCount : Nat
  pending : List Instr
  dp : Bool
  pumpRunning : Bool
  loopBOpen : Bool
  loopSOpen : Bool
  lineB : Line
  lineS : Line
  inputs : Chan → Inputs
  counts : Chan → Counts
  declared : TankNo → Declared

def State.given (s : State) : Given :=
  { powered := s.powered, now := s.now, cursor := s.cursor, config := s.config, copy := s.store.copy, valid := s.store.valid,
    inFlight := s.store.inFlight, freeCount := s.freeCount, pending := s.pending, dp := s.header.dp,
    pumpRunning := s.header.pumpRunning, loopBOpen := s.trip.loopBOpen, loopSOpen := s.trip.loopSOpen,
    lineB := s.portB.line, lineS := s.portS.line, inputs := fun c => (s.chan c).inputs,
    counts := fun c => (s.chan c).meter.counts, declared := fun t => (s.tank t).declared }

/-! ### Words of the statements -/

/-- An invariant every step keeps. -/
def KeptByEveryStep (inv : State → Prop) : Prop := ∀ s t, inv s → step s = .next t → inv t

/-- How a command finds the part: with its supply, and with no evaluation left over (log 17). -/
def State.Ready (s : State) : Prop := s.powered = true ∧ s.evals = []

/-- A frame on port `p` finds the part ready and its port's reply list with room (R167 step 1). -/
def State.Hears (s : State) (p : Side) : Prop := s.Ready ∧ (s.port p).replies.length < 4

/-- The row of a request KIND on a port (R168). -/
def frameCommand (p : Side) (k : RequestKind) (body : List Byte) : Instr :=
  match k with
  | .status => .status p body | .readEntry => .readEntry p body | .readTank => .readTank p body
  | .readChannel => .readChannel p body | .readTrip => .readTrip p body | .propose => .propose p body
  | .endorse => .endorse p body | .stop => .stop p body | .pause => .pause p body | .continue_ => .continue_ p body
  | .silence => .silence p body | .tankdef => .tankdef p body | .strapSeek => .strapSeek p body
  | .strapPut => .strapPut p body | .strapSeal => .strapSeal p body | .level => .level p body
  | .lineup => .lineup p body | .entryEnd => .entryEnd p body | .chconfig => .chconfig p body
  | .headerconfig => .headerconfig p body | .priority => .priority p body | .arm => .arm p body | .mask => .mask p body
  | .hose => .hose p body | .store => .store p body

/-- The line of port `p` after a valid frame: LIVE, the silence timer restarted, no frame in progress, the given replies (R164, R165). -/
def State.lineAfter (s : State) (p : Side) (replies : List Reply) : Line :=
  { link := .live, silenceTimer := some (s.expiry s.config.device.linkSilence), replies := replies, rx := none,
    sending := (s.port p).sending }

/-- A request on port `p` got one reply, and the other port's line is as it was (R165, R170). -/
def Answered (p : Side) (tag kind : Byte) (result : Result) (s t : State) : Prop :=
  (t.port p).line = s.lineAfter p ((s.port p).replies ++ [{ tag := tag, kind := kind, result := result }])
    ∧ (t.port p.other).line = (s.port p.other).line

/-- No ended flag changed (R173). -/
def EndedKept (s t : State) : Prop := ∀ q, (t.port q).ended = (s.port q).ended

/-- Both ports were offered the notices `ns` in that order and no others (R172): said where port `p`, on which the frame came, was LIVE,
for its becoming LIVE raises N-TRIP STATE first (R165). -/
def Tells (p : Side) (ns : List Notice) (s t : State) : Prop :=
  (s.port p).link = .live → ∀ q,
    (t.port q).notices = (ns.foldl (fun x n => x.offer n) (s.port q)).notices
      ∧ (t.port q).lost = (ns.foldl (fun x n => x.offer n) (s.port q)).lost

/-- The command `i`, a frame of kind `k` on port `p`, is answered with `result`; the part becomes `u` but for its ports, whose ended flags
stay and which are told `ns`, before free transmitters take their frames (R171). -/
def Does (i : Instr) (p : Side) (k : RequestKind) (body : List Byte) (result : Result) (ns : List Notice) (s u : State) : Prop :=
  ∃ t : State, exec i s = .next t.startSending ∧ t = { u with portB := t.portB, portS := t.portS }
    ∧ Answered p (bodyTag body) k.code result s t ∧ EndedKept s t ∧ Tells p ns s t

/-- The command `i`, a frame of kind `k` on port `p`, is refused with a reason, and nothing but the link is touched (R170). -/
def Refuses (i : Instr) (p : Side) (k : RequestKind) (body : List Byte) (r : Reason) (s : State) : Prop :=
  Does i p k body (.refused r) [] s s

/-- The horn class and the mute of `t` judged afresh, the rest of the trip items those of `u`. -/
def Trip.HornOnly (t u : Trip) : Prop := t = { u with horn := t.horn, mute := t.mute }

/-- What a shutdown with this cause and origin makes of the part (R106, R90, R140, R148, R152, R153, R160): the record, the header, every
channel, the STARTs and the horn. Taken from NORMAL, the unproven marks of the channels faulted with their valves not proven closed
are set; and the part is TRIPPED just where every channel is settled. -/
def ShutdownEffect (cause : ShutdownCause) (origin : Origin) (s t : State) : Prop :=
  t.trip.state ≠ .normal
    ∧ t.trip.firstOut = s.trip.firstOut.or (some { cause := cause, origin := origin, stamp := s.now })
    ∧ ((∃ e, (t.trip.firstOut = some e ∨ e ∈ t.trip.later) ∧ e.cause = cause) ∨ t.trip.more = true)
    ∧ (t.header.state = .tripped ∧ t.header.returnState = none ∧ t.header.primeTimer = none ∧ t.header.waitTimer = none)
    ∧ (∀ c, (t.chan c).watched = false ∧ (t.chan c).grant = 0 ∧ (t.chan c).authorised = false ∧ t.activeEntry c = none)
    ∧ t.queue.proposals = s.queue.proposals.filter (fun q => !q.isStart none)
    ∧ t.trip.horn = .trip
    ∧ (s.trip.state = .tripped → t.trip.state = .tripped)
    ∧ (s.trip.state ≠ .tripped → (t.trip.state = .tripped ↔ t.allSettled = true))
    ∧ (s.trip.state = .normal → ∀ c : Chan,
        t.trip.unproven.get c = ((s.chan c).state == .fault && !(s.chan c).provenClosed))

/-- A shutdown has been taken, and no channel's last stop is touched (R151, R152). -/
def ShutdownTaken (cause : ShutdownCause) (origin : Origin) (s t : State) : Prop :=
  ShutdownEffect cause origin s t ∧ ∀ c, (t.chan c).lastStop = (s.chan c).lastStop

/-- A channel stop with this cause, origin and tank has been taken for channel `c` (R89): the last stop recorded, the valve not open or
opening, the authorisation cleared, the channel's STARTs withdrawn, no entry of it ACTIVE, and the horn at ALARM where the part
is NORMAL (R160). No other channel's last stop is touched. -/
def StopTaken (cause : StopCause) (origin : Origin) (tank : Option TankNo) (c : Chan) (s t : State) : Prop :=
  (t.chan c).lastStop = some { cause := cause, origin := origin, tank := tank, stamp := s.now, acknowledged := false }
    ∧ (t.chan c).watched = false ∧ (t.chan c).authorised = false ∧ t.activeEntry c = none
    ∧ t.queue.proposals = s.queue.proposals.filter (fun q => !q.isStart (some c))
    ∧ (∀ d, d ≠ c → (t.chan d).lastStop = (s.chan d).lastStop)
    ∧ t.trip.state = s.trip.state ∧ (s.trip.state = .normal → t.trip.horn = .alarm)

/-- Channel `c` closes for an end, which is no channel stop (R8, R81, R82): its valve commanded closed, its grant 0, the arbiter's reasons
and SOURCE_LOW gone, the stroke timed in full or, reversed, by the time spent opening; the authorisation, the last stop and the hose
stay. -/
def ClosesForAnEnd (c : Chan) (s t : State) : Prop :=
  (t.chan c).state = .closing ∧ (t.chan c).command = .toClose ∧ (t.chan c).grant = 0 ∧ (t.chan c).holds.sourceLow = false
    ∧ (t.chan c).authorised = (s.chan c).authorised ∧ (t.chan c).lastStop = (s.chan c).lastStop
    ∧ (t.chan c).hose = (s.chan c).hose
    ∧ ((s.chan c).state ≠ .opening →
        (t.chan c).strokeTimer = some (s.expiry ((3 * (s.chanConfig c).strokeTime + 1) / 2)) ∧ (t.chan c).holds.noGrant = false
          ∧ (t.chan c).holds.headerWait = false ∧ (t.chan c).holds.noPump = false)
    ∧ ∀ x, (s.chan c).state = .opening → (s.chan c).openingStarted = some x →
        (t.chan c).strokeTimer = some (s.expiry (max 5 ((3 * (s.now - x) + 1) / 2)))

/-- The entry `e` with the end `r` pending (R10): its slug record is back to NONE (R69). -/
def Entry.withEnd (e : Entry) (r : EndReason) : Entry :=
  { e with endPending := some r, slug := e.slug.map fun _ => { phase := .idle, size := none, base := none } }

/-- The entry `e` as the end `r` leaves it, applied at `now` (R10, R14). -/
def Entry.endedBy (e : Entry) (r : EndReason) (now : Nat) : Entry :=
  { e.withEnd r with
    state := match r with
      | .allotment => .done
      | .levelFinal | .levelHi => .short
      | .shipEnd | .cancel => if 0 < e.delivered then .short else .cancelled
    endReason := some r, endPending := none, ended := some now }

/-- What the end cause `r` makes of `e`, the current entry `n` with no end pending, the rest of the part being `s` (R8, R10, R11, R16). AWAIT
with the valve proven closed and not stroking, the end is applied at once: the next entry becomes AWAIT, both ended flags are set, the
authorisation goes with the last entry, and the lists rotate but at CANCELLED (said where the header is not SERVING). AWAIT with the
valve elsewhere, the end is pending and nothing more. ACTIVE with the valve open or opening, it is pending and the channel closes. -/
def EndsBy (r : EndReason) (n : EntryId) (e : Entry) (s t : State) : Prop :=
  (e.state = .await → (s.chan e.chan).provenClosed = true → (s.chan e.chan).stroking = false →
      t.entry n = some (e.endedBy r s.now) ∧ (s.header.state ≠ .serving →
        (∀ j f, j ≠ n → s.entry j = some f →
            t.entry j = some (if t.currentId e.chan = some j then { f with state := .await, lineup := .notReady } else f))
          ∧ (∀ q, (t.port q).ended = (s.port q).ended.set e.chan true)
          ∧ (t.currentId e.chan = none → (t.chan e.chan).authorised = false)
          ∧ (t.currentId e.chan ≠ none → (t.chan e.chan).authorised = (s.chan e.chan).authorised)
          ∧ t.config = s.config ∧ t.tanks = s.tanks ∧ t.store = s.store
          ∧ t.header = (if (e.endedBy r s.now).state = .cancelled then s else rotate e.chan s).header))
    ∧ (e.state = .await → (s.chan e.chan).provenClosed = false ∨ (s.chan e.chan).stroking = true →
      t.entry n = some (e.withEnd r) ∧ (∀ j, j ≠ n → t.entry j = s.entry j)
        ∧ (∀ d, t.chan d = { s.chan d with holds := (t.chan d).holds }) ∧ (e.settling = false → t.channels = s.channels)
        ∧ t.config = s.config ∧ t.tanks = s.tanks ∧ t.store = s.store ∧ t.header = s.header ∧ t.trip = s.trip)
    ∧ (e.state = .active → (s.chan e.chan).watched = true →
      t.entry n = some (e.withEnd r) ∧ ClosesForAnEnd e.chan s t
        ∧ (e.settling = true → (t.chan e.chan).holds.settling = false) ∧ t.config = s.config ∧ t.store = s.store)

/-- The record of tank `u` as a reading leaves it, its quality judged (R36 to R42): step 2 of R43. -/
def State.tankAfter (s : State) (u : TankNo) (level : Nat) (q : Quality) : Tank := (judgeReading u level q s).tank u

/-- The HIHI assertion of tank `u`, declared `d`, does not rise at a reading (R44, R46): it stood already, or neither the ship's flag nor
the effective level brings it. -/
def State.HihiStays (s : State) (u : TankNo) (d : TankDecl) (level : Nat) (q : Quality) (flag : Bool) : Prop :=
  (s.tank u).hihi = true
    ∨ (flag = false ∧ (s.tank u).ownHihi = false ∧ ∀ x, (s.tankAfter u level q).lEff = some x → x < d.hHihi)

/-- A LEVEL frame of the ship for tank `u`, declared `d`, that the part takes, and at which the HIHI assertion does not rise (R35, R43). -/
def State.TakesLevel (s : State) (body : List Byte) (u : TankNo) (d : TankDecl) (level : Nat) (q : Quality) (hi hihi : Bool) : Prop :=
  s.Hears .ship ∧ decodeRequest .level body = some (.level u level q hi hihi) ∧ (s.tank u).decl = some d
    ∧ s.HihiStays u d level q hihi

/-- Such a reading leaves the tank the effective level `x`, below its high level, and the flag HI clear: no HI assertion stands (R44). -/
def State.LeavesLevel (s : State) (u : TankNo) (d : TankDecl) (level : Nat) (q : Quality) (hi : Bool) (x : Nat) : Prop :=
  (s.tankAfter u level q).lEff = some x ∧ hi = false ∧ x < d.hHi

/-- Channel `c` serves tank `u` for its ACTIVE entry `i`, which is `e`, its valve open or opening and no end pending (R3, R74). -/
def State.Serves (s : State) (c : Chan) (u : TankNo) (i : EntryId) (e : Entry) : Prop :=
  s.activeChan u = some c ∧ s.servingChan u = some c ∧ s.activeEntry c = some (i, e) ∧ e.tank = u ∧ (s.chan c).watched = true
    ∧ e.endPending = none

/-- The reply to a LEVEL: the tank's level state, effective level and suspect origin as the reading left them (R35, R36, R170). -/
def LevelAnswered (body : List Byte) (u : TankNo) (s t : State) : Prop :=
  Answered .ship (bodyTag body) RequestKind.level.code
    (.done (.level (t.tank u).levelState (t.tank u).lEff (t.tank u).suspect)) s t

/-- Proposal `q` is pending from the other side, and the ordering rule lets it be adopted (R134, R136). -/
def State.Adoptable (s : State) (p : Side) (q : Proposal) : Prop :=
  s.queue.find q.id = some q ∧ q.side = p.other ∧ 1 ≤ q.id ∧ q.id ≤ 255 ∧ s.queue.mayAdopt q = true

/-- Command `i`, a frame of kind `k` on port `p`, consents to the pending proposal `q`: an ENDORSE naming its id with its body (R134), or a
PROPOSE of an equal body (R131 row 2, R135). -/
def Consents (i : Instr) (p : Side) (k : RequestKind) (body : List Byte) (q : Proposal) (s : State) : Prop :=
  s.Adoptable p q ∧ ∃ raw, proposalOf raw = some q.body ∧
    ((k = .endorse ∧ i = .endorse p body ∧ decodeRequest .endorse body = some (.endorse q.id raw))
      ∨ (k = .propose ∧ i = .propose p body ∧ decodeRequest .propose body = some (.propose raw)
          ∧ s.assigned q.body = true ∧ s.queue.proposals.find? (fun x => x.body == q.body) = some q))

end Sys2Proof.Machine
end

