-- ==== Sys2Proof/WellFormed.lean ====
section
/-! DEFINITION. Which commands the part can be given: bodies a frame can carry (R164, R174), a STOP frame under the row of its
own target (R88, R151), a KIND that is no request's (R167), a proposal id a proposal can have (R128), and field readings their
inputs can show (11.6). -/

namespace Sys2Proof

/-- A body of LEN 0 to 120 (R164, R174). -/
def bodyOk (body : List Byte) : Bool := body.length ≤ maxBody

/-- A STOP frame of the row STOP does not name all channels: that one is the row STOP_ALL (R88, R151). -/
def stopOk (body : List Byte) : Bool := decodeRequest .stop body ≠ some (.stop 255)

/-- The pressure input's span, 0 to 2,500 kPa (11.6). -/
def pressureOk (v : Nat) : Bool := v ≤ 2500

/-- The load pin's span, 0 to 5,000 of 0.1 kN (11.6). -/
def tensionOk (v : Nat) : Bool := v ≤ 5000

/-- Every channel's readings lie in their inputs' spans. -/
def FieldInputs.ok (f : FieldInputs) : Bool :=
  f.channels.toList.all fun k => pressureOk k.pressure && tensionOk k.tension

/-- Whether a command is one the part can be given. -/
def Instr.wellFormed : Instr → Bool
  | .powerOn f => f.ok
  | .stop _ b => bodyOk b && stopOk b
  | .status _ b | .readEntry _ b | .readTank _ b | .readChannel _ b | .readTrip _ b | .propose _ b | .endorse _ b
  | .pause _ b | .continue_ _ b | .silence _ b | .tankdef _ b | .strapSeek _ b | .strapPut _ b | .strapSeal _ b
  | .level _ b | .lineup _ b | .entryEnd _ b | .chconfig _ b | .headerconfig _ b | .priority _ b | .arm _ b | .mask _ b
  | .hose _ b | .store _ b => bodyOk b
  | .unassignedKindFrame _ k b => bodyOk b && (RequestKind.ofCode k).isNone
  | .lapseTimerExpiry id => decide (1 ≤ id ∧ id ≤ 255)
  | .pressureReachesMax _ v | .pressureFallsBelowMax _ v => pressureOk v
  | .tensionReachesStrainWarn _ v | .tensionFallsBelowStrainWarn _ v | .tensionReachesStrainTrip _ v
  | .tensionFallsBelowStrainTrip _ v => tensionOk v
  | .discardedFrame .. | .frameGapTimeout .. | .silenceTimerExpiry .. | .frameTransmitted .. | .stopAll ..
  | .storeCompletion .. | .closedLimitReached .. | .closedLimitLost .. | .openLimitReached .. | .openLimitLost ..
  | .strokeTimerExpiry .. | .meterPulse .. | .rateWindowRefresh .. | .stallTimerExpiry .. | .staleTimerExpiry ..
  | .blindTimerExpiry .. | .pressureTimerExpiry .. | .strainDwellTimerExpiry .. | .sourceLowAsserts ..
  | .sourceLowClears .. | .sourceLowTimerExpiry .. | .strainerDpAsserts | .strainerDpClears | .waitTimerExpiry
  | .primeTimerExpiry | .pumpRunningLost | .pumpRunningReturns | .esdLoopOpens .. | .esdLoopCloses .. | .byteReceived ..
  | .powerLoss => true

end Sys2Proof
end

