-- ==== Sys2Proof/Certificates/Slice0/Obligations.lean ====
section
/-! DEFINITION. The statements of this model for the provers, family by family. -/

open Sys2Proof Sys2Proof.Machine

/-! ### The machine -/

/-- A step takes the command at the front of the queue, and runs it with the queue's rest behind it (log 1). -/
def Obligations.StepTakesTheFrontCommand : Prop :=
  ∀ (i : Instr) (rest : List Instr) (s : State), s.pending = i :: rest → step s = exec i { s with pending := rest }

/-- THE MODEL'S CHOICES (logs 1, 2 and 4): with no command waiting a step lets one second pass, on a part that has its supply; and a
timer's expiry, and a refresh, are taken only when the timer runs and its time has come: before that nothing happens but that a free
transmitter takes what waits (R171). Without supply no time passes, and nothing changes. -/
def Obligations.IdleStepsAndEarlyExpiries : Prop :=
  (∀ s : State, s.pending = [] →
    (s.powered = true → s.now + 1 < 4294967296 → step s = .next { s with now := s.now + 1 })
      ∧ (s.powered = false → step s = .next s))
    ∧ ∀ (i : Instr) (c : Chan) (u : TankNo) (p : Side) (s : State), s.Ready →
    ((i = .strokeTimerExpiry c ∧ ∀ x, (s.chan c).strokeTimer = some x → s.now < x)
      ∨ (i = .stallTimerExpiry c ∧ ∀ x, (s.chan c).meter.stallTimer = some x → s.now < x)
      ∨ (i = .rateWindowRefresh c ∧ s.now < (s.chan c).meter.nextRefresh)
      ∨ (i = .pressureTimerExpiry c ∧ ∀ x, (s.chan c).pressureTimer = some x → s.now < x)
      ∨ (i = .strainDwellTimerExpiry c ∧ ∀ x, (s.chan c).strainTimer = some x → s.now < x)
      ∨ (i = .sourceLowTimerExpiry c ∧ ∀ x, (s.chan c).sourceLowTimer = some x → s.now < x)
      ∨ (i = .staleTimerExpiry u ∧ ∀ x, (s.tank u).staleTimer = some x → s.now < x)
      ∨ (i = .blindTimerExpiry u ∧ ∀ x, (s.tank u).blindTimer = some x → s.now < x)
      ∨ (i = .waitTimerExpiry ∧ ∀ x, s.header.waitTimer = some x → s.now < x)
      ∨ (i = .primeTimerExpiry ∧ ∀ x, s.header.primeTimer = some x → s.now < x)
      ∨ (i = .silenceTimerExpiry p ∧ ∀ x, (s.port p).silenceTimer = some x → s.now < x)) →
    exec i s = .next s.startSending

/-- The state after reset is what power-on makes of the reset inputs and the reset store, whose values are THE MODEL'S CHOICE (logs 5
and 6); and the invariants of chapters 1, 3, 5, 6, 7, 8, 9 and 10 hold of it. -/
def Obligations.ResetIsAPowerOnAndMeetsTheInvariants : Prop :=
  exec (.powerOn resetInputs) State.reset = .next State.reset
    ∧ State.reset.CommandsFollow ∧ State.reset.TrippedShut ∧ State.reset.queue.Bounded
    ∧ State.reset.portB.Bounded ∧ State.reset.portS.Bounded ∧ State.reset.trip.Bounded ∧ State.reset.HeaderTrips
    ∧ State.reset.DefaultsShown ∧ State.reset.header.TimersOk ∧ State.reset.GrantsOk ∧ State.reset.MetersOk ∧ State.reset.PlanOk
    ∧ ∀ u, (State.reset.tank u).WindowOk

/-- Power-on (R176, R179), whatever the part held before: every item at its power-on value; the configuration the stored copy's where
its check agrees, else the defaults with CONFIG_DEFAULTS; each open loop a later cause (loop B's first, log 38); a stroke timer
where a closed limit is absent; TRIPPED at once where every valve is proven closed, else TRIPPING. A part that has its supply has
first lost it (log 9): with no write in flight that changes nothing of this, and with one the power-on is that of the part after
the loss. Said where no channel shows both limits (log 31). -/
def Obligations.PowerOnBringsUpTheStartState : Prop :=
  (∀ (f : FieldInputs) (s : State), (s.powered = true → s.store.inFlight = none) →
    (∀ c, (f.channels.get c).openLimit = true → (f.channels.get c).closedLimit = false) →
    ∃ t : State, exec (.powerOn f) s = .next t
      ∧ t.powered = true ∧ t.now = 0 ∧ t.plan = Plan.blank ∧ (∀ u, t.tank u = Tank.blank)
      ∧ (∀ c, t.chan c = { Channel.blank (f.channels.get c) with
          strokeTimer :=
            if (f.channels.get c).closedLimit then none
            else some (t.expiry (strokeTimeout (t.chanConfig c).strokeTime)) })
      ∧ t.header = { state := .tripped, returnState := none, primeTimer := none, waitTimer := none, dp := f.dp,
                     pumpRunning := f.pumpRunning, high := freshHigh t.config, low := freshLow t.config }
      ∧ t.queue = { proposals := [], nextId := 1 } ∧ t.portB = Port.blank ∧ t.portS = Port.blank
      ∧ t.cursor = { tank := 0, index := 0 }
      ∧ (s.store.copy.agrees = true → t.config = s.store.copy.items ∧ t.store.valid = true
          ∧ t.store.configDefaults = false ∧ t.trip.cautions = [])
      ∧ (s.store.copy.agrees = false → t.config = SiteConfig.default ∧ t.store.valid = false
          ∧ t.store.configDefaults = true ∧ t.trip.cautions = [{ caution := .configDefaults, stamp := 0 }])
      ∧ t.store.copy = s.store.copy ∧ t.store.inFlight = none
      ∧ t.trip.firstOut = some { cause := .restart, origin := .watch, stamp := 0 }
      ∧ t.trip.later = (if f.loopBOpen then [{ cause := .esdB, origin := .barge, stamp := 0 }] else [])
          ++ (if f.loopSOpen then [{ cause := .esdS, origin := .ship, stamp := 0 }] else [])
      ∧ t.trip.more = false ∧ (∀ c : Chan, t.trip.unproven.get c = false)
      ∧ t.trip.loopBOpen = f.loopBOpen ∧ t.trip.loopSOpen = f.loopSOpen ∧ t.trip.horn = .trip ∧ t.trip.mute = none
      ∧ t.trip.state = (if ∀ c, (f.channels.get c).closedLimit = true then .tripped else .tripping))
    ∧ ∀ (f : FieldInputs) (s : State), s.powered = true →
      ∃ v t, exec .powerLoss s = .next v ∧ v.powered = false ∧ exec (.powerOn f) v = .next t ∧ exec (.powerOn f) s = .next t

/-- A loss of supply takes the supply and a write in flight, and no other item; the copy a cut-off write leaves is the earlier one,
one that fails its check, or the snapshot (R176, R178; log 7). THE MODEL'S CHOICE (log 8): a part without supply takes no
command but POWER_ON. -/
def Obligations.PowerLossTakesTheSupplyAndTheWrite : Prop :=
  (∀ s : State, s.Ready → ∃ t : State, exec .powerLoss s = .next t
      ∧ t = { s with powered := false, store := t.store, freeCount := t.freeCount }
      ∧ t.store = { s.store with copy := t.store.copy, inFlight := none }
      ∧ (s.store.inFlight = none → t.store.copy = s.store.copy ∧ t.freeCount = s.freeCount)
      ∧ ∀ w, s.store.inFlight = some w →
          t.store.copy = s.store.copy ∨ t.store.copy.agrees = false
            ∨ (t.store.copy.items = w.snapshot ∧ t.store.copy.agrees = true))
    ∧ ∀ (i : Instr) (s : State), s.powered = false → (∀ f, i ≠ .powerOn f) → exec i s = .next s

/-- STORE: with no write in flight the snapshot of the running configuration is taken and the reply is DONE; with one it is refused
BUSY and the write goes on unchanged (R177). The completion of a write (R178): verified, the copy is the snapshot and VALID, and
CONFIG_DEFAULTS is inactive; not verified, the copy fails its check and is INVALID, CONFIG_DEFAULTS as it was. In both cases no
write is in flight and N-STORE is raised. Where CONFIG_DEFAULTS falls, its own notice is raised first (log 39). THE MODEL'S OWN (log 3):
with no write in flight there is no completion to take. -/
def Obligations.StoreTakesASnapshotAndItsCompletionSettlesIt : Prop :=
  (∀ (body : List Byte) (s : State), s.Hears .barge → decodeRequest .store body = some .store →
    (s.store.inFlight = none →
      Does (.store .barge body) .barge .store body (.done .nothing) [] s
        { s with store := { s.store with inFlight := some { snapshot := s.config, accepted := s.now } } })
      ∧ (s.store.inFlight ≠ none → Refuses (.store .barge body) .barge .store body .busy s))
    ∧ ∀ s : State, s.Ready →
    (∀ v, s.store.inFlight = none → exec (.storeCompletion v) s = .next s.startSending)
      ∧ ∀ w, s.store.inFlight = some w →
        (∃ t : State, exec (.storeCompletion true) s = .next t.startSending
          ∧ t = { s with store := t.store, trip := t.trip, portB := t.portB, portS := t.portS }
          ∧ t.store.copy.items = w.snapshot ∧ t.store.copy.agrees = true ∧ t.store.valid = true
          ∧ t.store.inFlight = none ∧ t.store.configDefaults = false
          ∧ t.trip.HornOnly { s.trip with cautions := t.trip.cautions }
          ∧ (s.store.configDefaults = true →
              t.trip.cautions = s.trip.cautions.filter fun e => !e.caution.same .configDefaults)
          ∧ (s.store.configDefaults = false → t = raise (.store true w.accepted s.now true) { s with store := t.store })
          ∧ (s.store.configDefaults = true → s.DefaultsShown → ∃ v, t = raise (.store true w.accepted s.now true) v
              ∧ ∀ q, (s.port q).notices <+: (v.port q).notices
                ∧ ((s.port q).link = .live → (s.port q).notices.length < 16 →
                    (v.port q).notices.length ≠ (s.port q).notices.length)))
        ∧ ∃ t : State, exec (.storeCompletion false) s = .next t.startSending
          ∧ t = raise (.store false w.accepted s.now false) { s with store := t.store, freeCount := s.freeCount + 1 }
          ∧ t.store.copy.agrees = false ∧ t.store.valid = false ∧ t.store.inFlight = none
          ∧ t.store.configDefaults = s.store.configDefaults

/-- The running configuration changes by CHCONFIG, HEADERCONFIG, PRIORITY and power-on only, all from the barge; the stored copy at the
completion of a STORE and where a loss of supply cuts one off only (R175). A byte may complete a frame of those kinds. -/
def Obligations.ConfigurationChangesOnlyByItsOwnRows : Prop :=
  ∀ (i : Instr) (s t : State), i.wellFormed = true → exec i s = .next t →
    (t.config = s.config
        ∨ ∃ b, i = .chconfig .barge b ∨ i = .headerconfig .barge b ∨ i = .priority .barge b
            ∨ (∃ x, i = .byteReceived .barge x) ∨ ∃ f, i = .powerOn f)
      ∧ (t.store.copy = s.store.copy
        ∨ (∃ v, i = .storeCompletion v) ∨ i = .powerLoss ∨ ∃ f, i = .powerOn f)

/-! ### The link ports -/

/-- A request whose numbers fit their fields, written as a body and read back, is the same request with its tag, within 120 bytes; and a
body that is read is the body written of what was read: no byte is dropped (R167, R174). The bytes of a frame, received one by one
on a port with no frame in progress and no transmitter free with frames waiting, end as that frame taken whole; and a frame whose
KIND is a request's is that request's row (R163, R164, R167; the completing byte's step takes the frame, log 24). -/
def Obligations.FramesAndBodiesAreReadWhole : Prop :=
  ((∀ (tag : Byte) (r : Request), r.fits = true →
      decodeRequest r.kind (encodeRequest tag r) = some r ∧ bodyTag (encodeRequest tag r) = tag
        ∧ (encodeRequest tag r).length ≤ 120)
    ∧ ∀ (k : RequestKind) (body : List Byte) (r : Request), decodeRequest k body = some r →
        r.kind = k ∧ r.fits = true ∧ encodeRequest (bodyTag body) r = body)
    ∧ (∀ (p : Side) (kind : Byte) (body : List Byte) (s : State), s.Ready → s.PortsSettled → (s.port p).rx = none →
      body.length ≤ 120 →
      core.run (encodeFrame kind body).length { s with pending := (encodeFrame kind body).map (.byteReceived p) }
        = exec (.unassignedKindFrame p kind body) { s with pending := [] })
    ∧ ∀ (p : Side) (k : RequestKind) (body : List Byte) (s : State),
        exec (.unassignedKindFrame p k.code body) s = exec (frameCommand p k body) s

/-- A frame with a wrong CRC, or one whose LEN is above 120, leaves every item of the part as it was (R164). Outside a frame SYNC begins
one and any other byte is discarded; a byte error and a gap abandon the frame in progress and touch nothing else (R163). A free
transmitter goes on taking what waits (R171); whole frames are said where none is free with frames waiting. -/
def Obligations.DiscardedBytesLeaveEveryItem : Prop :=
  (∀ (p : Side) (kind : Byte) (body crc : List Byte) (s : State), s.Ready → s.PortsSettled → (s.port p).rx = none →
      body.length ≤ 120 → crc.length = 2 → crc ≠ crcBytes (BitVec.ofNat 8 body.length :: kind :: body) →
      core.run (body.length + 5)
          { s with pending := (syncByte :: BitVec.ofNat 8 body.length :: kind :: (body ++ crc)).map (.byteReceived p) }
        = .next { s with pending := [] })
    ∧ (∀ (p : Side) (len : Byte) (s : State), s.Ready → s.PortsSettled → (s.port p).rx = none → 120 < len.toNat →
        core.run 2 { s with pending := [.byteReceived p syncByte, .byteReceived p len] } = .next { s with pending := [] })
    ∧ ∀ (p : Side) (s : State), s.Ready →
    (∀ b, (s.port p).rx = none →
      exec (.byteReceived p b) s
        = .next (if b = 0xC5 then s.setPort p { s.port p with rx := some [] } else s).startSending)
      ∧ (∀ cause, exec (.discardedFrame p cause) s = .next (s.setPort p { s.port p with rx := none }).startSending)
      ∧ exec (.frameGapTimeout p) s = .next (s.setPort p { s.port p with rx := none }).startSending

/-- What the port itself refuses (R167 steps 1 to 4): with four replies waiting the request is not taken, though its frame has made the
port LIVE and restarted its timer; a frame whose KIND is a reply's, a notice's or unassigned is refused RANGE with that KIND in
the reply; a kind not permitted to the side is refused ROLE before its body is looked at; a body of another length or with an
encoding of no value is refused RANGE. -/
def Obligations.RequestsAreRefusedAtThePort : Prop :=
  (∀ (p : Side) (k : RequestKind) (body : List Byte) (s : State), s.Ready →
    (4 ≤ (s.port p).replies.length → ∃ t : State, exec (frameCommand p k body) s = .next t.startSending
        ∧ t = { s with portB := t.portB, portS := t.portS } ∧ EndedKept s t ∧ Tells p [] s t
        ∧ (t.port p).line = s.lineAfter p (s.port p).replies ∧ (t.port p.other).line = (s.port p.other).line)
      ∧ ((s.port p).replies.length < 4 → permits k p = false →
          Refuses (frameCommand p k body) p k body .role s)
      ∧ ((s.port p).replies.length < 4 → permits k p = true → decodeRequest k body = none →
          Refuses (frameCommand p k body) p k body .range s))
    ∧ ∀ (p : Side) (kind : Byte) (body : List Byte) (s : State), s.Hears p → RequestKind.ofCode kind = none →
    ∃ t : State, exec (.unassignedKindFrame p kind body) s = .next t.startSending ∧ t = { s with portB := t.portB, portS := t.portS }
      ∧ Answered p (bodyTag body) kind (.refused .range) s t ∧ EndedKept s t ∧ Tells p [] s t

/-- The transmitter (R171): as a frame has been sent it is free, and whenever it is free it takes the oldest reply, else the oldest
notice, which leaves its list; once begun, a frame is sent whole. So a command of a powered part that ends with frames waiting on a
port leaves that port sending, with its bytes on the line (R174). That the taking stands at the end of a command is the model's
(log 23). -/
def Obligations.TransmitterTakesRepliesBeforeNotices : Prop :=
  (∀ (p : Side) (s : State), s.Ready → ∃ t : State, exec (.frameTransmitted p) s = .next t
      ∧ t = { s with portB := t.portB, portS := t.portS } ∧ t.port p.other = (s.port p.other).begin
      ∧ (∀ r rs, (s.port p).replies = r :: rs → t.port p = { s.port p with replies := rs, sending := some (.reply r) })
      ∧ (∀ n ns, (s.port p).replies = [] → (s.port p).notices = n :: ns →
          t.port p = { s.port p with notices := ns, sending := some (.notice n) })
      ∧ ((s.port p).replies = [] → (s.port p).notices = [] → t.port p = { s.port p with sending := none }))
    ∧ (∀ x : Port, (x.sending ≠ none → x.begin = x)
      ∧ (x.sending = none →
        (∀ r rs, x.replies = r :: rs → x.begin = { x with replies := rs, sending := some (.reply r) })
          ∧ (∀ n ns, x.replies = [] → x.notices = n :: ns → x.begin = { x with notices := ns, sending := some (.notice n) })
          ∧ (x.replies = [] → x.notices = [] → x.begin = x)))
    ∧ ∀ (i : Instr) (p : Side) (s t : State), exec i s = .next t → s.powered = true → i ≠ .powerLoss →
      (t.port p).replies ≠ [] ∨ (t.port p).notices ≠ [] →
      ∃ f, (t.port p).sending = some f ∧ (t.port p).lineBytes = encodeFrame f.kindCode f.body

/-- The silence of a LIVE port (R166, R141): the port SILENT with its lists, its notices lost and its ended flags cleared; on Port S the
cursor at tank 0, index 0; the side's proposals withdrawn, and the shutdown LINK_B or LINK_S taken. -/
def Obligations.SilenceTimerExpirySilencesThePort : Prop :=
  ∀ (p : Side) (s : State), s.Ready → s.trip.Bounded → (s.port p).link = .live →
    (∃ x, (s.port p).silenceTimer = some x ∧ x ≤ s.now) →
    ∃ t : State, exec (.silenceTimerExpiry p) s = .next t.startSending
      ∧ t.port p = { s.port p with link := .silent, silenceTimer := none, replies := [], notices := [], lost := false,
                                   ended := Vector.replicate 4 false }
      ∧ (t.port p.other).line = (s.port p.other).line
      ∧ t.cursor = (if p = .ship then { tank := 0, index := 0 } else s.cursor)
      ∧ (∀ q ∈ t.queue.proposals, q.side ≠ p)
      ∧ ShutdownTaken (match p with | .barge => .linkB | .ship => .linkS) .watch s
          { t with queue := { s.queue with proposals := s.queue.proposals.filter fun q => !q.isStart none } }
      ∧ t.queue.proposals = s.queue.proposals.filter (fun q => !q.isStart none && !(q.side == p))
      ∧ t.config = s.config ∧ t.store = s.store ∧ t.header.dp = s.header.dp
      ∧ (∀ c, (t.chan c).inputs = (s.chan c).inputs ∧ (t.chan c).meter.counts = (s.chan c).meter.counts)
      ∧ (∀ u, (t.tank u).declared = (s.tank u).declared)

/-- A notice is offered once to each port: a LIVE one with fewer than 16 waiting puts it at the tail, a LIVE one with 16 drops it and
sets notices lost, a SILENT one drops it; and neither port affects the other (R172). -/
def Obligations.NoticesAreOfferedToBothPorts : Prop :=
  ∀ (n : Notice) (p : Side) (s : State),
    ((s.port p).link = .silent → (raise n s).port p = s.port p)
      ∧ ((s.port p).link = .live → (s.port p).notices.length < 16 →
          (raise n s).port p = { s.port p with notices := (s.port p).notices ++ [n] })
      ∧ ((s.port p).link = .live → 16 ≤ (s.port p).notices.length →
          (raise n s).port p = { s.port p with lost := true })
      ∧ raise n s = { s with portB := (raise n s).portB, portS := (raise n s).portS }

/-- The reads answer with the whole record and change nothing; a read of no entry is refused RANGE; STATUS reports, and then clears its own
port's notices lost and ended flags (R32, R96, R162, R169). -/
def Obligations.ReadsAnswerWithTheRecord : Prop :=
  ∀ (p : Side) (body : List Byte) (s : State), s.Hears p →
    (∀ (i : EntryId) (e : Entry), decodeRequest .readEntry body = some (.readEntry i) → s.entry i = some e →
        Does (.readEntry p body) p .readEntry body (.done (.entry i e (e.allotment - e.delivered))) [] s s)
      ∧ (∀ i : EntryId, decodeRequest .readEntry body = some (.readEntry i) → s.entry i = none →
        Refuses (.readEntry p body) p .readEntry body .range s)
      ∧ (∀ u : TankNo, decodeRequest .readTank body = some (.readTank u) →
        Does (.readTank p body) p .readTank body
          (.done (.tank u (s.tank u) (s.tankInUse u) (s.tank u).levelState (s.tank u).lEff)) [] s s)
      ∧ (∀ c : Chan, decodeRequest .readChannel body = some (.readChannel c) →
        Does (.readChannel p body) p .readChannel body
          (.done (.channel c (s.chan c) (s.chanConfig c) (s.currentId c) (s.lockedIn c))) [] s s)
      ∧ (decodeRequest .readTrip body = some .readTrip →
        Does (.readTrip p body) p .readTrip body
          (.done (.trip s.trip (refreshLink p s).standing
            (chans.map fun c => (s.chan c).closedLimit && !(s.chan c).openLimit))) [] s s)
      ∧ (decodeRequest .status body = some .status →
        ∃ t : State, exec (.status p body) s = .next t.startSending ∧ t = { s with portB := t.portB, portS := t.portS }
          ∧ Answered p (bodyTag body) RequestKind.status.code (.done (.status ((refreshLink p s).report p))) s t
          ∧ (t.port p).lost = false ∧ (∀ c : Chan, (t.port p).ended.get c = false)
          ∧ (t.port p.other).ended = (s.port p.other).ended)

/-- Every step keeps the room of both ports: at most 4 replies and 16 notices, none on a SILENT port, whose timer is stopped, and a LIVE
port's timer running, and no frame waiting for a free transmitter (R165, R166, R171, R172). -/
def Obligations.PortsKeepTheirRoom : Prop := KeptByEveryStep fun s => s.portB.Bounded ∧ s.portS.Bounded

/-- A reply or a notice that waits, for a transmitter that is busy, keeps its place: nothing but the port's transmission, its silence and
power-on takes one away or changes the order (R166, R170, R171, R172). -/
def Obligations.WaitingFramesKeepTheirPlace : Prop :=
  ∀ (i : Instr) (q : Side) (s t : State), exec i s = .next t → i ≠ .frameTransmitted q → i ≠ .silenceTimerExpiry q →
    (∀ f, i ≠ .powerOn f) → (s.port q).Settled → (s.port q).replies <+: (t.port q).replies ∧ (s.port q).notices <+: (t.port q).notices

/-! ### The Consent Queue -/

/-- A PROPOSE within the ranges, equal to no pending one, with room in the queue and for its side, joins the tail under an id no
pending proposal carries, with its lapse time fixed; the reply is PENDING and N-PROPOSAL is raised (R129 to R133). -/
def Obligations.ProposeJoinsTheTailUnderAFreeId : Prop :=
  ∀ (p : Side) (body : List Byte) (raw : RawProposal) (b : ProposalBody) (s : State), s.Hears p → s.queue.Bounded →
    decodeRequest .propose body = some (.propose raw) → proposalOf raw = some b → s.assigned b = true →
    (∀ q ∈ s.queue.proposals, q.body ≠ b) → s.queue.proposals.length < 8 → (s.queue.ofSide p).length < 4 →
    ∃ q : Proposal,
      q = { id := q.id, side := p, body := b, bound := s.boundOf b, arrival := s.now,
            lapseAt := s.expiry s.config.device.consentWindow }
        ∧ 1 ≤ q.id ∧ q.id ≤ 255 ∧ (∀ x ∈ s.queue.proposals, x.id ≠ q.id)
        ∧ ((∀ x ∈ s.queue.proposals, x.id ≠ s.queue.nextId) → q.id = s.queue.nextId)
        ∧ Does (.propose p body) p .propose body (.pending q.id)
            [.proposal (.pending q.lapseAt) q.id p b s.now s.now] s
            { s with queue := { proposals := s.queue.proposals ++ [q],
                                nextId := if q.id = 255 then 1 else q.id + 1 } }

/-- The refusals of PROPOSE and ENDORSE, in their rules' order; each leaves the queue as it was (R130, R131, R134, R135). -/
def Obligations.ProposeAndEndorseRefusals : Prop :=
  ∀ (p : Side) (body : List Byte) (s : State), s.Hears p →
    (∀ raw, decodeRequest .propose body = some (.propose raw) →
        ((∀ b, proposalOf raw = some b → s.assigned b = false) → Refuses (.propose p body) p .propose body .range s)
          ∧ ∀ b, proposalOf raw = some b → s.assigned b = true →
            (∀ q, s.queue.proposals.find? (fun x => x.body == b) = some q →
                (q.side = p → Refuses (.propose p body) p .propose body .duplicate s)
                  ∧ (q.side ≠ p → s.queue.mayAdopt q = false → Refuses (.propose p body) p .propose body .order s))
              ∧ (s.queue.proposals.find? (fun x => x.body == b) = none →
                  (8 ≤ s.queue.proposals.length ∨ 4 ≤ (s.queue.ofSide p).length) →
                  Refuses (.propose p body) p .propose body .queueFull s))
      ∧ ∀ id raw, decodeRequest .endorse body = some (.endorse id raw) →
        ((proposalOf raw = none ∨ id = 0) → Refuses (.endorse p body) p .endorse body .range s)
          ∧ ∀ b, proposalOf raw = some b → id ≠ 0 →
            (s.queue.find id = none → Refuses (.endorse p body) p .endorse body .noSuch s)
              ∧ ∀ q, s.queue.find id = some q →
                (q.side = p → Refuses (.endorse p body) p .endorse body .self s)
                  ∧ (q.side ≠ p → q.body ≠ b → Refuses (.endorse p body) p .endorse body .mismatch s)
                  ∧ (q.side ≠ p → q.body = b → s.queue.mayAdopt q = false →
                      Refuses (.endorse p body) p .endorse body .order s)

/-- A proposal that fails an adoption check leaves the queue and changes no state outside it; the reply is DONE with its id, and
N-PROPOSAL REJECTED is raised with the reason (R139). -/
def Obligations.RejectedProposalOnlyLeavesTheQueue : Prop :=
  ∀ (i : Instr) (p : Side) (k : RequestKind) (body : List Byte) (q : Proposal) (r : Rejection) (s : State), s.Hears p →
    Consents i p k body q s → (refreshLink p s).reject q.body = some r →
    Does i p k body (.done (.proposal q.id))
      [.proposal (.rejected p r) q.id q.side q.body q.arrival s.now] s
      { s with queue := { s.queue with proposals := s.queue.proposals.filter fun x => x.id != q.id } }

/-- An adopted PLAN takes the slot of the next id (R6): NOT_READY, delivered 0, every optional field absent, the plan rate clamped to the
hose max rate, AWAIT where the channel has no current entry and else QUEUED. Nothing else changes. -/
def Obligations.AdoptedPlanTakesTheNextSlot : Prop :=
  ∀ (i : Instr) (p : Side) (k : RequestKind) (body : List Byte) (q : Proposal) (c : Chan) (u : TankNo) (a r : Nat) (m : Mode)
    (n : EntryId) (s : State), s.Hears p → Consents i p k body q s → q.body = .plan c u a r m →
    s.planReject c u = none → s.plan.nextId = n →
    ∀ e : Entry, e = { chan := c, tank := u, mode := m, allotment := a, planRate := min r (s.chanConfig c).hoseMaxRate,
                       state := if s.currentId c = none then .await else .queued, delivered := 0, lineup := .notReady,
                       stage := none, baseline := none, meterBaseline := none, startVolume := none, startQuality := none,
                       credit := 0, strikes := 0, endPending := none, endReason := none, started := none, ended := none,
                       margin := none, slug := none, recon := none } →
      Does i p k body (.adopted q.id)
        [.proposal (.adopted p) q.id q.side q.body q.arrival s.now, .entry .adopted (e.view n) s.now] s
        { s with queue := { s.queue with proposals := s.queue.proposals.filter fun x => x.id != q.id },
                 plan := { slots := s.plan.slots.set n (some e), nextId := s.plan.nextId + 1 } }

/-- An adopted AMEND of an entry that is QUEUED, or AWAIT with something remaining, replaces allotment and clamped plan rate and nothing
else (R7); an adopted CANCEL of a QUEUED entry ends it at once, CANCELLED with end reason CANCEL, and the current entry stays
(R8, R14). Of a current entry with no end pending, CANCEL sets the end CANCEL (R8), and an AMEND that leaves nothing remaining the end
ALLOTMENT (R7, R11); an ACTIVE entry's channel then closes. An AMEND that leaves something remaining to an ACTIVE one works the meter
margin against it, and one not above 0 is that end too (R7, R60): all of the entry is said where no grant can follow, the header not
SERVING or the rate unchanged. With an end already pending a CANCEL changes nothing, and an AMEND the figures but not the end (R7, R8). -/
def Obligations.AdoptedAmendAndCancelOfAWaitingEntry : Prop :=
  (∀ (i : Instr) (p : Side) (k : RequestKind) (body : List Byte) (q : Proposal) (n : EntryId) (e : Entry) (s : State),
    s.Hears p → Consents i p k body q s → s.entry n = some e →
    (∀ a r, q.body = .amend n a r → (e.state = .queued ∨ (e.state = .await ∧ e.delivered < a)) →
        ∀ f : Entry, f = { e with allotment := a, planRate := min r (s.chanConfig e.chan).hoseMaxRate } →
        Does i p k body (.adopted q.id)
          [.proposal (.adopted p) q.id q.side q.body q.arrival s.now, .entry .amended (f.view n) s.now] s
          { s with queue := { s.queue with proposals := s.queue.proposals.filter fun x => x.id != q.id },
                   plan := { s.plan with slots := s.plan.slots.set n (some f) } })
      ∧ (q.body = .cancel n → e.state = .queued → e.delivered = 0 →
        ∀ f : Entry, f = { e with state := .cancelled, endReason := some .cancel, endPending := none, ended := some s.now } →
        Does i p k body (.adopted q.id)
          [.proposal (.adopted p) q.id q.side q.body q.arrival s.now, .entry .state (f.view n) s.now] s
          { s with queue := { s.queue with proposals := s.queue.proposals.filter fun x => x.id != q.id },
                   plan := { s.plan with slots := s.plan.slots.set n (some f) } }))
    ∧ ∀ (i : Instr) (p : Side) (k : RequestKind) (body : List Byte) (q : Proposal) (n : EntryId) (e : Entry) (s : State),
      s.Hears p → s.PlanOk → s.GrantsOk → Consents i p k body q s → s.entry n = some e → s.currentId e.chan = some n →
      let rest := { s.queue with proposals := s.queue.proposals.filter fun x => x.id != q.id }
      (q.body = .cancel n →
          (e.endPending = none → ∃ t : State, exec i s = .next t.startSending
              ∧ Answered p (bodyTag body) k.code (.adopted q.id) s t ∧ EndsBy .cancel n e s t ∧ t.queue = rest)
            ∧ (e.endPending ≠ none → Does i p k body (.adopted q.id)
                [.proposal (.adopted p) q.id q.side q.body q.arrival s.now] s { s with queue := rest }))
        ∧ ∀ a r, q.body = .amend n a r →
          let g : Entry := { e with allotment := a, planRate := min r (s.chanConfig e.chan).hoseMaxRate }
          let worked : Entry := { g with
            margin := g.margin.map fun x => { x with mm := ((a - e.delivered : Nat) : Int) - x.aClose } }
          ∃ t : State, exec i s = .next t.startSending ∧ Answered p (bodyTag body) k.code (.adopted q.id) s t ∧ t.queue = rest
            ∧ (a ≤ e.delivered → e.endPending = none →
                (e.state = .await → EndsBy .allotment n g s t) ∧ (e.state = .active → EndsBy .allotment n worked s t))
            ∧ (e.delivered < a → e.endPending = none → e.state = .active → (s.chan e.chan).watched = true →
                ∃ f, t.entry n = some f ∧ f.allotment = a ∧ f.planRate = g.planRate ∧ f.delivered = e.delivered
                  ∧ ((∃ x, worked.margin = some x ∧ x.mm ≤ 0) → f.endPending = some .allotment ∧ ClosesForAnEnd e.chan s t)
                  ∧ (s.header.state ≠ .serving ∨ g.planRate = e.planRate →
                      ((∃ x, worked.margin = some x ∧ x.mm ≤ 0) → f = worked.withEnd .allotment)
                        ∧ ((∀ x, worked.margin = some x → 0 < x.mm) → f = worked ∧ t.channels = s.channels)))
            ∧ (e.endPending ≠ none → e.state = .await → t.entry n = some g ∧ t.channels = s.channels)
            ∧ (e.endPending ≠ none → e.state = .active → (s.chan e.chan).watched = false → t.entry n = some worked)

/-- An adopted START sets the run authorisation and acknowledges the last stop; where the channel has no entry ready to start, it starts
nothing, and only the horn class may follow (R77, R138, R158). -/
def Obligations.AdoptedStartAuthorisesTheChannel : Prop :=
  ∀ (i : Instr) (p : Side) (k : RequestKind) (body : List Byte) (q : Proposal) (c : Chan) (s : State), s.Hears p →
    Consents i p k body q s → q.body = .start c → (s.chan c).state = .idle → s.trip.state = .normal →
    (∀ j e, s.current c = some (j, e) →
      ¬(e.state = .await ∧ e.lineup = .ready ∧ e.endPending = none ∧ (s.tank e.tank).levelState.settled = true)) →
    ∃ t : State, exec i s = .next t.startSending ∧ Answered p (bodyTag body) k.code (.adopted q.id) s t ∧ EndedKept s t
      ∧ t = { s with
          queue := { s.queue with proposals := s.queue.proposals.filter fun x => x.id != q.id }
          channels := s.channels.set c { s.chan c with
            authorised := true, lastStop := (s.chan c).lastStop.map fun l => { l with acknowledged := true } }
          trip := t.trip, portB := t.portB, portS := t.portS }
      ∧ t.trip.HornOnly s.trip ∧ t.trip.horn = t.hornClass

/-- An adopted CLEAR (R156): the record emptied, the unproven marks cleared, the trip state NORMAL, the header IDLE, both pauses gone
from every channel, the horn class judged; last stops, cautions, plan and proposals stay, and no channel starts. -/
def Obligations.AdoptedClearEndsTheShutdown : Prop :=
  ∀ (i : Instr) (p : Side) (k : RequestKind) (body : List Byte) (q : Proposal) (code : Nat) (s : State), s.Hears p →
    s.TrippedShut → s.GrantsOk → s.HeaderTrips → s.trip.Bounded → Consents i p k body q s → q.body = .clear code →
    (refreshLink p s).clearReject code = none →
    ∃ t : State, exec i s = .next t.startSending ∧ Answered p (bodyTag body) k.code (.adopted q.id) s t ∧ EndedKept s t
      ∧ t = { s with
          queue := { s.queue with proposals := s.queue.proposals.filter fun x => x.id != q.id }
          channels := t.channels, header := { s.header with state := .idle }, trip := t.trip
          portB := t.portB, portS := t.portS }
      ∧ (∀ c, t.chan c = { s.chan c with holds := { (s.chan c).holds with pauseB := false, pauseS := false } })
      ∧ t.trip.HornOnly { s.trip with
          state := .normal, firstOut := none, later := [], more := false, unproven := Vector.replicate 4 false }
      ∧ t.trip.horn = t.hornClass

/-- An adopted INIT (R180, R142): the plan, the tanks and the queue empty, every channel MASKED with its hose DRAINED and only its pauses
held, the header IDLE or TRIPPED with fresh lists; the configuration, the counts, the last stops, the trip record, the links and
the next proposal id stay. -/
def Obligations.AdoptedInitClearsPlanTanksAndQueue : Prop :=
  ∀ (i : Instr) (p : Side) (k : RequestKind) (body : List Byte) (q : Proposal) (s : State), s.Hears p →
    Consents i p k body q s → q.body = .init → (∀ c, (s.chan c).restful = true) →
    ∃ t : State, exec i s = .next t.startSending ∧ Answered p (bodyTag body) k.code (.adopted q.id) s t ∧ EndedKept s t
      ∧ t = { s with
          plan := { slots := Vector.replicate 16 none, nextId := 0 }
          tanks := Vector.replicate 12 Tank.blank
          queue := { proposals := [], nextId := s.queue.nextId }
          header := { s.header with
            state := if s.trip.state = .normal then .idle else .tripped
            returnState := none, primeTimer := none, waitTimer := none
            high := freshHigh s.config, low := freshLow s.config }
          channels := t.channels, trip := t.trip, portB := t.portB, portS := t.portS }
      ∧ (∀ c, t.chan c = { s.chan c with
          state := .masked, command := .toClose, strokeTimer := none, openingStarted := none, authorised := false
          holds := { HoldSet.empty with pauseB := (s.chan c).holds.pauseB, pauseS := (s.chan c).holds.pauseS }
          hose := .drained, pressureTimer := none, sourceLowTimer := none, strainTimer := none, strain := false
          highSoon := false, grant := 0
          meter := { (s.chan c).meter with stallTimer := none, unmeteredGain := false } })
      ∧ t.trip.HornOnly { s.trip with cautions := t.trip.cautions } ∧ t.trip.cautions.Sublist s.trip.cautions

/-- A lapse timer's expiry removes its proposal and raises N-PROPOSAL LAPSED on both ports; nothing else changes (R133). THE MODEL'S OWN
(log 2): with no such proposal, or before its time, there is no expiry to take. -/
def Obligations.LapsedProposalOnlyLeavesTheQueue : Prop :=
  ∀ (id : Nat) (s : State), s.Ready →
    (∀ q, s.queue.find id = some q → q.lapseAt ≤ s.now →
        exec (.lapseTimerExpiry id) s
          = .next (raise (.proposal .lapsed q.id q.side q.body q.arrival s.now)
              { s with queue := { s.queue with proposals := s.queue.proposals.filter fun x => x.id != id } }).startSending)
      ∧ ((∀ q, s.queue.find id = some q → s.now < q.lapseAt) → exec (.lapseTimerExpiry id) s = .next s.startSending)

/-- The queue never holds more than 8 proposals, never more than 4 from one side, and never two with the same kind and body; each has an
id of its own from 1 to 255 (R128, R132). -/
def Obligations.ConsentQueueStaysBounded : Prop := KeptByEveryStep fun s => s.queue.Bounded

/-! ### Stops, shutdowns and annunciation -/

/-- The channel stops (R15, R45, R48, R84, R86, R88, R89, R91, R93, R120), in any trip state: STOP of a channel; the expiry of its pressure,
source-low and stall timers and of its tank's blind timer; LINEUP NOT_READY of an ACTIVE entry in BATCH or SLUG (LINEUP_LOST); an
HI assertion at a reading of the current entry's tank (LEVEL_HI, which sets the end LEVEL_HI, once for an entry by its mark); and,
but for TRIPPING, the expiry of its stroke timer (VALVE_STUCK): each takes its own cause. At an expiry the inputs, counts,
declarations and configuration stay. MISROUTE is said with the reconciliation. LEVEL_HI is said where the HIHI assertion does not
rise and the same reading cannot bring a second strike; the flag, the level, or an own HI that stands with no level found brings it. -/
def Obligations.ChannelStopsAreTakenWhole : Prop :=
  ∀ (c : Chan) (s : State), s.Ready →
    (∀ p body, s.Hears p → decodeRequest .stop body = some (.stop c) →
        ∃ t : State, exec (.stop p body) s = .next t.startSending ∧ StopTaken .stopCh (originOf p) none c s t
          ∧ Answered p (bodyTag body) RequestKind.stop.code (.done .nothing) s t)
      ∧ (∀ x, (s.chan c).pressureTimer = some x → x ≤ s.now →
        ∃ t : State, exec (.pressureTimerExpiry c) s = .next t.startSending
          ∧ StopTaken .overpressure .watch none c s t ∧ t.given = s.given)
      ∧ (∀ x, (s.chan c).sourceLowTimer = some x → x ≤ s.now →
        ∃ t : State, exec (.sourceLowTimerExpiry c) s = .next t.startSending
          ∧ StopTaken .sourceEmpty .watch none c s t ∧ t.given = s.given)
      ∧ (∀ x, (s.chan c).meter.stallTimer = some x → x ≤ s.now →
        ∃ t : State, exec (.stallTimerExpiry c) s = .next t.startSending
          ∧ StopTaken .meterStall .watch none c s t ∧ t.given = s.given)
      ∧ (∀ x u, (s.tank u).blindTimer = some x → x ≤ s.now → s.activeChan u = some c →
        ∃ t : State, exec (.blindTimerExpiry u) s = .next t.startSending
          ∧ StopTaken .gaugeLost .watch (some u) c s t ∧ t.given = s.given)
      ∧ (∀ x, (s.chan c).strokeTimer = some x → x ≤ s.now → (s.chan c).state ≠ .fault → s.trip.state ≠ .tripping →
        ∃ t : State, exec (.strokeTimerExpiry c) s = .next t.startSending ∧ StopTaken .valveStuck .watch none c s t
          ∧ (t.chan c).state = .fault ∧ t.given = s.given)
      ∧ (∀ (body : List Byte) (n : EntryId) (e : Entry), s.Hears .ship →
          decodeRequest .lineup body = some (.lineup n .notReady) → s.activeEntry c = some (n, e) →
          e.chan = c → e.mode ≠ .demand → e.lineup = .ready →
        ∃ (t : State) (f : Entry), exec (.lineup .ship body) s = .next t.startSending
          ∧ StopTaken .lineupLost .ship (some e.tank) c s t
          ∧ Answered .ship (bodyTag body) RequestKind.lineup.code (.done .nothing) s t
          ∧ t.entry n = some f ∧ f.lineup = .notReady ∧ f.state = .await ∧ f.endPending = e.endPending)
      ∧ ∀ (body : List Byte) (u : TankNo) (d : TankDecl) (l : Nat) (q : Quality) (hi hihi : Bool) (i : EntryId) (e : Entry),
          s.TakesLevel body u d l q hi hihi → s.TanksShared → s.servingChan u = some c → s.current c = some (i, e) →
          e.chan = c → (e.state = .await ∨ (e.state = .active ∧ e.strikes = 0)) → e.endPending = none →
          (hi = true ∨ (∃ x, (s.tankAfter u l q).lEff = some x ∧ d.hHi ≤ x)
            ∨ ((s.tankAfter u l q).lEff = none ∧ (s.tank u).ownHi = true)) → (s.tank u).hiStopMark ≠ some i →
        ∃ (t : State) (f : Entry), exec (.level .ship body) s = .next t.startSending ∧ LevelAnswered body u s t
          ∧ (t.chan c).lastStop
              = some { cause := .levelHi, origin := if hi then .ship else .watch, tank := some u, stamp := s.now,
                       acknowledged := false }
          ∧ (t.chan c).watched = false ∧ t.queue.proposals = s.queue.proposals.filter (fun q => !q.isStart (some c))
          ∧ (t.chan c).authorised = false ∧ (t.tank u).hiStopMark = some i ∧ t.trip.state = s.trip.state
          ∧ (s.trip.state = .normal → t.trip.horn = .alarm) ∧ t.entry i = some f
          ∧ ((s.chan c).provenClosed = true → (s.chan c).watched = false → (s.chan c).stroking = false →
              f.state = .short ∧ f.endReason = some .levelHi ∧ f.endPending = none)
          ∧ ((s.chan c).provenClosed = false ∨ (s.chan c).watched = true ∨ (s.chan c).stroking = true →
              f.state = e.state ∧ f.endPending = some .levelHi)

/-- The shutdowns (R46, R84, R92, R102, R105, R148, R150, R151, R152): a STOP naming all channels, the opening of a loop, the wait timer,
the prime timer with the pump not running, a strain dwell timer, and a rise of a tank's HIHI assertion each take their own cause from
any trip state; a valve fault in TRIPPING takes VALVE_UNPROVEN for its channel, which goes FAULT with its mark set. LEVEL_HIHI
touches no last stop where no channel serves the tank; a channel that serves it may take LEVEL_HI after it (R43). -/
def Obligations.ShutdownsAreTakenWhole : Prop :=
  ∀ s : State, s.Ready → s.trip.Bounded →
    (∀ p tag, s.Hears p →
        ∃ t : State, exec (.stopAll p tag) s = .next t.startSending ∧ ShutdownTaken .stopAll (originOf p) s t
          ∧ Answered p tag RequestKind.stop.code (.done .nothing) s t)
      ∧ (s.trip.loopBOpen = false → ∃ t : State, exec (.esdLoopOpens .barge) s = .next t.startSending
          ∧ ShutdownTaken .esdB .barge s t ∧ t.trip.loopBOpen = true ∧ t.trip.loopSOpen = s.trip.loopSOpen)
      ∧ (s.trip.loopSOpen = false → ∃ t : State, exec (.esdLoopOpens .ship) s = .next t.startSending
          ∧ ShutdownTaken .esdS .ship s t ∧ t.trip.loopSOpen = true ∧ t.trip.loopBOpen = s.trip.loopBOpen)
      ∧ (∀ x, s.header.waitTimer = some x → x ≤ s.now →
        ∃ t : State, exec .waitTimerExpiry s = .next t.startSending ∧ ShutdownTaken .strainer .watch s t ∧ t.given = s.given)
      ∧ (∀ x, s.header.primeTimer = some x → x ≤ s.now → s.header.pumpRunning = false →
        ∃ t : State, exec .primeTimerExpiry s = .next t.startSending ∧ ShutdownTaken .pumpFail .watch s t ∧ t.given = s.given)
      ∧ (∀ x c, (s.chan c).strainTimer = some x → x ≤ s.now →
        ∃ t : State, exec (.strainDwellTimerExpiry c) s = .next t.startSending
          ∧ ShutdownTaken (.hoseStrain c) .watch s t ∧ t.given = s.given)
      ∧ (∀ (body : List Byte) (u : TankNo) (d : TankDecl) (l : Nat) (q : Quality) (hi hihi : Bool),
          s.Hears .ship → decodeRequest .level body = some (.level u l q hi hihi) → (s.tank u).decl = some d → (s.tank u).hihi = false →
          (hihi = true ∨ ∃ x, (s.tankAfter u l q).lEff = some x ∧ d.hHihi ≤ x) →
        ∃ t : State, exec (.level .ship body) s = .next t.startSending ∧ LevelAnswered body u s t
          ∧ ShutdownEffect (.levelHihi u) (if hihi then .ship else .watch) s t
          ∧ (s.servingChan u = none → ∀ c, (t.chan c).lastStop = (s.chan c).lastStop))
      ∧ ∀ x c, (s.chan c).strokeTimer = some x → x ≤ s.now → (s.chan c).state ≠ .fault → s.trip.state = .tripping →
        ∃ t : State, exec (.strokeTimerExpiry c) s = .next t.startSending ∧ ShutdownTaken (.valveUnproven c) .watch s t
          ∧ t.trip.unproven.get c = true ∧ (t.chan c).state = .fault ∧ t.given = s.given

/-- While the trip state is not NORMAL, every manifold valve is commanded closed and no channel holds run authorisation (R147). -/
def Obligations.TrippedPartStaysShut : Prop := KeptByEveryStep State.TrippedShut

/-- The trip record keeps its room, is empty just while the part is NORMAL, and the header is TRIPPED just while it is not, its timers
running in their own states only (R97, R106, R153, R154, R156). And the caution set shows CONFIG_DEFAULTS just while the store holds it
active (R159, R176, R178). -/
def Obligations.TripRecordAndHeaderAgree : Prop :=
  (KeptByEveryStep fun s => s.trip.Bounded ∧ s.HeaderTrips ∧ s.header.TimersOk) ∧ KeptByEveryStep State.DefaultsShown

/-- A first-out, once recorded, does not change until the record is emptied by an adopted CLEAR or replaced at power-on; and a later cause
is not removed or moved before that (R153, R154, R156). What empties it is a request (a PROPOSE, an ENDORSE, or the byte that
completes one) with a CLEAR of the first-out's code pending, which leaves the queue as the part returns to NORMAL. -/
def Obligations.FirstOutStandsUntilCleared : Prop :=
  ∀ (i : Instr) (s t : State) (e : CauseEntry), i.wellFormed = true → exec i s = .next t → s.trip.firstOut = some e →
    (∀ f, i ≠ .powerOn f) →
    (t.trip.firstOut = some e ∧ s.trip.later <+: t.trip.later)
      ∨ (t.trip.firstOut = none ∧ t.trip.later = [] ∧ t.trip.more = false ∧ t.trip.state = .normal
          ∧ (∃ p, (∃ b, i = .propose p b ∨ i = .endorse p b) ∨ ∃ x, i = .byteReceived p x)
          ∧ ∃ q ∈ s.queue.proposals, q.body = .clear e.cause.code ∧ ∀ y ∈ t.queue.proposals, y.id ≠ q.id)

/-- SILENCE (R161): with the class NONE it changes nothing; else the mute is set at the present class. A loop's closing is recorded and
reported by N-TRIP STATE (R150). -/
def Obligations.SilenceMutesAndClosingLoopsAreRecorded : Prop :=
  (∀ (p : Side) (body : List Byte) (s : State), s.Hears p → decodeRequest .silence body = some .silence →
      (s.trip.horn = .quiet → Does (.silence p body) p .silence body (.done .nothing) [] s s)
        ∧ (s.trip.horn ≠ .quiet → ∃ t : State, exec (.silence p body) s = .next t.startSending
            ∧ t = { s with trip := { s.trip with mute := some s.trip.horn }, portB := t.portB, portS := t.portS }
            ∧ t.trip.hornOutput = .off ∧ t.trip.beaconOutput = s.trip.beaconOutput
            ∧ Answered p (bodyTag body) RequestKind.silence.code (.done .nothing) s t ∧ EndedKept s t))
    ∧ ∀ s : State, s.Ready →
      (s.trip.loopBOpen = true → ∃ u, u = { s with trip := { s.trip with loopBOpen := false } }
          ∧ exec (.esdLoopCloses .barge) s = .next (raise (.trip .state u.tripView none s.now) u).startSending)
        ∧ (s.trip.loopSOpen = true → ∃ u, u = { s with trip := { s.trip with loopSOpen := false } }
          ∧ exec (.esdLoopCloses .ship) s = .next (raise (.trip .state u.tripView none s.now) u).startSending)

/-! ### The Transfer Plan -/

/-- Slots are assigned in order, each below the next id and none at or past it; a channel's current entry is its earliest non-terminal one
and alone AWAIT or ACTIVE; the non-terminal entries of one tank are one channel's; an activated entry's delivered volume is worked
from the pulse total, and an entry never activated has delivered 0 (R1, R3, R4, R5). That a slot stays assigned is said with R2. -/
def Obligations.PlanKeepsItsOrderAndItsVolumes : Prop := KeptByEveryStep State.PlanOk

/-- A ladder stage is never raised: in any step an entry that stays in its slot keeps its stage or lowers it (R63). -/
def Obligations.LadderStagesNeverRise : Prop :=
  ∀ (i : Instr) (s t : State) (n : EntryId) (e f : Entry) (a : Stage), s.SlotsOk → exec i s = .next t →
    s.entry n = some e → t.entry n = some f → e.stage = some a → ∃ b, f.stage = some b ∧ a.rank ≤ b.rank

/-- Until the plan is cleared, by INIT or at power-on, an assigned slot stays assigned and holds its entry, with its channel, tank and mode
(R1, R2); and once an entry is terminal, no field of it changes until then (R2). -/
def Obligations.TerminalEntriesStandUntilThePlanIsCleared : Prop :=
  ∀ (i : Instr) (s t : State) (n : EntryId) (e : Entry), s.SlotsOk → exec i s = .next t → s.entry n = some e →
    ((∃ f, t.entry n = some f ∧ f.chan = e.chan ∧ f.tank = e.tank ∧ f.mode = e.mode) ∨ t.plan = Plan.blank)
      ∧ (e.state.terminal = true → t.entry n = some e ∨ t.plan = Plan.blank)

/-- LINEUP of an AWAIT entry (R15, R78, R79): NOT_READY is stored and starts nothing; READY on an authorised IDLE channel with its valve
proven closed, the tank STEADY or SLOSHING, no end pending and the part NORMAL starts it: either the valve opens for the entry,
now ACTIVE with the records of R9, or the activation evaluation ended the entry and the channel stays IDLE. LINEUP of an ACTIVE entry
in DEMAND (R76, R86): NOT_READY holds the channel by LINEUP_DROPPED, a FLOWING one now HELD at grant 0 with its valve open; READY,
said where the header is not SERVING, takes the reason away, leaving NO_GRANT where a HELD channel's set would be empty. -/
def Obligations.LineupStartsAReadyChannel : Prop :=
  (∀ (body : List Byte) (n : EntryId) (e : Entry) (s : State), s.Hears .ship → s.entry n = some e →
    s.currentId e.chan = some n → e.state = .await →
    (decodeRequest .lineup body = some (.lineup n .notReady) → e.lineup = .ready →
        Does (.lineup .ship body) .ship .lineup body (.done .nothing)
          [.entry .lineup ({ e with lineup := .notReady }.view n) s.now] s
          { s with plan := { s.plan with slots := s.plan.slots.set n (some { e with lineup := .notReady }) } })
      ∧ (decodeRequest .lineup body = some (.lineup n .ready) → s.GrantsOk → (s.chan e.chan).state = .idle →
          (s.chan e.chan).provenClosed = true → (s.chan e.chan).authorised = true → e.endPending = none →
          (s.tank e.tank).levelState.settled = true → s.trip.state = .normal →
          ∃ (t : State) (f : Entry), exec (.lineup .ship body) s = .next t.startSending ∧ t.entry n = some f
            ∧ Answered .ship (bodyTag body) RequestKind.lineup.code (.done .nothing) s t
            ∧ f.lineup = .ready ∧ f.delivered = e.delivered
            ∧ f.baseline = e.baseline.or
                (some { total := (s.chan e.chan).meter.total, kFactor := (s.chanConfig e.chan).kFactor })
            ∧ f.started = e.started.or (some s.now) ∧ f.meterBaseline = some (s.chan e.chan).meter.total
            ∧ f.startVolume = (s.tank e.tank).nowVolume ∧ f.strikes = 0
            ∧ f.startQuality = some (startQualityOf (s.tank e.tank).levelState)
            ∧ f.credit = (if (s.chan e.chan).hose = .drained then (s.chanConfig e.chan).hoseDrain else 0)
            ∧ ((f.state = .active ∧ f.endPending = none ∧ (t.chan e.chan).state = .opening
                  ∧ (t.chan e.chan).command = .toOpen ∧ (t.chan e.chan).hose = .hoseFull
                  ∧ (t.chan e.chan).strokeTimer = some (s.expiry (strokeTimeout (s.chanConfig e.chan).strokeTime)))
                ∨ (f.state.terminal = true ∧ f.endReason.isSome = true ∧ (t.chan e.chan).state = .idle))))
    ∧ ∀ (body : List Byte) (c : Chan) (n : EntryId) (e : Entry) (s : State), s.Hears .ship → s.GrantsOk →
      s.activeEntry c = some (n, e) → e.chan = c → e.mode = .demand →
      (decodeRequest .lineup body = some (.lineup n .notReady) → e.lineup = .ready → (s.chan c).holds.lineupDropped = false →
          ∃ t : State, exec (.lineup .ship body) s = .next t.startSending
            ∧ Answered .ship (bodyTag body) RequestKind.lineup.code (.done .nothing) s t
            ∧ t.entry n = some { e with lineup := .notReady } ∧ (t.chan c).holds.lineupDropped = true
            ∧ ((s.chan c).command = (s.chan c).state.command → (t.chan c).command = (s.chan c).command) ∧ (t.chan c).grant = 0
            ∧ (t.chan c).authorised = (s.chan c).authorised ∧ (t.chan c).lastStop = (s.chan c).lastStop
            ∧ (t.chan c).state = (if (s.chan c).state = .flowing then .held else (s.chan c).state))
        ∧ (decodeRequest .lineup body = some (.lineup n .ready) → e.lineup = .notReady → s.header.state ≠ .serving →
            (s.chan c).holds.lineupDropped = true →
            ∃ u, u = { s with
                plan := { s.plan with slots := s.plan.slots.set n (some { e with lineup := .ready }) }
                channels := s.channels.set c { s.chan c with
                  holds :=
                    let h := { (s.chan c).holds with lineupDropped := false }
                    if (s.chan c).state = .held ∧ h = HoldSet.empty then { h with noGrant := true } else h } }
              ∧ Does (.lineup .ship body) .ship .lineup body (.done .nothing)
                  [.entry .lineup ({ e with lineup := .ready }.view n) s.now, .channel .holds (u.channelView c) none s.now] s u)

/-- ENTRY-END of an AWAIT entry with no end pending, its valve proven closed (R10, R14, R16): the end is applied at once; the entry is
SHORT where anything was delivered and else CANCELLED; the channel's next entry becomes AWAIT; the ended flag is set on both ports;
and the authorisation is cleared where the channel has no entry left. At SHORT the channel goes to the tail of its list, and with a LOW
channel the token to the tail of the HIGH list (R113). Said where the header is not SERVING. An ENTRY-END of an AWAIT entry whose valve
is not proven closed leaves the end pending; one of an ACTIVE entry closes its channel with the end pending, no authorisation cleared and
no proposal withdrawn; with an end already pending it changes nothing (R10, R16). LINEUP and ENTRY-END are refused RANGE past id 15, and
NOT_CURRENT for an unassigned slot and for an entry that is not its channel's current one (R15, R16). -/
def Obligations.EntryEndAppliesToAWaitingEntry : Prop :=
  (∀ (body : List Byte) (n : EntryId) (e : Entry) (s : State), s.Hears .ship → s.PlanOk → s.GrantsOk →
    s.header.state ≠ .serving → decodeRequest .entryEnd body = some (.entryEnd n) → s.entry n = some e →
    s.currentId e.chan = some n → e.state = .await → e.endPending = none → (s.chan e.chan).provenClosed = true →
    (s.chan e.chan).stroking = false →
    ∃ t : State, exec (.entryEnd .ship body) s = .next t.startSending
      ∧ Answered .ship (bodyTag body) RequestKind.entryEnd.code (.done .nothing) s t
      ∧ t.entry n = some { e with
          state := if 0 < e.delivered then .short else .cancelled, endReason := some .shipEnd, endPending := none
          ended := some s.now
          slug := e.slug.map fun _ => { phase := .idle, size := none, base := none } }
      ∧ (∀ j f, j ≠ n → s.entry j = some f →
          t.entry j = some (if t.currentId e.chan = some j then { f with state := .await, lineup := .notReady } else f))
      ∧ (∀ q, (t.port q).ended = (s.port q).ended.set e.chan true)
      ∧ (t.currentId e.chan = none → (t.chan e.chan).authorised = false)
      ∧ (t.currentId e.chan ≠ none → (t.chan e.chan).authorised = (s.chan e.chan).authorised)
      ∧ t.queue = s.queue ∧ t.config = s.config ∧ (∀ u, t.tank u = s.tank u)
      ∧ t.header = { s.header with high := t.header.high, low := t.header.low }
      ∧ (e.delivered = 0 → t.header = s.header)
      ∧ (0 < e.delivered → .chan e.chan ∈ s.header.high → e.chan ∉ s.header.low →
          t.header.high = s.header.high.filter (· ≠ .chan e.chan) ++ [.chan e.chan] ∧ t.header.low = s.header.low)
      ∧ (0 < e.delivered → e.chan ∈ s.header.low → .lowToken ∈ s.header.high →
          t.header.high = s.header.high.filter (· ≠ .lowToken) ++ [.lowToken]
            ∧ t.header.low = s.header.low.filter (· ≠ e.chan) ++ [e.chan]))
    ∧ (∀ (body : List Byte) (n : EntryId) (e : Entry) (s : State), s.Hears .ship → s.PlanOk → s.GrantsOk →
      decodeRequest .entryEnd body = some (.entryEnd n) → s.entry n = some e → s.currentId e.chan = some n →
      (e.endPending = none → ∃ t : State, exec (.entryEnd .ship body) s = .next t.startSending
          ∧ Answered .ship (bodyTag body) RequestKind.entryEnd.code (.done .nothing) s t
          ∧ EndsBy .shipEnd n e s t ∧ t.queue = s.queue)
        ∧ (e.endPending ≠ none → Does (.entryEnd .ship body) .ship .entryEnd body (.done .nothing) [] s s))
    ∧ ∀ (body : List Byte) (m : Nat) (s : State), s.Hears .ship →
      (16 ≤ m ∨ ∀ i : EntryId, m = i → ∀ e, s.entry i = some e → s.currentId e.chan ≠ some i) →
      (∀ v, decodeRequest .lineup body = some (.lineup m v) →
          Refuses (.lineup .ship body) .ship .lineup body (if 16 ≤ m then .range else .notCurrent) s)
        ∧ (decodeRequest .entryEnd body = some (.entryEnd m) →
          Refuses (.entryEnd .ship body) .ship .entryEnd body (if 16 ≤ m then .range else .notCurrent) s)

/-! ### The Tank Table and the Level Watch -/

/-- TANKDEF (R19, R20): a tank in use is refused IN_USE, fields out of range RANGE, an alarm level above the sealed table RANGE; else the
declaration is replaced, the window flushed and the Level Watch items of R34 set, the alarm items and the strapping kept. -/
def Obligations.TankdefDeclaresTheTank : Prop :=
  ∀ (body : List Byte) (u : TankNo) (d : TankDecl) (s : State), s.Hears .ship →
    decodeRequest .tankdef body = some (.tankdef u d) →
    (d.ok = false → Refuses (.tankdef .ship body) .ship .tankdef body .range s)
      ∧ (d.ok = true → s.tankInUse u = true → Refuses (.tankdef .ship body) .ship .tankdef body .inUse s)
      ∧ (d.ok = true → s.tankInUse u = false → (∃ top, (s.tank u).topLevel = some top ∧ top < d.hHihi) →
          Refuses (.tankdef .ship body) .ship .tankdef body .range s)
      ∧ (d.ok = true → s.tankInUse u = false → (∀ top, (s.tank u).topLevel = some top → d.hHihi ≤ top) →
          ∃ t : State, exec (.tankdef .ship body) s = .next t.startSending
            ∧ Answered .ship (bodyTag body) RequestKind.tankdef.code (.done .nothing) s t ∧ EndedKept s t
            ∧ t = { s with
                tanks := s.tanks.set u { s.tank u with
                  decl := some d, window := [], suspect := none, stale := false, staleTimer := none, stepRef := none
                  hiStopMark := none, blindTimer := none, aboveTable := false, gaugeStep := false }
                trip := t.trip, portB := t.portB, portS := t.portS }
            ∧ t.trip.HornOnly { s.trip with cautions := t.trip.cautions }
            ∧ ((s.tank u).gaugeStep = false → t.trip = s.trip))

/-- A STRAP-SEEK with tank 0 to 11 and index 0 to 15 sets the cursor and answers with it, whatever the tank; otherwise it is refused
RANGE. It writes nothing and raises no notice (R25). -/
def Obligations.StrapSeekSetsTheCursor : Prop :=
  ∀ (body : List Byte) (n i : Nat) (s : State), s.Hears .ship →
    decodeRequest .strapSeek body = some (.strapSeek n i) →
    (∀ u : TankNo, n = u → i ≤ 15 →
        Does (.strapSeek .ship body) .ship .strapSeek body (.done (.cursor { tank := u, index := i })) [] s
          { s with cursor := { tank := u, index := i } })
      ∧ (12 ≤ n ∨ 16 ≤ i → Refuses (.strapSeek .ship body) .ship .strapSeek body .range s)

/-- A STRAP-PUT (R26): a count, level or volume out of range, or a point past slot 15, is refused RANGE and a tank in use IN_USE, and no
point is written; else the points stand in their slots from the cursor on, the cursor has risen by the count, the table is
UNSEALED, every other slot is as it was, and N-TANK UNSEALED is raised if the strap state changed. The refusals of STRAP-SEAL
come in the order of R27's checks. -/
def Obligations.StrapPutWritesAndStrapSealChecks : Prop :=
  (∀ (body : List Byte) (n : Nat) (p0 p1 p2 p3 : Point) (s : State), s.Hears .ship →
    decodeRequest .strapPut body = some (.strapPut n p0 p1 p2 p3) →
    let ps := [p0, p1, p2, p3].take n
    let u := s.cursor.tank
    ((n = 0 ∨ 4 < n ∨ (∃ x ∈ ps, 30000 < x.level ∨ 10000000 < x.volume) ∨ 16 < s.cursor.index + n) →
        Refuses (.strapPut .ship body) .ship .strapPut body .range s)
      ∧ (1 ≤ n → n ≤ 4 → (∀ x ∈ ps, x.level ≤ 30000 ∧ x.volume ≤ 10000000) → s.cursor.index + n ≤ 16 →
        (s.tankInUse u = true → Refuses (.strapPut .ship body) .ship .strapPut body .inUse s)
          ∧ (s.tankInUse u = false → ∃ t : State, exec (.strapPut .ship body) s = .next t.startSending
              ∧ Answered .ship (bodyTag body) RequestKind.strapPut.code
                  (.done (.cursor { tank := u, index := s.cursor.index + n })) s t ∧ EndedKept s t
              ∧ t = { s with
                  cursor := { tank := u, index := s.cursor.index + n }
                  tanks := s.tanks.set u { s.tank u with
                    points := (t.tank u).points, strap := .unsealed
                    aboveTable := match (s.tank u).strap with
                      | .sealed _ => false
                      | .empty | .unsealed => (s.tank u).aboveTable }
                  portB := t.portB, portS := t.portS }
              ∧ ((s.tank u).strap = .unsealed → Tells .ship [] s t)
              ∧ ((s.tank u).strap = .empty →
                  Tells .ship [.tank .unsealed u (s.tank u).decl.isSome .unsealed (s.tank u).aboveTable none s.now] s t)
              ∧ (∀ m, (s.tank u).strap = .sealed m →
                  Tells .ship ((if (s.tank u).aboveTable then
                      [.tank .aboveTable u (s.tank u).decl.isSome .unsealed false none s.now] else [])
                    ++ [.tank .unsealed u (s.tank u).decl.isSome .unsealed false none s.now]) s t)
              ∧ (∀ j : Fin 16, j.val < s.cursor.index ∨ s.cursor.index + n ≤ j.val →
                  (t.tank u).points.get j = (s.tank u).points.get j)
              ∧ (∀ (j : Fin 16) (x : Point), s.cursor.index ≤ j.val → ps[j.val - s.cursor.index]? = some x →
                  (t.tank u).points.get j = some x))))
    ∧ ∀ (body : List Byte) (n w : Nat) (s : State), s.Hears .ship →
    decodeRequest .strapSeal body = some (.strapSeal n w) →
    (n < 2 ∨ 16 < n → Refuses (.strapSeal .ship body) .ship .strapSeal body .range s)
      ∧ (2 ≤ n → n ≤ 16 →
        (s.tankInUse s.cursor.tank = true → Refuses (.strapSeal .ship body) .ship .strapSeal body .inUse s)
          ∧ (s.tankInUse s.cursor.tank = false →
            ((s.tank s.cursor.tank).firstPoints n = none →
                Refuses (.strapSeal .ship body) .ship .strapSeal body .shape s)
              ∧ ∀ ps, (s.tank s.cursor.tank).firstPoints n = some ps →
                (pointSum ps ≠ w → Refuses (.strapSeal .ship body) .ship .strapSeal body .check s)
                  ∧ (pointSum ps = w →
                      (levelsRise ps = false ∨ volumesHold ps = false ∨ (s.tank s.cursor.tank).hihiWithin ps = false) →
                      Refuses (.strapSeal .ship body) .ship .strapSeal body .shape s)))

/-- A STRAP-SEAL that passes R27 makes the tank SEALED with N points and clears the above-table flag; the reply is DONE and N-TANK SEALED
is raised, after N-TANK ABOVE_TABLE where the flag was set; the window and the points stay (R28). -/
def Obligations.StrapSealSealsTheTable : Prop :=
  ∀ (body : List Byte) (n w : Nat) (ps : List Point) (s : State), s.Hears .ship →
    decodeRequest .strapSeal body = some (.strapSeal n w) → 2 ≤ n → n ≤ 16 → s.tankInUse s.cursor.tank = false →
    (s.tank s.cursor.tank).firstPoints n = some ps → pointSum ps = w → levelsRise ps = true → volumesHold ps = true →
    (s.tank s.cursor.tank).hihiWithin ps = true →
    let k := s.tank s.cursor.tank
    Does (.strapSeal .ship body) .ship .strapSeal body (.done .nothing)
      ((if k.aboveTable then
          [.tank .aboveTable s.cursor.tank k.decl.isSome (.sealed n) false none s.now] else [])
        ++ [.tank .sealed s.cursor.tank k.decl.isSome (.sealed n) false none s.now]) s
      { s with tanks := s.tanks.set s.cursor.tank { k with strap := .sealed n, aboveTable := false } }

/-- A LEVEL for a tank that is not defined is refused UNDEFINED_TANK. For a defined one, whether or not a current entry names it, the
reading is judged and taken or flushes the window, the ship's flags are stored, and the reply carries the level state, the effective
level and the suspect origin; where an ACTIVE entry names it and no level state is known, its channel is held by BLIND, a FLOWING
one now HELD at grant 0, and the blind timer runs (R47; no HI assertion). Where no channel's current entry names it, a good
reading within the step limit joins the window as the newest, one beyond it flushes the window and makes GAUGE_STEP active, and
so, without GAUGE_STEP, do a reading sent SUSPECT and one above 30,000 mm, the tank SUSPECT by SHIP or WATCH (R35 to R39, R42);
the alarm items follow R44, and nothing else changes. Said where the HIHI assertion does not rise. -/
def Obligations.LevelReadingJoinsOrFlushesTheWindow : Prop :=
  (∀ (body : List Byte) (u : TankNo) (l : Nat) (q : Quality) (hi hihi : Bool) (s : State), s.Hears .ship →
    decodeRequest .level body = some (.level u l q hi hihi) → (s.tank u).decl = none →
      Refuses (.level .ship body) .ship .level body .undefinedTank s)
    ∧ ∀ (body : List Byte) (u : TankNo) (d : TankDecl) (l : Nat) (q : Quality) (hi hihi : Bool) (s : State),
      s.TakesLevel body u d l q hi hihi → s.servingChan u = none →
      ∃ t : State, exec (.level .ship body) s = .next t.startSending ∧ LevelAnswered body u s t ∧ EndedKept s t
        ∧ t = { s with tanks := s.tanks.set u (t.tank u), trip := t.trip, portB := t.portB, portS := t.portS }
        ∧ t.trip.HornOnly { s.trip with cautions := t.trip.cautions }
        ∧ (t.tank u).shipHi = hi ∧ (t.tank u).shipHihi = hihi ∧ (t.tank u).declared = (s.tank u).declared
        ∧ (q = .good → l ≤ 30000 → (s.tank u).stepOk l = true →
            (t.tank u).window = (if (s.tank u).window.length < 8 then (s.tank u).window
                else (s.tank u).window.drop ((s.tank u).window.length - 7)) ++ [{ level := l, stamp := s.now }]
              ∧ (t.tank u).suspect = none ∧ (t.tank u).stale = false ∧ (t.tank u).stepRef = some l
              ∧ (t.tank u).staleTimer = some (s.expiry s.config.device.staleTime)
              ∧ (t.tank u).gaugeStep = ((s.tank u).gaugeStep && decide ((t.tank u).window.length ≠ 8))
              ∧ (∀ x, (t.tank u).lEff = some x →
                  (t.tank u).ownHi = decide (d.hHi ≤ x) ∧ (t.tank u).ownHihi = decide (d.hHihi ≤ x)))
        ∧ (q = .suspect ∨ 30000 < l ∨ (s.tank u).stepOk l = false →
            (t.tank u).window = [] ∧ (t.tank u).stale = false ∧ (t.tank u).stepRef = none ∧ (t.tank u).staleTimer = none
              ∧ (t.tank u).aboveTable = false ∧ (t.tank u).lEff = none ∧ (t.tank u).levelState = .suspect
              ∧ (t.tank u).ownHi = (s.tank u).ownHi ∧ (t.tank u).ownHihi = (s.tank u).ownHihi
              ∧ (t.tank u).suspect = some (if q = .suspect ∧ l ≤ 30000 then .ship else .watch)
              ∧ (t.tank u).gaugeStep = (if q = .good ∧ l ≤ 30000 then true else (s.tank u).gaugeStep))
    ∧ ∀ (body : List Byte) (u : TankNo) (d : TankDecl) (l : Nat) (q : Quality) (hi hihi : Bool) (s : State),
      s.TakesLevel body u d l q hi hihi → s.GrantsOk → s.TanksShared →
      let k := s.tankAfter u l q
      ∃ t : State, exec (.level .ship body) s = .next t.startSending ∧ LevelAnswered body u s t
        ∧ (t.tank u).shipHi = hi ∧ (t.tank u).shipHihi = hihi ∧ (t.tank u).declared = (s.tank u).declared
        ∧ (t.tank u).window = k.window ∧ (t.tank u).suspect = k.suspect ∧ (t.tank u).stale = k.stale
        ∧ (t.tank u).staleTimer = k.staleTimer ∧ (t.tank u).stepRef = k.stepRef ∧ (t.tank u).gaugeStep = k.gaugeStep
        ∧ ∀ c, s.activeChan u = some c → k.levelState.known = false → hi = false → (s.tank u).ownHi = false →
          (t.chan c).holds.blind = true ∧ (t.chan c).grant = 0
            ∧ ((s.chan c).command = (s.chan c).state.command → (t.chan c).command = (s.chan c).command)
            ∧ (t.chan c).state = (if (s.chan c).state = .flowing then .held else (s.chan c).state)
            ∧ (t.tank u).blindTimer = (if (s.chan c).holds.blind then (s.tank u).blindTimer
                else some (s.expiry s.config.device.blindLimit))

/-- The stale timer's expiry sets stale, keeps the window and the step reference, and stops the timer (R41). Where an ACTIVE entry names
the tank, its channel is held by BLIND and the tank's blind timer starts (R47): said whole where the header is not SERVING, and of a
FLOWING channel that it is HELD at grant 0 with its valve open. -/
def Obligations.StaleTimerExpiryMarksTheTank : Prop :=
  ∀ (u : TankNo) (x : Nat) (s : State), s.Ready → (s.tank u).staleTimer = some x → x ≤ s.now →
    (s.activeChan u = none →
        ∃ t : State, exec (.staleTimerExpiry u) s = .next t.startSending
          ∧ t = { s with tanks := s.tanks.set u { s.tank u with stale := true, staleTimer := none },
                         portB := t.portB, portS := t.portS }
          ∧ EndedKept s t ∧ (∀ q, (t.port q).line = (s.port q).line))
      ∧ ∀ c, s.activeChan u = some c → s.GrantsOk → s.TanksShared → (s.tank u).window ≠ [] → (s.chan c).holds.blind = false →
        (s.header.state ≠ .serving →
            ∃ t : State, exec (.staleTimerExpiry u) s = .next t.startSending
              ∧ t = { s with
                  tanks := s.tanks.set u { s.tank u with
                    stale := true, staleTimer := none, blindTimer := some (s.expiry s.config.device.blindLimit) }
                  channels := s.channels.set c { s.chan c with holds := { (s.chan c).holds with blind := true } }
                  portB := t.portB, portS := t.portS }
              ∧ EndedKept s t ∧ (∀ q, (t.port q).line = (s.port q).line))
          ∧ ((s.chan c).state = .flowing →
            ∃ t : State, exec (.staleTimerExpiry u) s = .next t.startSending ∧ t.given = s.given
              ∧ (t.chan c).state = .held ∧ (t.chan c).command = .toOpen ∧ (t.chan c).grant = 0
              ∧ (t.chan c).holds = { HoldSet.empty with blind := true } ∧ (t.chan c).meter.stallTimer = none
              ∧ t.tank u = { s.tank u with
                  stale := true, staleTimer := none, blindTimer := some (s.expiry s.config.device.blindLimit) })

/-- A reading of a served tank (R43 step 7, R53 to R66): with its channel's valve open or opening, the ACTIVE entry's margin is evaluated.
Q, A_close, V_now, V_hi, M, T, the computed stage and the meter margin are as the rules work them. The stage is kept or lowered; a fall
to SLUG with no slug in hand sizes one, or goes on to FINAL below 100 L; a fall to FINAL sets the end LEVEL_FINAL and closes the
channel, and a meter margin not above 0 the end ALLOTMENT. Figures and stage are exact where the header is not SERVING, or where the
stage does not fall and no BLIND hold lifts: elsewhere a regrant may bring a further evaluation. At a settling's end (R68) Q takes
the prospective rate, SETTLING leaves the set, where a settling slug's channel holds it (R67), and a slug is sized or the stage is
FINAL. Said where no HI assertion stands after it and it cannot bring a second strike. -/
def Obligations.ServedReadingEvaluatesTheMargin : Prop :=
  ∀ (body : List Byte) (u : TankNo) (d : TankDecl) (l : Nat) (q : Quality) (hi hihi : Bool) (c : Chan) (i : EntryId) (e : Entry)
    (a : Stage) (x vNow vHi : Nat) (s : State),
    s.TakesLevel body u d l q hi hihi → s.LeavesLevel u d l q hi x → s.Serves c u i e → s.GrantsOk → e.stage = some a →
    (s.tankAfter u l q).volume x = some vNow → (s.tankAfter u l q).volume d.hHi = some vHi →
    (e.startQuality ≠ some .steady ∨ e.strikes = 0) →
    let plain := max (s.chan c).grant (min (s.chan c).meter.rate 20000)
    let limit := min e.planRate (s.chanConfig c).hoseMaxRate
    let prospective := match a with
      | .full => limit
      | .topping | .slug => min limit d.toppingRate
      | .final => 0
    let ends := e.settling && (s.tankAfter u l q).window.length == 8
    let rate := if ends then max plain prospective else plain
    let aClose := (rate * (s.chanConfig c).strokeTime + 119) / 120
    let m : Int := (vHi : Int) - vNow - aClose - (s.chanConfig c).hoseDrain
    let mm : Int := ((e.allotment - e.delivered : Nat) : Int) - aClose
    let time := if m ≤ 0 then TimeToHigh.seconds 0 else if rate = 0 then .noFlow else .seconds (m.toNat * 60 / rate)
    let computed := if (d.toppingVolume : Int) < m then Stage.full else if (d.slugVolume : Int) < m then .topping
      else if 0 < m then .slug else .final
    let size := (min (d.slugVolume : Int) m).toNat / 10 * 10
    let figures : LevelHalf :=
      { levelState := (s.tankAfter u l q).levelState, lEff := x, vNow := vNow, vHi := vHi, m := m, t := time, computed := computed }
    (e.settling = false → ∃ (t : State) (f : Entry), exec (.level .ship body) s = .next t.startSending ∧ LevelAnswered body u s t
      ∧ t.entry i = some f ∧ f.delivered = e.delivered
      ∧ (∃ b, f.stage = some b ∧ a.rank ≤ b.rank ∧ computed.rank ≤ b.rank)
      ∧ (s.header.state ≠ .serving ∨ (computed.rank ≤ a.rank ∧ (s.chan c).holds.blind = false) →
          f.margin = some { evaluatedAt := s.now, q := rate, aClose := aClose, level := some figures, mm := mm }
            ∧ (t.chan c).highSoon = decide (m ≤ 0 ∨ (rate ≠ 0 ∧ m.toNat * 60 / rate ≤ 120))
            ∧ (computed.rank ≤ a.rank → f.stage = some a)
            ∧ (a.rank < computed.rank → computed = .topping → f.stage = some .topping)
            ∧ (a.rank < computed.rank → computed = .final → f.stage = some .final ∧ f.endPending = some .levelFinal)
            ∧ (a.rank < computed.rank → computed = .slug → e.slug.map SlugRecord.phase = some .idle →
                (size < 100 → f.stage = some .final ∧ f.endPending = some .levelFinal)
                  ∧ (100 ≤ size → f.stage = some .slug ∧ (0 < mm →
                      f.slug = some { phase := .delivering, size := some size, base := some e.delivered })))
            ∧ (a.rank < computed.rank → computed = .slug → e.slug.map SlugRecord.phase = some .delivering → f.stage = some .slug)
            ∧ (computed.rank ≤ a.rank → f.endPending = (if mm ≤ 0 then some .allotment else none))
            ∧ (computed.rank ≤ a.rank → 0 < mm → f.slug = e.slug)
            ∧ (f.endPending ≠ none → (t.chan c).state = .closing ∧ ∀ r, f.slug = some r → r.phase = .idle)))
      ∧ (ends = true → (s.chan c).holds.settling = true → (s.tankAfter u l q).levelState.settled = true → a ≠ .final → 0 < mm →
        ∃ (t : State) (f : Entry), exec (.level .ship body) s = .next t.startSending ∧ LevelAnswered body u s t
          ∧ t.entry i = some f ∧ (t.chan c).holds.settling = false ∧ (t.tank u).blindTimer = none
          ∧ (computed = .final ∨ size < 100 →
              f.stage = some .final ∧ f.endPending = some .levelFinal ∧ (t.chan c).state = .closing
                ∧ f.slug = some { phase := .idle, size := none, base := none })
          ∧ (computed ≠ .final → 100 ≤ size →
              f.stage = some (if a.rank ≤ computed.rank then computed else a) ∧ f.endPending = none
                ∧ f.slug = some { phase := .delivering, size := some size, base := some e.delivered }))

/-- A reading that leaves a served tank STEADY (R43 step 8, R122 to R126). An entry of a CONSERVATIVE start is rebased: start volume,
meter baseline and quality afresh, strikes 0, the record's origin REBASE and its figures absent. One of a STEADY start is compared:
the metered and the level volume since its baseline, the hose fill credit where that is the activation's, the difference, its
tolerance and the result; EXCESS counts a strike, the second being channel stop MISROUTE; WITHIN and GAIN return the strikes
to 0, and UNMETERED_GAIN is active just at GAIN. Said where no HI assertion stands after it. -/
def Obligations.SteadyReadingReconcilesOrRebases : Prop :=
  ∀ (body : List Byte) (u : TankNo) (d : TankDecl) (l : Nat) (q : Quality) (hi hihi : Bool) (c : Chan) (i : EntryId) (e : Entry)
    (x vNow : Nat) (s : State),
    s.TakesLevel body u d l q hi hihi → s.LeavesLevel u d l q hi x → s.Serves c u i e →
    (s.tankAfter u l q).levelState = .steady → (s.tankAfter u l q).volume x = some vNow →
    (e.startQuality = some .conservative →
      ∃ (t : State) (f : Entry), exec (.level .ship body) s = .next t.startSending ∧ LevelAnswered body u s t ∧ t.entry i = some f
        ∧ f.startVolume = some vNow ∧ f.startQuality = some .steady ∧ f.meterBaseline = some (s.chan c).meter.total
        ∧ f.strikes = 0 ∧ f.recon = some { origin := .rebase, figures := none } ∧ f.credit = e.credit
        ∧ f.baseline = e.baseline ∧ (t.chan c).meter.unmeteredGain = false ∧ (t.chan c).lastStop = (s.chan c).lastStop)
      ∧ ∀ (b : Baseline) (p v : Nat) (r : ReconRecord), e.startQuality = some .steady → e.baseline = some b →
        e.meterBaseline = some p → e.startVolume = some v → e.recon = some r →
        let dVm := ((s.chan c).meter.total - p) * 100 / b.kFactor
        let dVl : Int := (vNow : Int) - v
        let credit := if r.origin = .activation then e.credit else 0
        let diff : Int := (dVm : Int) - dVl - credit
        let tol := max s.config.device.reconFloor ((dVm + 19) / 20)
        let result := if (tol : Int) < diff then ReconResult.excess else if diff < -(tol : Int) then .gain else .within
        let figures : ReconFigures :=
          { evaluatedAt := s.now, dVm := dVm, dVl := dVl, credit := credit, e := diff, tol := tol, result := result }
        ∃ (t : State) (f : Entry), exec (.level .ship body) s = .next t.startSending ∧ LevelAnswered body u s t ∧ t.entry i = some f
          ∧ f.recon = some { origin := r.origin, figures := some figures }
          ∧ f.startVolume = e.startVolume ∧ f.meterBaseline = e.meterBaseline
          ∧ (result ≠ .excess → f.strikes = 0 ∧ (t.chan c).lastStop = (s.chan c).lastStop
              ∧ (t.chan c).meter.unmeteredGain = decide (result = .gain))
          ∧ (result = .excess → e.strikes = 0 → f.strikes = 1 ∧ (t.chan c).lastStop = (s.chan c).lastStop
              ∧ (t.chan c).meter.unmeteredGain = false)
          ∧ (result = .excess → 1 ≤ e.strikes → f.strikes = 2 ∧ f.state = .await ∧ StopTaken .misroute .watch (some u) c s t
              ∧ (t.chan c).meter.unmeteredGain = false)

/-- Every step keeps each tank's window and its marks: at most 8 readings, each within 30,000 mm; none while SUSPECT; the stale timer
running just while there are readings that are not stale (R34, R36, R38, R41, R42). -/
def Obligations.WindowsStayWithinTheirBounds : Prop := KeptByEveryStep fun s => ∀ u, (s.tank u).WindowOk

/-- The level state and effective level by the first row of R40 that applies. -/
def Obligations.LevelStateFollowsTheWindow : Prop :=
  ∀ k : Tank,
    let spread := greatest k.window - least k.window
    (k.suspect ≠ none → k.levelState = .suspect ∧ k.lEff = none)
      ∧ (k.suspect = none → k.window = [] → k.levelState = .cold ∧ k.lEff = none)
      ∧ (k.suspect = none → k.window ≠ [] → k.stale = true → k.levelState = .stale ∧ k.lEff = none)
      ∧ (k.suspect = none → k.window ≠ [] → k.stale = false →
        (k.window.length < 8 → k.levelState = .partFull ∧ k.lEff = some (greatest k.window))
          ∧ (k.window.length = 8 → spread ≤ k.sloshTolerance →
              k.levelState = .steady ∧ k.lEff = some ((k.window.map Reading.level).sum / 8)
                ∧ least k.window ≤ (k.window.map Reading.level).sum / 8
                ∧ (k.window.map Reading.level).sum / 8 ≤ greatest k.window)
          ∧ (k.window.length = 8 → k.sloshTolerance < spread →
              k.levelState = .sloshing ∧ k.lEff = some (greatest k.window)))
      ∧ (∀ r ∈ k.window, least k.window ≤ r.level ∧ r.level ≤ greatest k.window)
      ∧ (k.window ≠ [] → (∃ r ∈ k.window, r.level = greatest k.window) ∧ ∃ r ∈ k.window, r.level = least k.window)

/-- Every volume from a strapping table whose levels rise strictly and whose volumes do not fall lies between those of its first and last
points; at and between two neighbouring points it is the interpolation, truncated; and it does not fall with the level. A tank
that is not SEALED yields no volume, and a SEALED one yields those of its first N points (R29). -/
def Obligations.VolumesFollowTheTable : Prop :=
  (∀ (ps : List Point) (first last : Point), levelsRise ps = true → volumesHold ps = true → ps.head? = some first →
    ps.getLast? = some last →
    (∀ h, h < first.level → volumeAt h ps = some first.volume)
      ∧ (∀ h, last.level ≤ h → volumeAt h ps = some last.volume)
      ∧ (∀ (i h : Nat) (a b : Point), ps[i]? = some a → ps[i + 1]? = some b → a.level ≤ h → h < b.level →
          volumeAt h ps = some (a.volume + (h - a.level) * (b.volume - a.volume) / (b.level - a.level)))
      ∧ (∀ h v, volumeAt h ps = some v → first.volume ≤ v ∧ v ≤ last.volume)
      ∧ ∀ h h' v v', h ≤ h' → volumeAt h ps = some v → volumeAt h' ps = some v' → v ≤ v')
    ∧ ∀ (k : Tank) (h : Nat),
    ((∀ n, k.strap ≠ .sealed n) → k.volume h = none)
      ∧ ∀ n ps, k.strap = .sealed n → k.firstPoints n = some ps → k.volume h = volumeAt h ps

/-! ### The hose channels -/

/-- ARM, MASK and HOSE (R85, R92, R95): ARM takes a MASKED channel with its closed limit to IDLE, its strain judged, and a FAULT one that
is proven closed; MASK takes an IDLE channel, and a FAULT one proven closed, to MASKED, clearing its authorisation and its strain
watch; HOSE makes the hose DRAINED; each is refused STATE elsewhere. ARM is said where the channel holds no authorisation. -/
def Obligations.ArmMaskAndHoseByState : Prop :=
  ∀ (body : List Byte) (c : Chan) (s : State), s.Hears .barge →
    (decodeRequest .arm body = some (.arm c) →
        ((s.chan c).watched = true ∨ (s.chan c).state = .closing →
            Refuses (.arm .barge body) .barge .arm body .state s)
          ∧ ((s.chan c).state = .masked → (s.chan c).closedLimit = false →
            Refuses (.arm .barge body) .barge .arm body .state s)
          ∧ ((s.chan c).state = .fault → (s.chan c).provenClosed = false →
            Refuses (.arm .barge body) .barge .arm body .state s)
          ∧ ((s.chan c).state = .idle → Does (.arm .barge body) .barge .arm body (.done .nothing) [] s s)
          ∧ ((s.chan c).state = .masked → (s.chan c).closedLimit = true → (s.chan c).authorised = false →
            ∃ t : State, exec (.arm .barge body) s = .next t.startSending
              ∧ Answered .barge (bodyTag body) RequestKind.arm.code (.done .nothing) s t ∧ EndedKept s t
              ∧ t = { s with
                  channels := s.channels.set c { s.chan c with
                    state := .idle, command := .toClose
                    strain := decide ((s.chanConfig c).strainWarn ≤ (s.chan c).tension)
                    strainTimer := if (s.chanConfig c).strainTrip ≤ (s.chan c).tension
                      then some (s.expiry s.config.device.strainDwell) else none }
                  trip := t.trip, portB := t.portB, portS := t.portS }
              ∧ t.trip.HornOnly { s.trip with cautions := t.trip.cautions })
          ∧ ((s.chan c).state = .fault → (s.chan c).provenClosed = true → (s.chan c).authorised = false →
            ∃ t : State, exec (.arm .barge body) s = .next t.startSending
              ∧ Answered .barge (bodyTag body) RequestKind.arm.code (.done .nothing) s t ∧ EndedKept s t
              ∧ t = { s with
                  channels := s.channels.set c { s.chan c with state := .idle, command := .toClose }
                  portB := t.portB, portS := t.portS }))
      ∧ (decodeRequest .mask body = some (.mask c) →
        ((s.chan c).watched = true ∨ (s.chan c).state = .closing →
            Refuses (.mask .barge body) .barge .mask body .state s)
          ∧ ((s.chan c).state = .fault → (s.chan c).provenClosed = false →
            Refuses (.mask .barge body) .barge .mask body .state s)
          ∧ ((s.chan c).state = .idle ∨ ((s.chan c).state = .fault ∧ (s.chan c).provenClosed = true) →
            ∃ t : State, exec (.mask .barge body) s = .next t.startSending
              ∧ Answered .barge (bodyTag body) RequestKind.mask.code (.done .nothing) s t ∧ EndedKept s t
              ∧ t = { s with
                  channels := s.channels.set c { s.chan c with
                    state := .masked, command := .toClose, authorised := false, strain := false, strainTimer := none }
                  trip := t.trip, portB := t.portB, portS := t.portS }
              ∧ t.trip.HornOnly { s.trip with cautions := t.trip.cautions }))
      ∧ (decodeRequest .hose body = some (.hose c) →
        (((s.chan c).state = .idle ∨ (s.chan c).state = .masked) → (s.chan c).provenClosed = true →
            ∃ u, u = { s with channels := s.channels.set c { s.chan c with hose := .drained } }
              ∧ Does (.hose .barge body) .barge .hose body (.done .nothing)
                  (if (s.chan c).hose = .drained then [] else [.channel .hose (u.channelView c) none s.now]) s u)
          ∧ (((s.chan c).state ≠ .idle ∧ (s.chan c).state ≠ .masked) ∨ (s.chan c).provenClosed = false →
            Refuses (.hose .barge body) .barge .hose body .state s))

/-- PAUSE and CONTINUE (R94, R76): a PAUSE already held changes nothing; a CONTINUE of a pause not held is refused NOT_HELD; while the
header is not SERVING a PAUSE adds its own side's reason and nothing else, and a CONTINUE removes it, leaving NO_GRANT where a
HELD channel's set would be empty; and a PAUSE makes a FLOWING channel HELD with its valve open and its grant 0. Pauses outlive
stops, shutdowns, silences and INIT: a pause leaves a channel's set only at its own side's CONTINUE, at a request by which the part
returns to NORMAL (the adoption of a CLEAR), or at power-on; a byte may complete a frame of those kinds. -/
def Obligations.PauseAndContinue : Prop :=
  (∀ (p : Side) (body : List Byte) (c : Chan) (s : State), s.Hears p → s.GrantsOk →
    (decodeRequest .pause body = some (.pause c) →
        ((s.chan c).holds.has (pauseOf p) = true → Does (.pause p body) p .pause body (.done .nothing) [] s s)
          ∧ (s.header.state ≠ .serving → (s.chan c).holds.has (pauseOf p) = false →
            ∃ u, u = { s with channels := s.channels.set c { s.chan c with holds := (s.chan c).holds.put (pauseOf p) true } }
              ∧ Does (.pause p body) p .pause body (.done .nothing) [.channel .holds (u.channelView c) none s.now] s u)
          ∧ ((s.chan c).state = .flowing →
            ∃ t : State, exec (.pause p body) s = .next t.startSending
              ∧ Answered p (bodyTag body) RequestKind.pause.code (.done .nothing) s t
              ∧ (t.chan c).state = .held ∧ (t.chan c).command = .toOpen ∧ (t.chan c).grant = 0
              ∧ (t.chan c).holds.has (pauseOf p) = true ∧ (t.chan c).meter.stallTimer = none
              ∧ (t.chan c).authorised = (s.chan c).authorised ∧ (t.chan c).lastStop = (s.chan c).lastStop))
      ∧ (decodeRequest .continue_ body = some (.continue_ c) →
        ((s.chan c).holds.has (pauseOf p) = false → Refuses (.continue_ p body) p .continue_ body .notHeld s)
          ∧ (s.header.state ≠ .serving → (s.chan c).holds.has (pauseOf p) = true →
            ∃ u, u = { s with channels := s.channels.set c { s.chan c with
                holds :=
                  let h := (s.chan c).holds.put (pauseOf p) false
                  if (s.chan c).state = .held ∧ h = HoldSet.empty then h.put .noGrant true else h } }
              ∧ Does (.continue_ p body) p .continue_ body (.done .nothing)
                  [.channel .holds (u.channelView c) none s.now] s u)))
    ∧ ∀ (i : Instr) (x : Side) (c : Chan) (s t : State), i.wellFormed = true → exec i s = .next t → s.trip.Bounded →
      (s.chan c).holds.has (pauseOf x) = true →
      (t.chan c).holds.has (pauseOf x) = true
        ∨ (∃ b, i = .continue_ x b) ∨ (∃ b, i = .byteReceived x b)
        ∨ ((∃ p, (∃ b, i = .propose p b ∨ i = .endorse p b) ∨ ∃ b, i = .byteReceived p b)
            ∧ s.trip.state ≠ .normal ∧ t.trip.state = .normal)
        ∨ ∃ f, i = .powerOn f

/-- The limit switches (R75, R80, R83, R84), the part NORMAL: CLOSING ends in IDLE at the closed limit; an IDLE channel that loses it goes
CLOSING and a MASKED one starts its stroke timer; OPENING ends at the open limit, HELD, with the IDLE header priming; the open
limit lost in FLOWING or HELD is a valve fault; and the other losses are only recorded. In any trip state, a CLOSING channel's
closed limit applies an end pending on its current entry (R10, R14): the entry is terminal by its reason, the next is AWAIT, and the
ended flags are set on both ports; and a TRIPPING part is TRIPPED by it just where every other channel is settled, proven closed
or with its unproven mark set (R148). -/
def Obligations.LimitSwitchesMoveTheChannel : Prop :=
  (∀ (c : Chan) (s : State), s.Ready → s.trip.state = .normal →
    ((s.chan c).state = .closing → (s.chan c).closedLimit = false → (s.chan c).openLimit = false →
        (s.chan c).authorised = false → (∀ j e, s.current c = some (j, e) → e.endPending = none) →
        ∃ u, u = { s with channels := s.channels.set c { s.chan c with
            closedLimit := true, state := .idle, command := .toClose, strokeTimer := none } }
          ∧ exec (.closedLimitReached c) s = .next (raise (.channel .state (u.channelView c) none s.now) u).startSending)
      ∧ ((s.chan c).state = .idle → (s.chan c).closedLimit = true →
        ∃ u, u = { s with channels := s.channels.set c { s.chan c with
            closedLimit := false, state := .closing, command := .toClose
            strokeTimer := some (s.expiry (strokeTimeout (s.chanConfig c).strokeTime)) } }
          ∧ exec (.closedLimitLost c) s = .next (raise (.channel .state (u.channelView c) none s.now) u).startSending)
      ∧ ((s.chan c).state = .masked → (s.chan c).closedLimit = true →
        exec (.closedLimitLost c) s = .next ({ s with channels := s.channels.set c { s.chan c with
          closedLimit := false
          strokeTimer := some (s.expiry (strokeTimeout (s.chanConfig c).strokeTime)) } } : State).startSending)
      ∧ ((s.chan c).state = .opening → (s.chan c).closedLimit = true →
        exec (.closedLimitLost c) s = .next ({ s with channels := s.channels.set c { s.chan c with closedLimit := false } } : State).startSending)
      ∧ ((s.chan c).state = .opening → (s.chan c).openLimit = false → (s.chan c).closedLimit = false →
        s.header.state = .idle → s.header.dp = false → s.GrantsOk → s.anyCalling = false →
        ∃ t : State, exec (.openLimitReached c) s = .next t.startSending
          ∧ t = { s with
              channels := s.channels.set c { s.chan c with
                openLimit := true, state := .held, command := .toOpen, strokeTimer := none, openingStarted := none
                holds := { (s.chan c).holds with noGrant := true, headerWait := true } }
              header := { s.header with
                state := .priming, returnState := none, waitTimer := none
                primeTimer := some (s.expiry s.config.header.primeTime) }
              portB := t.portB, portS := t.portS }
          ∧ EndedKept s t ∧ ∀ q, (t.port q).line = (s.port q).line)
      ∧ ((s.chan c).calling = true → (s.chan c).openLimit = true →
        ∃ t : State, exec (.openLimitLost c) s = .next t.startSending ∧ StopTaken .valveStuck .watch none c s t
          ∧ (t.chan c).state = .fault ∧ (t.chan c).openLimit = false)
      ∧ ((s.chan c).state = .closing ∨ (s.chan c).state = .masked → (s.chan c).openLimit = true →
        exec (.openLimitLost c) s
          = .next ({ s with channels := s.channels.set c { s.chan c with openLimit := false } } : State).startSending))
    ∧ ∀ (c : Chan) (s : State), s.Ready → (s.chan c).state = .closing → (s.chan c).closedLimit = false →
      (s.chan c).openLimit = false →
      (∀ i e r, s.PlanOk → s.current c = some (i, e) → e.chan = c → e.endPending = some r →
          ∃ t : State, exec (.closedLimitReached c) s = .next t.startSending
            ∧ t.entry i = some { e with
                state := match r with
                  | .allotment => .done
                  | .levelFinal | .levelHi => .short
                  | .shipEnd | .cancel => if 0 < e.delivered then .short else .cancelled
                endReason := some r, endPending := none, ended := some s.now }
            ∧ (∀ j f, j ≠ i → s.entry j = some f → f.chan = c →
                t.entry j = some (if t.currentId c = some j then { f with state := .await, lineup := .notReady } else f))
            ∧ (∀ q, (t.port q).ended.get c = true)
            ∧ (t.chan c).state = .idle ∧ (t.chan c).closedLimit = true ∧ (t.chan c).strokeTimer = none
            ∧ (t.chan c).authorised = ((s.chan c).authorised && (t.currentId c).isSome))
        ∧ (s.trip.state = .tripping →
          ∃ t : State, exec (.closedLimitReached c) s = .next t.startSending ∧ (t.chan c).state = .idle
            ∧ t.trip.firstOut = s.trip.firstOut ∧ t.trip.later = s.trip.later ∧ t.trip.unproven = s.trip.unproven
            ∧ (t.trip.state = .tripping ∨ t.trip.state = .tripped)
            ∧ (t.trip.state = .tripped
                ↔ ∀ d, d ≠ c → (s.chan d).provenClosed = true ∨ s.trip.unproven.get d = true))

/-- The field watches (R91, R92, R93). A pressure at or above the max starts the timer of a running watch as it reaches it, and one below
stops it; a tension moves the STRAIN caution and the dwell timer of a channel that is not MASKED; the source-low switch is
recorded, holds a channel whose watch runs, and on clearing stops the timer. Said where the header is not SERVING. Each event
reads as its name says (log 28). -/
def Obligations.FieldWatchesFollowTheirInputs : Prop :=
  ∀ (c : Chan) (v : Nat) (s : State), s.Ready →
    ((s.chanConfig c).pressureMax ≤ v →
        exec (.pressureReachesMax c v) s = .next ({ s with channels := s.channels.set c { s.chan c with
          pressure := v
          pressureTimer :=
            if (s.chan c).pressure < (s.chanConfig c).pressureMax ∧ (s.chan c).watched = true
            then some (s.expiry 2) else (s.chan c).pressureTimer } } : State).startSending)
      ∧ (v < (s.chanConfig c).pressureMax →
        exec (.pressureFallsBelowMax c v) s
          = .next ({ s with channels := s.channels.set c { s.chan c with pressure := v, pressureTimer := none } } : State).startSending)
      ∧ ((s.chan c).state = .masked → ∀ i,
        (i = .tensionReachesStrainWarn c v ∧ (s.chanConfig c).strainWarn ≤ v)
          ∨ (i = .tensionFallsBelowStrainWarn c v ∧ v < (s.chanConfig c).strainWarn)
          ∨ (i = .tensionReachesStrainTrip c v ∧ (s.chanConfig c).strainTrip ≤ v)
          ∨ (i = .tensionFallsBelowStrainTrip c v ∧ v < (s.chanConfig c).strainTrip) →
        exec i s = .next ({ s with channels := s.channels.set c { s.chan c with tension := v } } : State).startSending)
      ∧ ((s.chan c).state ≠ .masked → ∀ i,
        (i = .tensionReachesStrainWarn c v ∧ (s.chanConfig c).strainWarn ≤ v)
          ∨ (i = .tensionFallsBelowStrainWarn c v ∧ v < (s.chanConfig c).strainWarn)
          ∨ (i = .tensionReachesStrainTrip c v ∧ (s.chanConfig c).strainTrip ≤ v)
          ∨ (i = .tensionFallsBelowStrainTrip c v ∧ v < (s.chanConfig c).strainTrip) →
        ∃ t : State, exec i s = .next t.startSending
          ∧ t = { s with
              channels := s.channels.set c { s.chan c with
                tension := v, strain := decide ((s.chanConfig c).strainWarn ≤ v)
                strainTimer :=
                  if v < (s.chanConfig c).strainTrip then none
                  else if (s.chan c).tension < (s.chanConfig c).strainTrip
                  then some (s.expiry s.config.device.strainDwell) else (s.chan c).strainTimer }
              trip := t.trip, portB := t.portB, portS := t.portS }
          ∧ t.trip.HornOnly { s.trip with cautions := t.trip.cautions }
          ∧ ((s.chan c).strain = decide ((s.chanConfig c).strainWarn ≤ v) → t.trip = s.trip))
      ∧ ((s.chan c).sourceLow = false → (s.chan c).watched = false →
        exec (.sourceLowAsserts c) s = .next ({ s with channels := s.channels.set c { s.chan c with sourceLow := true } } : State).startSending)
      ∧ (s.GrantsOk → s.header.state ≠ .serving →
        ((s.chan c).sourceLow = false → (s.chan c).watched = true → (s.chan c).holds.sourceLow = false →
            ∃ u, u = { s with channels := s.channels.set c { s.chan c with
                sourceLow := true, holds := { (s.chan c).holds with sourceLow := true }
                sourceLowTimer := some (s.expiry s.config.device.sourceLowLimit) } }
              ∧ exec (.sourceLowAsserts c) s = .next (raise (.channel .holds (u.channelView c) none s.now) u).startSending)
          ∧ ((s.chan c).sourceLow = true → (s.chan c).holds.sourceLow = true → (s.chan c).holds.noGrant = true →
            ∃ u, u = { s with channels := s.channels.set c { s.chan c with
                sourceLow := false, holds := { (s.chan c).holds with sourceLow := false }, sourceLowTimer := none } }
              ∧ exec (.sourceLowClears c) s = .next (raise (.channel .holds (u.channelView c) none s.now) u).startSending))

/-- The valve command output is OPEN in OPENING, FLOWING and HELD, and CLOSE in every other state (R75). -/
def Obligations.ValveCommandsFollowTheStates : Prop := KeptByEveryStep State.CommandsFollow

/-! ### Configuration requests, the header and Metering -/

/-- CHCONFIG, HEADERCONFIG and PRIORITY (R73, R98, R112): the refusals in their order; accepted, the fields are replaced; a changed K-factor
zeroes the window count (R119), and a changed group moves the channel between the lists (R113). -/
def Obligations.ConfigurationRequests : Prop :=
  ∀ (body : List Byte) (s : State), s.Hears .barge →
    (∀ (c : Chan) (k : ChannelConfig), decodeRequest .chconfig body = some (.chconfig c k) →
        (k.ok = false → Refuses (.chconfig .barge body) .barge .chconfig body .range s)
          ∧ (k.ok = true → (s.chan c).state ≠ .masked → Refuses (.chconfig .barge body) .barge .chconfig body .inUse s)
          ∧ (k.ok = true → (s.chan c).state = .masked → k.grade ≠ (s.chanConfig c).grade → s.currentId c ≠ none →
              Refuses (.chconfig .barge body) .barge .chconfig body .inUse s)
          ∧ (k.ok = true → (s.chan c).state = .masked → (k.grade = (s.chanConfig c).grade ∨ s.current c = none) →
              ∃ t : State, exec (.chconfig .barge body) s = .next t.startSending
                ∧ Answered .barge (bodyTag body) RequestKind.chconfig.code (.done .nothing) s t ∧ EndedKept s t
                ∧ t = { s with
                    config := { s.config with channels := s.config.channels.set c k }
                    channels := s.channels.set c { s.chan c with meter := { (s.chan c).meter with
                      windowCount := if (s.chanConfig c).kFactor = k.kFactor then (s.chan c).meter.windowCount else 0 } }
                    header := t.header, portB := t.portB, portS := t.portS }
                ∧ t.header = { s.header with high := t.header.high, low := t.header.low }
                ∧ (k.group = (s.chanConfig c).group → t.header = s.header)
                ∧ (k.group ≠ (s.chanConfig c).group → k.group = .high →
                    t.header.high = s.header.high.filter (· ≠ .chan c) ++ [.chan c]
                      ∧ t.header.low = s.header.low.filter (· ≠ c))
                ∧ (k.group ≠ (s.chanConfig c).group → k.group = .low →
                    t.header.high = s.header.high.filter (· ≠ .chan c)
                      ∧ t.header.low = s.header.low.filter (· ≠ c) ++ [c])))
      ∧ (∀ (h : HeaderConfig) (d : DeviceConfig), decodeRequest .headerconfig body = some (.headerconfig h d) →
        (h.ok = false ∨ d.ok = false → Refuses (.headerconfig .barge body) .barge .headerconfig body .range s)
          ∧ (h.ok = true → d.ok = true → s.header.state ≠ .idle →
              Refuses (.headerconfig .barge body) .barge .headerconfig body .inUse s)
          ∧ (h.ok = true → d.ok = true → s.header.state = .idle →
              ∃ u, u = { s with config := { s.config with header := h, device := d } }
                ∧ Does (.headerconfig .barge body) .barge .headerconfig body (.done .nothing)
                    [.header .config u.headerView s.now] s u))
      ∧ (∀ y : PriorityPolicy, decodeRequest .priority body = some (.priority y) →
        (s.anyCalling = true → Refuses (.priority .barge body) .barge .priority body .inUse s)
          ∧ (s.anyCalling = false → s.GrantsOk →
              ∃ u, u = { s with config := { s.config with priority := y } }
                ∧ Does (.priority .barge body) .barge .priority body (.done .nothing)
                    [.header .priority u.headerView s.now] s u))

/-- The strainer dp (R105): asserted in IDLE and TRIPPED it is only recorded; in PRIMING, SERVING and STANDBY the header goes WAITING with
that return state, the wait timer started and every grant 0; clearing outside WAITING it is only recorded, and in WAITING the
header goes where the table of R105 says. A SERVING whose callers the regrant's evaluations all close is left by R104. -/
def Obligations.StrainerDpSuspendsAndResumes : Prop :=
  ∀ s : State, s.Ready → s.GrantsOk → s.header.TimersOk →
    (s.header.dp = false →
        (s.header.state = .idle ∨ s.header.state = .tripped ∨ s.header.state = .waiting →
            exec .strainerDpAsserts s = .next ({ s with header := { s.header with dp := true } } : State).startSending)
          ∧ (s.header.state = .priming ∨ s.header.state = .serving ∨ s.header.state = .standby →
            ∃ t : State, exec .strainerDpAsserts s = .next t.startSending
              ∧ t.header = { s.header with
                  dp := true, state := .waiting, returnState := some s.header.state, primeTimer := none
                  waitTimer := some (s.expiry s.config.header.waitLimit) }
              ∧ (∀ c, (t.chan c).grant = 0 ∧ ((s.chan c).calling = true →
                    (t.chan c).state = .held ∧ (t.chan c).holds.headerWait = true)
                  ∧ ((s.chan c).calling = false → t.chan c = s.chan c))
              ∧ t.plan = s.plan ∧ t.trip = s.trip ∧ t.queue = s.queue))
      ∧ (s.header.dp = true →
        (s.header.state ≠ .waiting →
            exec .strainerDpClears s = .next ({ s with header := { s.header with dp := false } } : State).startSending)
          ∧ (s.header.state = .waiting → s.anyCalling = false →
            ∃ t : State, exec .strainerDpClears s = .next t.startSending
              ∧ t.header = { s.header with
                  dp := false, returnState := none, waitTimer := none, primeTimer := none
                  state :=
                    if s.header.returnState ≠ some .priming ∧ s.header.pumpRunning = true
                      ∧ s.config.header.policy = .hold then .standby else .idle }
              ∧ t.channels = s.channels ∧ t.plan = s.plan ∧ t.trip = s.trip)
          ∧ (s.header.state = .waiting → s.anyCalling = true →
              (s.header.returnState = some .priming ∨ s.header.pumpRunning = false) →
            ∃ t : State, exec .strainerDpClears s = .next t.startSending
              ∧ t.header = { s.header with
                  dp := false, state := .priming, returnState := none, waitTimer := none
                  primeTimer := some (s.expiry s.config.header.primeTime) }
              ∧ (s.header.returnState ≠ some .priming →
                  ∀ c, (t.chan c).calling = true → (t.chan c).holds.noPump = true ∧ (t.chan c).holds.headerWait = true))
          ∧ (s.header.state = .waiting → s.anyCalling = true → s.header.returnState ≠ some .priming →
              s.header.pumpRunning = true →
            ∃ t : State, exec .strainerDpClears s = .next t.startSending ∧ t.header.dp = false ∧ t.header.waitTimer = none
              ∧ t.header.returnState = none
              ∧ (t.header.state = .serving
                ∨ (t.anyCalling = false ∧ t.header.state = (if s.config.header.policy = .hold then .standby else .idle)))
              ∧ ∀ c, (t.chan c).calling = true → (t.chan c).holds.headerWait = false ∧ (t.chan c).holds.noPump = false))

/-- The pump (R102, R103): the prime timer's expiry with the pump running takes the header to SERVING (or, its callers all closed by the
evaluations that follow, where R104 says); lost in SERVING the pump is primed afresh with every grant 0; lost in STANDBY the
header goes IDLE; lost elsewhere, and returning, it is only recorded. -/
def Obligations.PumpPrimesAndFails : Prop :=
  ∀ s : State, s.Ready → s.GrantsOk → s.header.TimersOk →
    (∀ x, s.header.primeTimer = some x → x ≤ s.now → s.header.pumpRunning = true → s.anyCalling = true →
        ∃ t : State, exec .primeTimerExpiry s = .next t.startSending ∧ t.header.primeTimer = none
          ∧ (t.header.state = .serving
            ∨ (t.anyCalling = false ∧ t.header.state = (if s.config.header.policy = .hold then .standby else .idle)))
          ∧ ∀ c, (t.chan c).calling = true → (t.chan c).holds.headerWait = false ∧ (t.chan c).holds.noPump = false)
      ∧ (s.header.pumpRunning = true → s.header.state = .serving → s.header.dp = false → s.anyCalling = true →
        ∃ t : State, exec .pumpRunningLost s = .next t.startSending
          ∧ t.header = { s.header with
              pumpRunning := false, state := .priming, primeTimer := some (s.expiry s.config.header.primeTime) }
          ∧ (∀ c, (t.chan c).grant = 0 ∧ ((s.chan c).calling = true →
                (t.chan c).state = .held ∧ (t.chan c).holds.noPump = true ∧ (t.chan c).holds.headerWait = true)
              ∧ ((s.chan c).calling = false → t.chan c = s.chan c))
          ∧ t.plan = s.plan ∧ t.trip = s.trip)
      ∧ (s.header.pumpRunning = true → s.header.state = .standby →
        ∃ t : State, exec .pumpRunningLost s = .next t.startSending
          ∧ t = { s with header := { s.header with pumpRunning := false, state := .idle }, portB := t.portB,
                         portS := t.portS })
      ∧ (s.header.pumpRunning = true → s.header.state ≠ .serving → s.header.state ≠ .standby →
        exec .pumpRunningLost s = .next ({ s with header := { s.header with pumpRunning := false } } : State).startSending)
      ∧ exec .pumpRunningReturns s = .next ({ s with header := { s.header with pumpRunning := true } } : State).startSending

/-- A pulse (R116, R117): on a saturated channel it changes nothing; else the total and the window count rise by 1, saturated is set just
when the total reaches its limit, the current entry's delivered volume is worked from the new total, and no other input or count
changes. A refresh whose time has come (R119) sets the measured rate from the window, empties it, and moves the next refresh 10 s on. A
pulse that carries a slug to its size ends it (R67): the slug is settling, the channel held by SETTLING and the tank's window flushed. A refresh evaluates the ACTIVE entry's margin (R53 to R56, R60): Q from the
grant and the new rate, A_close, the meter margin, and where that is not above 0 the end ALLOTMENT with a close; said where the level
half does not run, its figures then staying. -/
def Obligations.PulsesAndRefreshesAreCounted : Prop :=
  ∀ (c : Chan) (s : State), s.Ready →
    ((s.chan c).meter.saturated = true → exec (.meterPulse c) s = .next s.startSending)
      ∧ ((s.chan c).meter.saturated = false →
        ∃ t : State, exec (.meterPulse c) s = .next t.startSending
          ∧ t.given = { s.given with counts := fun d =>
              if d = c then { (s.chan c).meter.counts with
                total := (s.chan c).meter.total + 1, windowCount := (s.chan c).meter.windowCount + 1
                saturated := decide (4294967295 ≤ (s.chan c).meter.total + 1) }
              else (s.chan d).meter.counts }
          ∧ (∀ i e b, s.current c = some (i, e) → e.baseline = some b →
              ∃ f, t.entry i = some f
                ∧ f.delivered = ((s.chan c).meter.total + 1 - b.total) * 100 / b.kFactor)
          ∧ (∀ i e, s.entry i = some e → e.chan ≠ c → ∃ f, t.entry i = some f ∧ f.delivered = e.delivered))
      ∧ ((s.chan c).meter.nextRefresh ≤ s.now → (s.chan c).meter.nextRefresh + 10 < 4294967296 →
        ∃ t : State, exec (.rateWindowRefresh c) s = .next t.startSending
          ∧ t.given = { s.given with counts := fun d =>
              if d = c then { (s.chan c).meter.counts with
                rate := (s.chan c).meter.windowCount * 100 / (s.chanConfig c).kFactor * 6, windowCount := 0
                nextRefresh := (s.chan c).meter.nextRefresh + 10 }
              else (s.chan d).meter.counts })
      ∧ (∀ i e b size base, (s.chan c).meter.saturated = false → s.activeEntry c = some (i, e) → e.chan = c →
          e.baseline = some b → e.endPending = none →
          e.slug = some { phase := .delivering, size := some size, base := some base } →
          let n := ((s.chan c).meter.total + 1 - b.total) * 100 / b.kFactor
          base + size ≤ n → n < e.allotment → (∀ r, e.margin = some r → r.aClose < e.allotment - n) → s.GrantsOk →
          s.activeChan e.tank = some c →
        ∃ (t : State) (f : Entry), exec (.meterPulse c) s = .next t.startSending ∧ t.entry i = some f
          ∧ f.slug = some { phase := .settling, size := some size, base := some base } ∧ f.endPending = none
          ∧ f.stage = e.stage ∧ f.state = .active
          ∧ (t.chan c).holds.settling = true ∧ (t.chan c).holds.blind = true ∧ (t.chan c).grant = 0
          ∧ (t.chan c).state = (if (s.chan c).state = .flowing then .held else (s.chan c).state)
          ∧ (t.tank e.tank).window = [] ∧ (t.tank e.tank).stale = false ∧ (t.tank e.tank).staleTimer = none
          ∧ (t.tank e.tank).suspect = (s.tank e.tank).suspect ∧ (t.tank e.tank).stepRef = (s.tank e.tank).stepRef)
      ∧ ∀ i e, s.activeEntry c = some (i, e) → e.chan = c → (s.chan c).meter.nextRefresh ≤ s.now →
          (e.settling = true ∨ (s.tank e.tank).lEff = none) → (s.chan c).watched = true → e.endPending = none →
          let rate := (s.chan c).meter.windowCount * 100 / (s.chanConfig c).kFactor * 6
          let q := max (s.chan c).grant (min rate 20000)
          let aClose := (q * (s.chanConfig c).strokeTime + 119) / 120
          let mm : Int := ((e.allotment - e.delivered : Nat) : Int) - aClose
        ∃ (t : State) (f : Entry), exec (.rateWindowRefresh c) s = .next t.startSending ∧ t.entry i = some f
          ∧ f.margin = some { evaluatedAt := s.now, q := q, aClose := aClose, level := e.margin.bind MarginRecord.level, mm := mm }
          ∧ f.stage = e.stage ∧ f.state = .active ∧ f.endPending = (if mm ≤ 0 then some .allotment else none)
          ∧ (mm ≤ 0 → (t.chan c).state = .closing)

/-- The pulse total does not pass its limit, and saturated is set just while it stands there (R115, R117). -/
def Obligations.PulseTotalsStopAtTheirLimit : Prop := KeptByEveryStep State.MetersOk

/-- The sum of all channel grants never exceeds the header capacity, every grant is 0 whenever the header is not SERVING, and a channel
flows just while it holds a grant (R76, R110). -/
def Obligations.GrantsNeverExceedTheCapacity : Prop := KeptByEveryStep State.GrantsOk

/-- A regrant (R110, R112, R113). Step 3, for any channels in any order: each gets one grant; a grant above 0 is at least the minimum flow
and at most the request; the sum stays within the capacity left; the first in order is given min(r, left) where that reaches its
minimum flow; and one that does not takes nothing from those after it. Outside SERVING every new grant is 0; in SERVING a locked-in
channel keeps min(previous grant, r), or 0 below its minimum flow, and the others share what that leaves in the order of R112: by
number, or the HIGH list with the LOW list at the place of its token. A regrant gives each FLOWING or HELD channel its new grant:
FLOWING above 0, with NO_GRANT off, and at 0 HELD (R111). An end at DONE or SHORT sends a channel to the tail of its list, and with a
LOW one the token (R113). -/
def Obligations.SharesStayWithinTheCapacityLeft : Prop :=
  (∀ (left : Nat) (asks : List Ask),
    (shareOut left asks).map Prod.fst = asks.map Ask.chan
      ∧ ((shareOut left asks).map Prod.snd).sum ≤ left
      ∧ (∀ (i : Nat) (a : Ask) (g : Chan × Nat), asks[i]? = some a → (shareOut left asks)[i]? = some g →
          g.2 = 0 ∨ (a.minFlow ≤ g.2 ∧ g.2 ≤ a.r))
      ∧ ∀ a rest, asks = a :: rest →
        (a.minFlow ≤ min a.r left →
            shareOut left asks = (a.chan, min a.r left) :: shareOut (left - min a.r left) rest)
          ∧ (min a.r left < a.minFlow → shareOut left asks = (a.chan, 0) :: shareOut left rest))
    ∧ (∀ (c : Chan) (s : State),
      let keep := fun d => if min (s.chan d).grant (s.request d) < (s.chanConfig d).minFlow then 0
        else min (s.chan d).grant (s.request d)
      let order : List Chan := match s.config.priority with
        | .fixed => [0, 1, 2, 3]
        | .grouped => s.header.high.flatMap fun
            | .chan d => [d]
            | .lowToken => s.header.low
      let left := s.config.header.capacity - ((chans.filter s.lockedIn).map keep).sum
      let asks := (order.filter fun d => !s.lockedIn d && decide (0 < s.request d)).map fun d =>
        { chan := d, r := s.request d, minFlow := (s.chanConfig d).minFlow : Ask }
      (s.header.state ≠ .serving → s.newGrant c = 0)
        ∧ (s.header.state = .serving → s.lockedIn c = true → s.newGrant c = keep c)
        ∧ (s.header.state = .serving → s.lockedIn c = false → order.Nodup →
            (∀ g, (c, g) ∈ shareOut left asks → s.newGrant c = g)
              ∧ ((∀ g, (c, g) ∉ shareOut left asks) → s.newGrant c = 0)))
    ∧ (∀ (z : Bool) (c : Chan) (s : State), (s.chan c).calling = true → (s.chan c).FlowsByGrant →
      s.chan c = { s.chan c with command := .toOpen } →
      ((regrant z s).chan c).grant = s.newGrant c
        ∧ (0 < s.newGrant c → ((regrant z s).chan c).state = .flowing ∧ ((regrant z s).chan c).holds.noGrant = false)
        ∧ (s.newGrant c = 0 → ((regrant z s).chan c).state = .held ∧ ((regrant z s).chan c).holds ≠ HoldSet.empty
            ∧ ((s.chan c).state = .flowing → ((regrant z s).chan c).holds.noGrant = true)))
    ∧ ∀ (c : Chan) (s : State),
      (.chan c ∈ s.header.high → c ∉ s.header.low →
          (rotate c s).header = { s.header with high := s.header.high.filter (· ≠ .chan c) ++ [.chan c] })
        ∧ (c ∈ s.header.low → .lowToken ∈ s.header.high →
          (rotate c s).header = { s.header with
            high := s.header.high.filter (· ≠ .lowToken) ++ [.lowToken], low := s.header.low.filter (· ≠ c) ++ [c] })
end

