-- ==== Sys2Proof/Laws/State.lean ====
section
/-! SUPPORT. What each accessor reads after each write of the state: one lemma per accessor and write. -/

namespace Sys2Proof.Machine

/-! ### Reading what a write wrote -/

@[simp] theorem chan_setChan (s : State) (c d : Chan) (k : Channel) :
    (s.setChan c k).chan d = if c = d then k else s.chan d := by
  simp only [State.chan, State.setChan, Vector.get_eq_getElem, Vector.getElem_set, Fin.ext_iff]

@[simp] theorem tank_setTank (s : State) (t u : TankNo) (k : Tank) :
    (s.setTank t k).tank u = if t = u then k else s.tank u := by
  simp only [State.tank, State.setTank, Vector.get_eq_getElem, Vector.getElem_set, Fin.ext_iff]

@[simp] theorem entry_setEntry (s : State) (i j : EntryId) (e : Option Entry) :
    (s.setEntry i e).entry j = if i = j then e else s.entry j := by
  simp only [State.entry, State.setEntry, Vector.get_eq_getElem, Vector.getElem_set, Fin.ext_iff]

@[simp] theorem port_setPort (s : State) (p q : Side) (x : Port) :
    (s.setPort p x).port q = if p = q then x else s.port q := by
  cases p <;> cases q <;> rfl

@[simp] theorem chan_modChan (s : State) (c d : Chan) (f : Channel → Channel) :
    (s.modChan c f).chan d = if c = d then f (s.chan c) else s.chan d := by simp [State.modChan]

@[simp] theorem tank_modTank (s : State) (t u : TankNo) (f : Tank → Tank) :
    (s.modTank t f).tank u = if t = u then f (s.tank t) else s.tank u := by simp [State.modTank]

@[simp] theorem entry_modEntry (s : State) (i j : EntryId) (f : Entry → Entry) :
    (s.modEntry i f).entry j = if i = j then (s.entry i).map f else s.entry j := by simp [State.modEntry]

@[simp] theorem chan_modMeter (s : State) (c d : Chan) (f : Meter → Meter) :
    (s.modMeter c f).chan d = if c = d then { s.chan c with meter := f (s.chan c).meter } else s.chan d := by
  simp [State.modMeter]

@[simp] theorem port_modPort (s : State) (p q : Side) (f : Port → Port) :
    (s.modPort p f).port q = if p = q then f (s.port p) else s.port q := by simp [State.modPort]

@[simp] theorem trip_modTrip (s : State) (f : Trip → Trip) : (s.modTrip f).trip = f s.trip := rfl
@[simp] theorem header_modHeader (s : State) (f : Header → Header) : (s.modHeader f).header = f s.header := rfl

/-! ### What setChan leaves -/

@[simp] theorem powered_setChan (s : State) (c : Chan) (k : Channel) : (s.setChan c k).powered = s.powered := rfl
@[simp] theorem now_setChan (s : State) (c : Chan) (k : Channel) : (s.setChan c k).now = s.now := rfl
@[simp] theorem plan_setChan (s : State) (c : Chan) (k : Channel) : (s.setChan c k).plan = s.plan := rfl
@[simp] theorem tanks_setChan (s : State) (c : Chan) (k : Channel) : (s.setChan c k).tanks = s.tanks := rfl
@[simp] theorem header_setChan (s : State) (c : Chan) (k : Channel) : (s.setChan c k).header = s.header := rfl
@[simp] theorem queue_setChan (s : State) (c : Chan) (k : Channel) : (s.setChan c k).queue = s.queue := rfl
@[simp] theorem trip_setChan (s : State) (c : Chan) (k : Channel) : (s.setChan c k).trip = s.trip := rfl
@[simp] theorem portB_setChan (s : State) (c : Chan) (k : Channel) : (s.setChan c k).portB = s.portB := rfl
@[simp] theorem portS_setChan (s : State) (c : Chan) (k : Channel) : (s.setChan c k).portS = s.portS := rfl
@[simp] theorem cursor_setChan (s : State) (c : Chan) (k : Channel) : (s.setChan c k).cursor = s.cursor := rfl
@[simp] theorem config_setChan (s : State) (c : Chan) (k : Channel) : (s.setChan c k).config = s.config := rfl
@[simp] theorem store_setChan (s : State) (c : Chan) (k : Channel) : (s.setChan c k).store = s.store := rfl
@[simp] theorem freeCount_setChan (s : State) (c : Chan) (k : Channel) : (s.setChan c k).freeCount = s.freeCount := rfl
@[simp] theorem evals_setChan (s : State) (c : Chan) (k : Channel) : (s.setChan c k).evals = s.evals := rfl
@[simp] theorem pending_setChan (s : State) (c : Chan) (k : Channel) : (s.setChan c k).pending = s.pending := rfl
@[simp] theorem tank_setChan (s : State) (c : Chan) (k : Channel) : (s.setChan c k).tank = s.tank := rfl
@[simp] theorem entry_setChan (s : State) (c : Chan) (k : Channel) : (s.setChan c k).entry = s.entry := rfl
@[simp] theorem chanConfig_setChan (s : State) (c : Chan) (k : Channel) : (s.setChan c k).chanConfig = s.chanConfig := rfl
@[simp] theorem port_setChan (s : State) (c : Chan) (k : Channel) : (s.setChan c k).port = s.port := rfl

/-! ### What modChan leaves -/

@[simp] theorem powered_modChan (s : State) (c : Chan) (f : Channel → Channel) : (s.modChan c f).powered = s.powered := rfl
@[simp] theorem now_modChan (s : State) (c : Chan) (f : Channel → Channel) : (s.modChan c f).now = s.now := rfl
@[simp] theorem plan_modChan (s : State) (c : Chan) (f : Channel → Channel) : (s.modChan c f).plan = s.plan := rfl
@[simp] theorem tanks_modChan (s : State) (c : Chan) (f : Channel → Channel) : (s.modChan c f).tanks = s.tanks := rfl
@[simp] theorem header_modChan (s : State) (c : Chan) (f : Channel → Channel) : (s.modChan c f).header = s.header := rfl
@[simp] theorem queue_modChan (s : State) (c : Chan) (f : Channel → Channel) : (s.modChan c f).queue = s.queue := rfl
@[simp] theorem trip_modChan (s : State) (c : Chan) (f : Channel → Channel) : (s.modChan c f).trip = s.trip := rfl
@[simp] theorem portB_modChan (s : State) (c : Chan) (f : Channel → Channel) : (s.modChan c f).portB = s.portB := rfl
@[simp] theorem portS_modChan (s : State) (c : Chan) (f : Channel → Channel) : (s.modChan c f).portS = s.portS := rfl
@[simp] theorem cursor_modChan (s : State) (c : Chan) (f : Channel → Channel) : (s.modChan c f).cursor = s.cursor := rfl
@[simp] theorem config_modChan (s : State) (c : Chan) (f : Channel → Channel) : (s.modChan c f).config = s.config := rfl
@[simp] theorem store_modChan (s : State) (c : Chan) (f : Channel → Channel) : (s.modChan c f).store = s.store := rfl
@[simp] theorem freeCount_modChan (s : State) (c : Chan) (f : Channel → Channel) : (s.modChan c f).freeCount = s.freeCount := rfl
@[simp] theorem evals_modChan (s : State) (c : Chan) (f : Channel → Channel) : (s.modChan c f).evals = s.evals := rfl
@[simp] theorem pending_modChan (s : State) (c : Chan) (f : Channel → Channel) : (s.modChan c f).pending = s.pending := rfl
@[simp] theorem tank_modChan (s : State) (c : Chan) (f : Channel → Channel) : (s.modChan c f).tank = s.tank := rfl
@[simp] theorem entry_modChan (s : State) (c : Chan) (f : Channel → Channel) : (s.modChan c f).entry = s.entry := rfl
@[simp] theorem chanConfig_modChan (s : State) (c : Chan) (f : Channel → Channel) : (s.modChan c f).chanConfig = s.chanConfig := rfl
@[simp] theorem port_modChan (s : State) (c : Chan) (f : Channel → Channel) : (s.modChan c f).port = s.port := rfl

/-! ### What modMeter leaves -/

@[simp] theorem powered_modMeter (s : State) (c : Chan) (f : Meter → Meter) : (s.modMeter c f).powered = s.powered := rfl
@[simp] theorem now_modMeter (s : State) (c : Chan) (f : Meter → Meter) : (s.modMeter c f).now = s.now := rfl
@[simp] theorem plan_modMeter (s : State) (c : Chan) (f : Meter → Meter) : (s.modMeter c f).plan = s.plan := rfl
@[simp] theorem tanks_modMeter (s : State) (c : Chan) (f : Meter → Meter) : (s.modMeter c f).tanks = s.tanks := rfl
@[simp] theorem header_modMeter (s : State) (c : Chan) (f : Meter → Meter) : (s.modMeter c f).header = s.header := rfl
@[simp] theorem queue_modMeter (s : State) (c : Chan) (f : Meter → Meter) : (s.modMeter c f).queue = s.queue := rfl
@[simp] theorem trip_modMeter (s : State) (c : Chan) (f : Meter → Meter) : (s.modMeter c f).trip = s.trip := rfl
@[simp] theorem portB_modMeter (s : State) (c : Chan) (f : Meter → Meter) : (s.modMeter c f).portB = s.portB := rfl
@[simp] theorem portS_modMeter (s : State) (c : Chan) (f : Meter → Meter) : (s.modMeter c f).portS = s.portS := rfl
@[simp] theorem cursor_modMeter (s : State) (c : Chan) (f : Meter → Meter) : (s.modMeter c f).cursor = s.cursor := rfl
@[simp] theorem config_modMeter (s : State) (c : Chan) (f : Meter → Meter) : (s.modMeter c f).config = s.config := rfl
@[simp] theorem store_modMeter (s : State) (c : Chan) (f : Meter → Meter) : (s.modMeter c f).store = s.store := rfl
@[simp] theorem freeCount_modMeter (s : State) (c : Chan) (f : Meter → Meter) : (s.modMeter c f).freeCount = s.freeCount := rfl
@[simp] theorem evals_modMeter (s : State) (c : Chan) (f : Meter → Meter) : (s.modMeter c f).evals = s.evals := rfl
@[simp] theorem pending_modMeter (s : State) (c : Chan) (f : Meter → Meter) : (s.modMeter c f).pending = s.pending := rfl
@[simp] theorem tank_modMeter (s : State) (c : Chan) (f : Meter → Meter) : (s.modMeter c f).tank = s.tank := rfl
@[simp] theorem entry_modMeter (s : State) (c : Chan) (f : Meter → Meter) : (s.modMeter c f).entry = s.entry := rfl
@[simp] theorem chanConfig_modMeter (s : State) (c : Chan) (f : Meter → Meter) : (s.modMeter c f).chanConfig = s.chanConfig := rfl
@[simp] theorem port_modMeter (s : State) (c : Chan) (f : Meter → Meter) : (s.modMeter c f).port = s.port := rfl

/-! ### What setTank leaves -/

@[simp] theorem powered_setTank (s : State) (t : TankNo) (k : Tank) : (s.setTank t k).powered = s.powered := rfl
@[simp] theorem now_setTank (s : State) (t : TankNo) (k : Tank) : (s.setTank t k).now = s.now := rfl
@[simp] theorem plan_setTank (s : State) (t : TankNo) (k : Tank) : (s.setTank t k).plan = s.plan := rfl
@[simp] theorem channels_setTank (s : State) (t : TankNo) (k : Tank) : (s.setTank t k).channels = s.channels := rfl
@[simp] theorem header_setTank (s : State) (t : TankNo) (k : Tank) : (s.setTank t k).header = s.header := rfl
@[simp] theorem queue_setTank (s : State) (t : TankNo) (k : Tank) : (s.setTank t k).queue = s.queue := rfl
@[simp] theorem trip_setTank (s : State) (t : TankNo) (k : Tank) : (s.setTank t k).trip = s.trip := rfl
@[simp] theorem portB_setTank (s : State) (t : TankNo) (k : Tank) : (s.setTank t k).portB = s.portB := rfl
@[simp] theorem portS_setTank (s : State) (t : TankNo) (k : Tank) : (s.setTank t k).portS = s.portS := rfl
@[simp] theorem cursor_setTank (s : State) (t : TankNo) (k : Tank) : (s.setTank t k).cursor = s.cursor := rfl
@[simp] theorem config_setTank (s : State) (t : TankNo) (k : Tank) : (s.setTank t k).config = s.config := rfl
@[simp] theorem store_setTank (s : State) (t : TankNo) (k : Tank) : (s.setTank t k).store = s.store := rfl
@[simp] theorem freeCount_setTank (s : State) (t : TankNo) (k : Tank) : (s.setTank t k).freeCount = s.freeCount := rfl
@[simp] theorem evals_setTank (s : State) (t : TankNo) (k : Tank) : (s.setTank t k).evals = s.evals := rfl
@[simp] theorem pending_setTank (s : State) (t : TankNo) (k : Tank) : (s.setTank t k).pending = s.pending := rfl
@[simp] theorem chan_setTank (s : State) (t : TankNo) (k : Tank) : (s.setTank t k).chan = s.chan := rfl
@[simp] theorem entry_setTank (s : State) (t : TankNo) (k : Tank) : (s.setTank t k).entry = s.entry := rfl
@[simp] theorem chanConfig_setTank (s : State) (t : TankNo) (k : Tank) : (s.setTank t k).chanConfig = s.chanConfig := rfl
@[simp] theorem port_setTank (s : State) (t : TankNo) (k : Tank) : (s.setTank t k).port = s.port := rfl

/-! ### What modTank leaves -/

@[simp] theorem powered_modTank (s : State) (t : TankNo) (f : Tank → Tank) : (s.modTank t f).powered = s.powered := rfl
@[simp] theorem now_modTank (s : State) (t : TankNo) (f : Tank → Tank) : (s.modTank t f).now = s.now := rfl
@[simp] theorem plan_modTank (s : State) (t : TankNo) (f : Tank → Tank) : (s.modTank t f).plan = s.plan := rfl
@[simp] theorem channels_modTank (s : State) (t : TankNo) (f : Tank → Tank) : (s.modTank t f).channels = s.channels := rfl
@[simp] theorem header_modTank (s : State) (t : TankNo) (f : Tank → Tank) : (s.modTank t f).header = s.header := rfl
@[simp] theorem queue_modTank (s : State) (t : TankNo) (f : Tank → Tank) : (s.modTank t f).queue = s.queue := rfl
@[simp] theorem trip_modTank (s : State) (t : TankNo) (f : Tank → Tank) : (s.modTank t f).trip = s.trip := rfl
@[simp] theorem portB_modTank (s : State) (t : TankNo) (f : Tank → Tank) : (s.modTank t f).portB = s.portB := rfl
@[simp] theorem portS_modTank (s : State) (t : TankNo) (f : Tank → Tank) : (s.modTank t f).portS = s.portS := rfl
@[simp] theorem cursor_modTank (s : State) (t : TankNo) (f : Tank → Tank) : (s.modTank t f).cursor = s.cursor := rfl
@[simp] theorem config_modTank (s : State) (t : TankNo) (f : Tank → Tank) : (s.modTank t f).config = s.config := rfl
@[simp] theorem store_modTank (s : State) (t : TankNo) (f : Tank → Tank) : (s.modTank t f).store = s.store := rfl
@[simp] theorem freeCount_modTank (s : State) (t : TankNo) (f : Tank → Tank) : (s.modTank t f).freeCount = s.freeCount := rfl
@[simp] theorem evals_modTank (s : State) (t : TankNo) (f : Tank → Tank) : (s.modTank t f).evals = s.evals := rfl
@[simp] theorem pending_modTank (s : State) (t : TankNo) (f : Tank → Tank) : (s.modTank t f).pending = s.pending := rfl
@[simp] theorem chan_modTank (s : State) (t : TankNo) (f : Tank → Tank) : (s.modTank t f).chan = s.chan := rfl
@[simp] theorem entry_modTank (s : State) (t : TankNo) (f : Tank → Tank) : (s.modTank t f).entry = s.entry := rfl
@[simp] theorem chanConfig_modTank (s : State) (t : TankNo) (f : Tank → Tank) : (s.modTank t f).chanConfig = s.chanConfig := rfl
@[simp] theorem port_modTank (s : State) (t : TankNo) (f : Tank → Tank) : (s.modTank t f).port = s.port := rfl

/-! ### What setEntry leaves -/

@[simp] theorem powered_setEntry (s : State) (i : EntryId) (e : Option Entry) : (s.setEntry i e).powered = s.powered := rfl
@[simp] theorem now_setEntry (s : State) (i : EntryId) (e : Option Entry) : (s.setEntry i e).now = s.now := rfl
@[simp] theorem tanks_setEntry (s : State) (i : EntryId) (e : Option Entry) : (s.setEntry i e).tanks = s.tanks := rfl
@[simp] theorem channels_setEntry (s : State) (i : EntryId) (e : Option Entry) : (s.setEntry i e).channels = s.channels := rfl
@[simp] theorem header_setEntry (s : State) (i : EntryId) (e : Option Entry) : (s.setEntry i e).header = s.header := rfl
@[simp] theorem queue_setEntry (s : State) (i : EntryId) (e : Option Entry) : (s.setEntry i e).queue = s.queue := rfl
@[simp] theorem trip_setEntry (s : State) (i : EntryId) (e : Option Entry) : (s.setEntry i e).trip = s.trip := rfl
@[simp] theorem portB_setEntry (s : State) (i : EntryId) (e : Option Entry) : (s.setEntry i e).portB = s.portB := rfl
@[simp] theorem portS_setEntry (s : State) (i : EntryId) (e : Option Entry) : (s.setEntry i e).portS = s.portS := rfl
@[simp] theorem cursor_setEntry (s : State) (i : EntryId) (e : Option Entry) : (s.setEntry i e).cursor = s.cursor := rfl
@[simp] theorem config_setEntry (s : State) (i : EntryId) (e : Option Entry) : (s.setEntry i e).config = s.config := rfl
@[simp] theorem store_setEntry (s : State) (i : EntryId) (e : Option Entry) : (s.setEntry i e).store = s.store := rfl
@[simp] theorem freeCount_setEntry (s : State) (i : EntryId) (e : Option Entry) : (s.setEntry i e).freeCount = s.freeCount := rfl
@[simp] theorem evals_setEntry (s : State) (i : EntryId) (e : Option Entry) : (s.setEntry i e).evals = s.evals := rfl
@[simp] theorem pending_setEntry (s : State) (i : EntryId) (e : Option Entry) : (s.setEntry i e).pending = s.pending := rfl
@[simp] theorem chan_setEntry (s : State) (i : EntryId) (e : Option Entry) : (s.setEntry i e).chan = s.chan := rfl
@[simp] theorem tank_setEntry (s : State) (i : EntryId) (e : Option Entry) : (s.setEntry i e).tank = s.tank := rfl
@[simp] theorem chanConfig_setEntry (s : State) (i : EntryId) (e : Option Entry) : (s.setEntry i e).chanConfig = s.chanConfig := rfl
@[simp] theorem port_setEntry (s : State) (i : EntryId) (e : Option Entry) : (s.setEntry i e).port = s.port := rfl
@[simp] theorem nextId_setEntry (s : State) (i : EntryId) (e : Option Entry) : (s.setEntry i e).plan.nextId = s.plan.nextId := rfl

/-! ### What modEntry leaves -/

@[simp] theorem powered_modEntry (s : State) (i : EntryId) (f : Entry → Entry) : (s.modEntry i f).powered = s.powered := rfl
@[simp] theorem now_modEntry (s : State) (i : EntryId) (f : Entry → Entry) : (s.modEntry i f).now = s.now := rfl
@[simp] theorem tanks_modEntry (s : State) (i : EntryId) (f : Entry → Entry) : (s.modEntry i f).tanks = s.tanks := rfl
@[simp] theorem channels_modEntry (s : State) (i : EntryId) (f : Entry → Entry) : (s.modEntry i f).channels = s.channels := rfl
@[simp] theorem header_modEntry (s : State) (i : EntryId) (f : Entry → Entry) : (s.modEntry i f).header = s.header := rfl
@[simp] theorem queue_modEntry (s : State) (i : EntryId) (f : Entry → Entry) : (s.modEntry i f).queue = s.queue := rfl
@[simp] theorem trip_modEntry (s : State) (i : EntryId) (f : Entry → Entry) : (s.modEntry i f).trip = s.trip := rfl
@[simp] theorem portB_modEntry (s : State) (i : EntryId) (f : Entry → Entry) : (s.modEntry i f).portB = s.portB := rfl
@[simp] theorem portS_modEntry (s : State) (i : EntryId) (f : Entry → Entry) : (s.modEntry i f).portS = s.portS := rfl
@[simp] theorem cursor_modEntry (s : State) (i : EntryId) (f : Entry → Entry) : (s.modEntry i f).cursor = s.cursor := rfl
@[simp] theorem config_modEntry (s : State) (i : EntryId) (f : Entry → Entry) : (s.modEntry i f).config = s.config := rfl
@[simp] theorem store_modEntry (s : State) (i : EntryId) (f : Entry → Entry) : (s.modEntry i f).store = s.store := rfl
@[simp] theorem freeCount_modEntry (s : State) (i : EntryId) (f : Entry → Entry) : (s.modEntry i f).freeCount = s.freeCount := rfl
@[simp] theorem evals_modEntry (s : State) (i : EntryId) (f : Entry → Entry) : (s.modEntry i f).evals = s.evals := rfl
@[simp] theorem pending_modEntry (s : State) (i : EntryId) (f : Entry → Entry) : (s.modEntry i f).pending = s.pending := rfl
@[simp] theorem chan_modEntry (s : State) (i : EntryId) (f : Entry → Entry) : (s.modEntry i f).chan = s.chan := rfl
@[simp] theorem tank_modEntry (s : State) (i : EntryId) (f : Entry → Entry) : (s.modEntry i f).tank = s.tank := rfl
@[simp] theorem chanConfig_modEntry (s : State) (i : EntryId) (f : Entry → Entry) : (s.modEntry i f).chanConfig = s.chanConfig := rfl
@[simp] theorem port_modEntry (s : State) (i : EntryId) (f : Entry → Entry) : (s.modEntry i f).port = s.port := rfl
@[simp] theorem nextId_modEntry (s : State) (i : EntryId) (f : Entry → Entry) : (s.modEntry i f).plan.nextId = s.plan.nextId := rfl

/-! ### What modHeader leaves -/

@[simp] theorem powered_modHeader (s : State) (f : Header → Header) : (s.modHeader f).powered = s.powered := rfl
@[simp] theorem now_modHeader (s : State) (f : Header → Header) : (s.modHeader f).now = s.now := rfl
@[simp] theorem plan_modHeader (s : State) (f : Header → Header) : (s.modHeader f).plan = s.plan := rfl
@[simp] theorem tanks_modHeader (s : State) (f : Header → Header) : (s.modHeader f).tanks = s.tanks := rfl
@[simp] theorem channels_modHeader (s : State) (f : Header → Header) : (s.modHeader f).channels = s.channels := rfl
@[simp] theorem queue_modHeader (s : State) (f : Header → Header) : (s.modHeader f).queue = s.queue := rfl
@[simp] theorem trip_modHeader (s : State) (f : Header → Header) : (s.modHeader f).trip = s.trip := rfl
@[simp] theorem portB_modHeader (s : State) (f : Header → Header) : (s.modHeader f).portB = s.portB := rfl
@[simp] theorem portS_modHeader (s : State) (f : Header → Header) : (s.modHeader f).portS = s.portS := rfl
@[simp] theorem cursor_modHeader (s : State) (f : Header → Header) : (s.modHeader f).cursor = s.cursor := rfl
@[simp] theorem config_modHeader (s : State) (f : Header → Header) : (s.modHeader f).config = s.config := rfl
@[simp] theorem store_modHeader (s : State) (f : Header → Header) : (s.modHeader f).store = s.store := rfl
@[simp] theorem freeCount_modHeader (s : State) (f : Header → Header) : (s.modHeader f).freeCount = s.freeCount := rfl
@[simp] theorem evals_modHeader (s : State) (f : Header → Header) : (s.modHeader f).evals = s.evals := rfl
@[simp] theorem pending_modHeader (s : State) (f : Header → Header) : (s.modHeader f).pending = s.pending := rfl
@[simp] theorem chan_modHeader (s : State) (f : Header → Header) : (s.modHeader f).chan = s.chan := rfl
@[simp] theorem tank_modHeader (s : State) (f : Header → Header) : (s.modHeader f).tank = s.tank := rfl
@[simp] theorem entry_modHeader (s : State) (f : Header → Header) : (s.modHeader f).entry = s.entry := rfl
@[simp] theorem chanConfig_modHeader (s : State) (f : Header → Header) : (s.modHeader f).chanConfig = s.chanConfig := rfl
@[simp] theorem port_modHeader (s : State) (f : Header → Header) : (s.modHeader f).port = s.port := rfl

/-! ### What modTrip leaves -/

@[simp] theorem powered_modTrip (s : State) (f : Trip → Trip) : (s.modTrip f).powered = s.powered := rfl
@[simp] theorem now_modTrip (s : State) (f : Trip → Trip) : (s.modTrip f).now = s.now := rfl
@[simp] theorem plan_modTrip (s : State) (f : Trip → Trip) : (s.modTrip f).plan = s.plan := rfl
@[simp] theorem tanks_modTrip (s : State) (f : Trip → Trip) : (s.modTrip f).tanks = s.tanks := rfl
@[simp] theorem channels_modTrip (s : State) (f : Trip → Trip) : (s.modTrip f).channels = s.channels := rfl
@[simp] theorem header_modTrip (s : State) (f : Trip → Trip) : (s.modTrip f).header = s.header := rfl
@[simp] theorem queue_modTrip (s : State) (f : Trip → Trip) : (s.modTrip f).queue = s.queue := rfl
@[simp] theorem portB_modTrip (s : State) (f : Trip → Trip) : (s.modTrip f).portB = s.portB := rfl
@[simp] theorem portS_modTrip (s : State) (f : Trip → Trip) : (s.modTrip f).portS = s.portS := rfl
@[simp] theorem cursor_modTrip (s : State) (f : Trip → Trip) : (s.modTrip f).cursor = s.cursor := rfl
@[simp] theorem config_modTrip (s : State) (f : Trip → Trip) : (s.modTrip f).config = s.config := rfl
@[simp] theorem store_modTrip (s : State) (f : Trip → Trip) : (s.modTrip f).store = s.store := rfl
@[simp] theorem freeCount_modTrip (s : State) (f : Trip → Trip) : (s.modTrip f).freeCount = s.freeCount := rfl
@[simp] theorem evals_modTrip (s : State) (f : Trip → Trip) : (s.modTrip f).evals = s.evals := rfl
@[simp] theorem pending_modTrip (s : State) (f : Trip → Trip) : (s.modTrip f).pending = s.pending := rfl
@[simp] theorem chan_modTrip (s : State) (f : Trip → Trip) : (s.modTrip f).chan = s.chan := rfl
@[simp] theorem tank_modTrip (s : State) (f : Trip → Trip) : (s.modTrip f).tank = s.tank := rfl
@[simp] theorem entry_modTrip (s : State) (f : Trip → Trip) : (s.modTrip f).entry = s.entry := rfl
@[simp] theorem chanConfig_modTrip (s : State) (f : Trip → Trip) : (s.modTrip f).chanConfig = s.chanConfig := rfl
@[simp] theorem port_modTrip (s : State) (f : Trip → Trip) : (s.modTrip f).port = s.port := rfl

/-! ### What setPort leaves -/

@[simp] theorem powered_setPort (s : State) (p : Side) (x : Port) : (s.setPort p x).powered = s.powered := by cases p <;> rfl
@[simp] theorem now_setPort (s : State) (p : Side) (x : Port) : (s.setPort p x).now = s.now := by cases p <;> rfl
@[simp] theorem plan_setPort (s : State) (p : Side) (x : Port) : (s.setPort p x).plan = s.plan := by cases p <;> rfl
@[simp] theorem tanks_setPort (s : State) (p : Side) (x : Port) : (s.setPort p x).tanks = s.tanks := by cases p <;> rfl
@[simp] theorem channels_setPort (s : State) (p : Side) (x : Port) : (s.setPort p x).channels = s.channels := by cases p <;> rfl
@[simp] theorem header_setPort (s : State) (p : Side) (x : Port) : (s.setPort p x).header = s.header := by cases p <;> rfl
@[simp] theorem queue_setPort (s : State) (p : Side) (x : Port) : (s.setPort p x).queue = s.queue := by cases p <;> rfl
@[simp] theorem trip_setPort (s : State) (p : Side) (x : Port) : (s.setPort p x).trip = s.trip := by cases p <;> rfl
@[simp] theorem cursor_setPort (s : State) (p : Side) (x : Port) : (s.setPort p x).cursor = s.cursor := by cases p <;> rfl
@[simp] theorem config_setPort (s : State) (p : Side) (x : Port) : (s.setPort p x).config = s.config := by cases p <;> rfl
@[simp] theorem store_setPort (s : State) (p : Side) (x : Port) : (s.setPort p x).store = s.store := by cases p <;> rfl
@[simp] theorem freeCount_setPort (s : State) (p : Side) (x : Port) : (s.setPort p x).freeCount = s.freeCount := by cases p <;> rfl
@[simp] theorem evals_setPort (s : State) (p : Side) (x : Port) : (s.setPort p x).evals = s.evals := by cases p <;> rfl
@[simp] theorem pending_setPort (s : State) (p : Side) (x : Port) : (s.setPort p x).pending = s.pending := by cases p <;> rfl
@[simp] theorem chan_setPort (s : State) (p : Side) (x : Port) : (s.setPort p x).chan = s.chan := by cases p <;> rfl
@[simp] theorem tank_setPort (s : State) (p : Side) (x : Port) : (s.setPort p x).tank = s.tank := by cases p <;> rfl
@[simp] theorem entry_setPort (s : State) (p : Side) (x : Port) : (s.setPort p x).entry = s.entry := by cases p <;> rfl
@[simp] theorem chanConfig_setPort (s : State) (p : Side) (x : Port) : (s.setPort p x).chanConfig = s.chanConfig := by cases p <;> rfl

/-! ### What modPort leaves -/

@[simp] theorem powered_modPort (s : State) (p : Side) (f : Port → Port) : (s.modPort p f).powered = s.powered := by cases p <;> rfl
@[simp] theorem now_modPort (s : State) (p : Side) (f : Port → Port) : (s.modPort p f).now = s.now := by cases p <;> rfl
@[simp] theorem plan_modPort (s : State) (p : Side) (f : Port → Port) : (s.modPort p f).plan = s.plan := by cases p <;> rfl
@[simp] theorem tanks_modPort (s : State) (p : Side) (f : Port → Port) : (s.modPort p f).tanks = s.tanks := by cases p <;> rfl
@[simp] theorem channels_modPort (s : State) (p : Side) (f : Port → Port) : (s.modPort p f).channels = s.channels := by cases p <;> rfl
@[simp] theorem header_modPort (s : State) (p : Side) (f : Port → Port) : (s.modPort p f).header = s.header := by cases p <;> rfl
@[simp] theorem queue_modPort (s : State) (p : Side) (f : Port → Port) : (s.modPort p f).queue = s.queue := by cases p <;> rfl
@[simp] theorem trip_modPort (s : State) (p : Side) (f : Port → Port) : (s.modPort p f).trip = s.trip := by cases p <;> rfl
@[simp] theorem cursor_modPort (s : State) (p : Side) (f : Port → Port) : (s.modPort p f).cursor = s.cursor := by cases p <;> rfl
@[simp] theorem config_modPort (s : State) (p : Side) (f : Port → Port) : (s.modPort p f).config = s.config := by cases p <;> rfl
@[simp] theorem store_modPort (s : State) (p : Side) (f : Port → Port) : (s.modPort p f).store = s.store := by cases p <;> rfl
@[simp] theorem freeCount_modPort (s : State) (p : Side) (f : Port → Port) : (s.modPort p f).freeCount = s.freeCount := by cases p <;> rfl
@[simp] theorem evals_modPort (s : State) (p : Side) (f : Port → Port) : (s.modPort p f).evals = s.evals := by cases p <;> rfl
@[simp] theorem pending_modPort (s : State) (p : Side) (f : Port → Port) : (s.modPort p f).pending = s.pending := by cases p <;> rfl
@[simp] theorem chan_modPort (s : State) (p : Side) (f : Port → Port) : (s.modPort p f).chan = s.chan := by cases p <;> rfl
@[simp] theorem tank_modPort (s : State) (p : Side) (f : Port → Port) : (s.modPort p f).tank = s.tank := by cases p <;> rfl
@[simp] theorem entry_modPort (s : State) (p : Side) (f : Port → Port) : (s.modPort p f).entry = s.entry := by cases p <;> rfl
@[simp] theorem chanConfig_modPort (s : State) (p : Side) (f : Port → Port) : (s.modPort p f).chanConfig = s.chanConfig := by cases p <;> rfl

/-! ### What a record update leaves -/

@[simp] theorem chan_with_powered (s : State) (x : Bool) : ({ s with powered := x } : State).chan = s.chan := rfl
@[simp] theorem tank_with_powered (s : State) (x : Bool) : ({ s with powered := x } : State).tank = s.tank := rfl
@[simp] theorem entry_with_powered (s : State) (x : Bool) : ({ s with powered := x } : State).entry = s.entry := rfl
@[simp] theorem chanConfig_with_powered (s : State) (x : Bool) : ({ s with powered := x } : State).chanConfig = s.chanConfig := rfl
@[simp] theorem port_with_powered (s : State) (x : Bool) : ({ s with powered := x } : State).port = s.port := rfl
@[simp] theorem chan_with_now (s : State) (x : Nat) : ({ s with now := x } : State).chan = s.chan := rfl
@[simp] theorem tank_with_now (s : State) (x : Nat) : ({ s with now := x } : State).tank = s.tank := rfl
@[simp] theorem entry_with_now (s : State) (x : Nat) : ({ s with now := x } : State).entry = s.entry := rfl
@[simp] theorem chanConfig_with_now (s : State) (x : Nat) : ({ s with now := x } : State).chanConfig = s.chanConfig := rfl
@[simp] theorem port_with_now (s : State) (x : Nat) : ({ s with now := x } : State).port = s.port := rfl
@[simp] theorem chan_with_plan (s : State) (x : Plan) : ({ s with plan := x } : State).chan = s.chan := rfl
@[simp] theorem tank_with_plan (s : State) (x : Plan) : ({ s with plan := x } : State).tank = s.tank := rfl
@[simp] theorem chanConfig_with_plan (s : State) (x : Plan) : ({ s with plan := x } : State).chanConfig = s.chanConfig := rfl
@[simp] theorem port_with_plan (s : State) (x : Plan) : ({ s with plan := x } : State).port = s.port := rfl
@[simp] theorem chan_with_tanks (s : State) (x : Vector Tank 12) : ({ s with tanks := x } : State).chan = s.chan := rfl
@[simp] theorem entry_with_tanks (s : State) (x : Vector Tank 12) : ({ s with tanks := x } : State).entry = s.entry := rfl
@[simp] theorem chanConfig_with_tanks (s : State) (x : Vector Tank 12) : ({ s with tanks := x } : State).chanConfig = s.chanConfig := rfl
@[simp] theorem port_with_tanks (s : State) (x : Vector Tank 12) : ({ s with tanks := x } : State).port = s.port := rfl
@[simp] theorem tank_with_channels (s : State) (x : Vector Channel 4) : ({ s with channels := x } : State).tank = s.tank := rfl
@[simp] theorem entry_with_channels (s : State) (x : Vector Channel 4) : ({ s with channels := x } : State).entry = s.entry := rfl
@[simp] theorem chanConfig_with_channels (s : State) (x : Vector Channel 4) : ({ s with channels := x } : State).chanConfig = s.chanConfig := rfl
@[simp] theorem port_with_channels (s : State) (x : Vector Channel 4) : ({ s with channels := x } : State).port = s.port := rfl
@[simp] theorem chan_with_header (s : State) (x : Header) : ({ s with header := x } : State).chan = s.chan := rfl
@[simp] theorem tank_with_header (s : State) (x : Header) : ({ s with header := x } : State).tank = s.tank := rfl
@[simp] theorem entry_with_header (s : State) (x : Header) : ({ s with header := x } : State).entry = s.entry := rfl
@[simp] theorem chanConfig_with_header (s : State) (x : Header) : ({ s with header := x } : State).chanConfig = s.chanConfig := rfl
@[simp] theorem port_with_header (s : State) (x : Header) : ({ s with header := x } : State).port = s.port := rfl
@[simp] theorem chan_with_queue (s : State) (x : ConsentQueue) : ({ s with queue := x } : State).chan = s.chan := rfl
@[simp] theorem tank_with_queue (s : State) (x : ConsentQueue) : ({ s with queue := x } : State).tank = s.tank := rfl
@[simp] theorem entry_with_queue (s : State) (x : ConsentQueue) : ({ s with queue := x } : State).entry = s.entry := rfl
@[simp] theorem chanConfig_with_queue (s : State) (x : ConsentQueue) : ({ s with queue := x } : State).chanConfig = s.chanConfig := rfl
@[simp] theorem port_with_queue (s : State) (x : ConsentQueue) : ({ s with queue := x } : State).port = s.port := rfl
@[simp] theorem chan_with_trip (s : State) (x : Trip) : ({ s with trip := x } : State).chan = s.chan := rfl
@[simp] theorem tank_with_trip (s : State) (x : Trip) : ({ s with trip := x } : State).tank = s.tank := rfl
@[simp] theorem entry_with_trip (s : State) (x : Trip) : ({ s with trip := x } : State).entry = s.entry := rfl
@[simp] theorem chanConfig_with_trip (s : State) (x : Trip) : ({ s with trip := x } : State).chanConfig = s.chanConfig := rfl
@[simp] theorem port_with_trip (s : State) (x : Trip) : ({ s with trip := x } : State).port = s.port := rfl
@[simp] theorem chan_with_portB (s : State) (x : Port) : ({ s with portB := x } : State).chan = s.chan := rfl
@[simp] theorem tank_with_portB (s : State) (x : Port) : ({ s with portB := x } : State).tank = s.tank := rfl
@[simp] theorem entry_with_portB (s : State) (x : Port) : ({ s with portB := x } : State).entry = s.entry := rfl
@[simp] theorem chanConfig_with_portB (s : State) (x : Port) : ({ s with portB := x } : State).chanConfig = s.chanConfig := rfl
@[simp] theorem chan_with_portS (s : State) (x : Port) : ({ s with portS := x } : State).chan = s.chan := rfl
@[simp] theorem tank_with_portS (s : State) (x : Port) : ({ s with portS := x } : State).tank = s.tank := rfl
@[simp] theorem entry_with_portS (s : State) (x : Port) : ({ s with portS := x } : State).entry = s.entry := rfl
@[simp] theorem chanConfig_with_portS (s : State) (x : Port) : ({ s with portS := x } : State).chanConfig = s.chanConfig := rfl
@[simp] theorem chan_with_cursor (s : State) (x : Cursor) : ({ s with cursor := x } : State).chan = s.chan := rfl
@[simp] theorem tank_with_cursor (s : State) (x : Cursor) : ({ s with cursor := x } : State).tank = s.tank := rfl
@[simp] theorem entry_with_cursor (s : State) (x : Cursor) : ({ s with cursor := x } : State).entry = s.entry := rfl
@[simp] theorem chanConfig_with_cursor (s : State) (x : Cursor) : ({ s with cursor := x } : State).chanConfig = s.chanConfig := rfl
@[simp] theorem port_with_cursor (s : State) (x : Cursor) : ({ s with cursor := x } : State).port = s.port := rfl
@[simp] theorem chan_with_config (s : State) (x : SiteConfig) : ({ s with config := x } : State).chan = s.chan := rfl
@[simp] theorem tank_with_config (s : State) (x : SiteConfig) : ({ s with config := x } : State).tank = s.tank := rfl
@[simp] theorem entry_with_config (s : State) (x : SiteConfig) : ({ s with config := x } : State).entry = s.entry := rfl
@[simp] theorem port_with_config (s : State) (x : SiteConfig) : ({ s with config := x } : State).port = s.port := rfl
@[simp] theorem chan_with_store (s : State) (x : Store) : ({ s with store := x } : State).chan = s.chan := rfl
@[simp] theorem tank_with_store (s : State) (x : Store) : ({ s with store := x } : State).tank = s.tank := rfl
@[simp] theorem entry_with_store (s : State) (x : Store) : ({ s with store := x } : State).entry = s.entry := rfl
@[simp] theorem chanConfig_with_store (s : State) (x : Store) : ({ s with store := x } : State).chanConfig = s.chanConfig := rfl
@[simp] theorem port_with_store (s : State) (x : Store) : ({ s with store := x } : State).port = s.port := rfl
@[simp] theorem chan_with_freeCount (s : State) (x : Nat) : ({ s with freeCount := x } : State).chan = s.chan := rfl
@[simp] theorem tank_with_freeCount (s : State) (x : Nat) : ({ s with freeCount := x } : State).tank = s.tank := rfl
@[simp] theorem entry_with_freeCount (s : State) (x : Nat) : ({ s with freeCount := x } : State).entry = s.entry := rfl
@[simp] theorem chanConfig_with_freeCount (s : State) (x : Nat) : ({ s with freeCount := x } : State).chanConfig = s.chanConfig := rfl
@[simp] theorem port_with_freeCount (s : State) (x : Nat) : ({ s with freeCount := x } : State).port = s.port := rfl
@[simp] theorem chan_with_evals (s : State) (x : List Chan) : ({ s with evals := x } : State).chan = s.chan := rfl
@[simp] theorem tank_with_evals (s : State) (x : List Chan) : ({ s with evals := x } : State).tank = s.tank := rfl
@[simp] theorem entry_with_evals (s : State) (x : List Chan) : ({ s with evals := x } : State).entry = s.entry := rfl
@[simp] theorem chanConfig_with_evals (s : State) (x : List Chan) : ({ s with evals := x } : State).chanConfig = s.chanConfig := rfl
@[simp] theorem port_with_evals (s : State) (x : List Chan) : ({ s with evals := x } : State).port = s.port := rfl
@[simp] theorem chan_with_pending (s : State) (x : List Instr) : ({ s with pending := x } : State).chan = s.chan := rfl
@[simp] theorem tank_with_pending (s : State) (x : List Instr) : ({ s with pending := x } : State).tank = s.tank := rfl
@[simp] theorem entry_with_pending (s : State) (x : List Instr) : ({ s with pending := x } : State).entry = s.entry := rfl
@[simp] theorem chanConfig_with_pending (s : State) (x : List Instr) : ({ s with pending := x } : State).chanConfig = s.chanConfig := rfl
@[simp] theorem port_with_pending (s : State) (x : List Instr) : ({ s with pending := x } : State).port = s.port := rfl

/-! ### What startSending leaves: all but the two ports -/

@[simp] theorem powered_startSending (s : State) : s.startSending.powered = s.powered := rfl
@[simp] theorem now_startSending (s : State) : s.startSending.now = s.now := rfl
@[simp] theorem plan_startSending (s : State) : s.startSending.plan = s.plan := rfl
@[simp] theorem tanks_startSending (s : State) : s.startSending.tanks = s.tanks := rfl
@[simp] theorem channels_startSending (s : State) : s.startSending.channels = s.channels := rfl
@[simp] theorem header_startSending (s : State) : s.startSending.header = s.header := rfl
@[simp] theorem queue_startSending (s : State) : s.startSending.queue = s.queue := rfl
@[simp] theorem trip_startSending (s : State) : s.startSending.trip = s.trip := rfl
@[simp] theorem cursor_startSending (s : State) : s.startSending.cursor = s.cursor := rfl
@[simp] theorem config_startSending (s : State) : s.startSending.config = s.config := rfl
@[simp] theorem store_startSending (s : State) : s.startSending.store = s.store := rfl
@[simp] theorem freeCount_startSending (s : State) : s.startSending.freeCount = s.freeCount := rfl
@[simp] theorem evals_startSending (s : State) : s.startSending.evals = s.evals := rfl
@[simp] theorem pending_startSending (s : State) : s.startSending.pending = s.pending := rfl
@[simp] theorem chan_startSending (s : State) : s.startSending.chan = s.chan := rfl
@[simp] theorem tank_startSending (s : State) : s.startSending.tank = s.tank := rfl
@[simp] theorem entry_startSending (s : State) : s.startSending.entry = s.entry := rfl
@[simp] theorem chanConfig_startSending (s : State) : s.startSending.chanConfig = s.chanConfig := rfl
@[simp] theorem port_startSending (s : State) (p : Side) : s.startSending.port p = (s.port p).begin := by cases p <;> rfl

/-! ### What a transmitter that begins leaves (R171) -/

@[simp] theorem link_begin (x : Port) : x.begin.link = x.link := by
  unfold Port.begin Port.transmit; repeat' split
  all_goals rfl
@[simp] theorem silenceTimer_begin (x : Port) : x.begin.silenceTimer = x.silenceTimer := by
  unfold Port.begin Port.transmit; repeat' split
  all_goals rfl
@[simp] theorem lost_begin (x : Port) : x.begin.lost = x.lost := by
  unfold Port.begin Port.transmit; repeat' split
  all_goals rfl
@[simp] theorem ended_begin (x : Port) : x.begin.ended = x.ended := by
  unfold Port.begin Port.transmit; repeat' split
  all_goals rfl
@[simp] theorem rx_begin (x : Port) : x.begin.rx = x.rx := by
  unfold Port.begin Port.transmit; repeat' split
  all_goals rfl

end Sys2Proof.Machine
end

