-- ==== Sys2Proof/Laws/Frame.lean ====
section
/-! SUPPORT. What no consequence of a command changes (`State.given`), one lemma per shared operation. -/

namespace Sys2Proof.Machine

/-! ### The accessors of the frame -/

theorem given_ext {s t : State} (h1 : t.powered = s.powered) (h2 : t.now = s.now) (h3 : t.cursor = s.cursor)
    (h4 : t.config = s.config) (h5 : t.store.copy = s.store.copy) (h6 : t.store.valid = s.store.valid)
    (h7 : t.store.inFlight = s.store.inFlight) (h8 : t.freeCount = s.freeCount) (h9 : t.pending = s.pending)
    (h10 : t.header.dp = s.header.dp) (h11 : t.header.pumpRunning = s.header.pumpRunning)
    (h12 : t.trip.loopBOpen = s.trip.loopBOpen) (h13 : t.trip.loopSOpen = s.trip.loopSOpen)
    (h14 : t.portB.line = s.portB.line) (h15 : t.portS.line = s.portS.line)
    (h16 : ∀ c, (t.chan c).inputs = (s.chan c).inputs) (h17 : ∀ c, (t.chan c).meter.counts = (s.chan c).meter.counts)
    (h18 : ∀ u, (t.tank u).declared = (s.tank u).declared) : t.given = s.given := by
  simp only [State.given, h1, h2, h3, h4, h5, h6, h7, h8, h9, h10, h11, h12, h13, h14, h15, h16, h17, h18]

theorem given_setChan {s : State} {c : Chan} {k : Channel} (hi : k.inputs = (s.chan c).inputs)
    (hm : k.meter.counts = (s.chan c).meter.counts) : (s.setChan c k).given = s.given := by
  apply given_ext <;> first | rfl | (intro d; rw [chan_setChan]; split <;> simp_all) | (intro d; rfl)

theorem given_modChan {s : State} {c : Chan} {f : Channel → Channel} (hi : (f (s.chan c)).inputs = (s.chan c).inputs)
    (hm : (f (s.chan c)).meter.counts = (s.chan c).meter.counts) : (s.modChan c f).given = s.given :=
  given_setChan hi hm

theorem given_modTank {s : State} {t : TankNo} {f : Tank → Tank} (h : (f (s.tank t)).declared = (s.tank t).declared) :
    (s.modTank t f).given = s.given := by
  apply given_ext <;> first | rfl | (intro d; rw [tank_modTank]; split <;> simp_all) | (intro d; rfl)

@[simp] theorem given_modEntry (s : State) (i : EntryId) (f : Entry → Entry) : (s.modEntry i f).given = s.given := rfl
@[simp] theorem given_setEntry (s : State) (i : EntryId) (e : Option Entry) : (s.setEntry i e).given = s.given := rfl

theorem given_modTrip {s : State} {f : Trip → Trip} (hb : (f s.trip).loopBOpen = s.trip.loopBOpen)
    (hs : (f s.trip).loopSOpen = s.trip.loopSOpen) : (s.modTrip f).given = s.given := by
  apply given_ext <;> first | rfl | assumption | (intro d; rfl)

theorem given_modHeader {s : State} {f : Header → Header} (hd : (f s.header).dp = s.header.dp)
    (hp : (f s.header).pumpRunning = s.header.pumpRunning) : (s.modHeader f).given = s.given := by
  apply given_ext <;> first | rfl | assumption | (intro d; rfl)

@[simp] theorem given_with_evals (s : State) (x : List Chan) : ({ s with evals := x } : State).given = s.given := rfl
@[simp] theorem given_with_queue (s : State) (x : ConsentQueue) : ({ s with queue := x } : State).given = s.given := rfl
@[simp] theorem given_with_plan (s : State) (x : Plan) : ({ s with plan := x } : State).given = s.given := rfl

/-! ### Notices -/

@[simp] theorem line_offer (p : Port) (n : Notice) : (p.offer n).line = p.line := by
  unfold Port.offer; repeat' split
  all_goals rfl

@[simp] theorem given_raise (n : Notice) (s : State) : (raise n s).given = s.given := by
  apply given_ext <;> first | rfl | exact line_offer .. | (intro d; rfl)

@[simp] theorem given_noteEntry (ev i s) : (noteEntry ev i s).given = s.given := by
  unfold noteEntry; split <;> simp

@[simp] theorem given_noteChan (ev c s) : (noteChan ev c s).given = s.given := given_raise ..
@[simp] theorem given_noteHeader (ev s) : (noteHeader ev s).given = s.given := given_raise ..
@[simp] theorem given_noteTrip (ev s) : (noteTrip ev s).given = s.given := given_raise ..
@[simp] theorem given_noteProposal (ev p s) : (noteProposal ev p s).given = s.given := given_raise ..
@[simp] theorem given_noteTank (ev t s) : (noteTank ev t s).given = s.given := given_raise ..
@[simp] theorem given_noteLevel (t r s) : (noteLevel t r s).given = s.given := given_raise ..
@[simp] theorem given_noteAlarm (t s) : (noteAlarm t s).given = s.given := given_raise ..
@[simp] theorem given_noteCaution (k a s) : (noteCaution k a s).given = s.given := given_raise ..

/-! ### Folds -/

theorem given_foldl {α : Type} (f : State → α → State) (hf : ∀ s a, (f s a).given = s.given) (xs : List α) (s : State) :
    (xs.foldl f s).given = s.given := by
  induction xs generalizing s with
  | nil => rfl
  | cons x xs ih => rw [List.foldl_cons, ih, hf]

/-! ### Annunciation -/

@[simp] theorem given_judgeHorn (a s) : (judgeHorn a s).given = s.given := by
  unfold judgeHorn; simp only; split
  · rfl
  · rw [given_noteTrip]; exact given_modTrip rfl rfl

@[simp] theorem given_cautionOn (k s) : (cautionOn k s).given = s.given := by
  unfold cautionOn; split
  · rfl
  · rw [given_judgeHorn, given_noteCaution]; exact given_modTrip rfl rfl

@[simp] theorem given_cautionOff (k s) : (cautionOff k s).given = s.given := by
  unfold cautionOff; split
  · rw [given_judgeHorn, given_noteCaution]; exact given_modTrip rfl rfl
  · rfl

@[simp] theorem given_setCaution (k v s) : (setCaution k v s).given = s.given := by
  unfold setCaution; split <;> simp

@[simp] theorem given_setStrain (c v s) : (setStrain c v s).given = s.given := by
  unfold setStrain; split
  · rfl
  · rw [given_setCaution]; exact given_modChan rfl rfl

@[simp] theorem given_setHighSoon (c v s) : (setHighSoon c v s).given = s.given := by
  unfold setHighSoon; split
  · rfl
  · rw [given_setCaution]; exact given_modChan rfl rfl

@[simp] theorem given_setUnmetered (c t v s) : (setUnmetered c t v s).given = s.given := by
  unfold setUnmetered; split
  · rfl
  · rw [given_setCaution]; exact given_modChan rfl rfl

@[simp] theorem given_setGaugeStep (t v s) : (setGaugeStep t v s).given = s.given := by
  unfold setGaugeStep; split
  · rfl
  · rw [given_setCaution]; exact given_modTank rfl

@[simp] theorem given_setConfigDefaults (v s) : (setConfigDefaults v s).given = s.given := by
  unfold setConfigDefaults; split
  · rfl
  · rw [given_setCaution]; rfl

/-! ### Holds, grants and the header -/

@[simp] theorem given_noteHoldsChange (b c s) : (noteHoldsChange b c s).given = s.given := by
  unfold noteHoldsChange; split <;> simp
@[simp] theorem given_noteStateChange (b c s) : (noteStateChange b c s).given = s.given := by
  unfold noteStateChange; split <;> simp

theorem given_updateChan {c : Chan} {f : Channel → Channel} {s : State} (hi : (f (s.chan c)).inputs = (s.chan c).inputs)
    (hm : (f (s.chan c)).meter.counts = (s.chan c).meter.counts) : (updateChan c f s).given = s.given := by
  simp [updateChan, given_modChan hi hm]

theorem given_moveChan {c : Chan} {f : Channel → Channel} {s : State} (hi : (f (s.chan c)).inputs = (s.chan c).inputs)
    (hm : (f (s.chan c)).meter.counts = (s.chan c).meter.counts) : (moveChan c f s).given = s.given := by
  simp [moveChan, given_modChan hi hm]

theorem inputs_holdWith (k : Channel) (rs) : (k.holdWith rs).inputs = k.inputs := by
  unfold Channel.holdWith; simp only; repeat' split
  all_goals rfl

theorem counts_holdWith (k : Channel) (rs) : (k.holdWith rs).meter.counts = k.meter.counts := by
  unfold Channel.holdWith; simp only; repeat' split
  all_goals rfl

@[simp] theorem given_addHolds (c rs s) : (addHolds c rs s).given = s.given :=
  given_updateChan (inputs_holdWith ..) (counts_holdWith ..)

@[simp] theorem given_removeHolds (c rs s) : (removeHolds c rs s).given = s.given := given_updateChan rfl rfl

@[simp] theorem given_putLists (h l s) : (putLists h l s).given = s.given := by
  unfold putLists; split
  · rfl
  · rw [given_noteHeader]; exact given_modHeader rfl rfl

@[simp] theorem given_rotate (c s) : (rotate c s).given = s.given := by unfold rotate; split <;> simp
@[simp] theorem given_moveGroup (c g s) : (moveGroup c g s).given = s.given := by
  unfold moveGroup; simp only; split <;> simp

@[simp] theorem given_giveGrant (c g s) : (giveGrant c g s).given = s.given := by
  unfold giveGrant; simp only
  apply given_modChan <;> (split <;> first | rfl | (split <;> rfl))

@[simp] theorem given_noteRegrant (b c s) : (noteRegrant b c s).given = s.given := by
  simp [noteRegrant]

@[simp] theorem given_regrant (z s) : (regrant z s).given = s.given := by
  unfold regrant; simp only [given_with_evals]
  rw [given_foldl _ (by simp)]
  split <;> simp [given_foldl]

@[simp] theorem given_addHold (c r s) : (addHold c r s).given = s.given := by unfold addHold; split <;> simp
@[simp] theorem given_removeHold (c r s) : (removeHold c r s).given = s.given := by unfold removeHold; split <;> simp

theorem given_changeHeader {f : Header → Header} {s : State} (hd : (f s.header).dp = s.header.dp)
    (hp : (f s.header).pumpRunning = s.header.pumpRunning) : (changeHeader f s).given = s.given := by
  have h := given_modHeader hd hp
  unfold changeHeader; simp only; split <;> simp [h]

@[simp] theorem given_holdCallers (rs s) : (holdCallers rs s).given = s.given := by
  unfold holdCallers; apply given_foldl; intro x c; split <;> simp
@[simp] theorem given_freeCallers (rs s) : (freeCallers rs s).given = s.given := by
  unfold freeCallers; apply given_foldl; intro x c; split <;> simp
@[simp] theorem given_zeroGrants (s) : (zeroGrants s).given = s.given := by
  unfold zeroGrants; apply given_foldl; intro x c; repeat' split
  · simp
  · rfl
  · exact given_modChan rfl rfl

@[simp] theorem given_startPriming (s) : (startPriming s).given = s.given := by
  unfold startPriming; split <;> (rw [given_holdCallers]; exact given_changeHeader rfl rfl)
@[simp] theorem given_enterServing (s) : (enterServing s).given = s.given := by
  unfold enterServing; rw [given_freeCallers]; exact given_changeHeader rfl rfl
@[simp] theorem given_headerCall (c s) : (headerCall c s).given = s.given := by
  unfold headerCall; split <;> simp
@[simp] theorem given_headerUncall (s) : (headerUncall s).given = s.given := by
  unfold headerUncall; repeat' split
  all_goals first | rfl | exact given_changeHeader rfl rfl
@[simp] theorem given_repriming (s) : (repriming s).given = s.given := by
  have h (x : State) : (changeHeader (fun h =>
    { h with state := .idle, returnState := none, primeTimer := none, waitTimer := none }) x).given = x.given :=
    given_changeHeader rfl rfl
  unfold repriming; simp only; split <;> simp [h]
@[simp] theorem given_tripHeader (s) : (tripHeader s).given = s.given := by
  have h (x : State) : (changeHeader (fun h =>
    { h with state := .tripped, returnState := none, primeTimer := none, waitTimer := none }) x).given = x.given :=
    given_changeHeader rfl rfl
  have h2 : (chans.foldl (fun x c => x.modChan c fun k => { k with grant := 0 }) s).given = s.given :=
    given_foldl _ (fun x c => given_modChan rfl rfl) _ _
  unfold tripHeader; simp only; split <;> simp [h, h2]

/-! ### Closes and ends -/

@[simp] theorem given_closeValve (c s) : (closeValve c s).given = s.given := by
  unfold closeValve; split <;> first | rfl | exact given_updateChan rfl rfl | exact given_moveChan rfl rfl
@[simp] theorem given_closeChannel (c s) : (closeChannel c s).given = s.given := by
  unfold closeChannel; simp only; repeat' split
  all_goals simp
@[simp] theorem given_clearSlug (i s) : (clearSlug i s).given = s.given := by
  unfold clearSlug; simp only; repeat' split
  all_goals simp
@[simp] theorem given_markEnd (i r s) : (markEnd i r s).given = s.given := by
  unfold markEnd; repeat' split
  all_goals simp
@[simp] theorem given_setAuth (c v s) : (setAuth c v s).given = s.given := by
  unfold setAuth; split
  · rfl
  · rw [given_noteChan]; exact given_modChan rfl rfl
@[simp] theorem given_leaveActive (c t s) : (leaveActive c t s).given = s.given := by
  unfold leaveActive; simp only [given_removeHolds]; rw [given_modTank rfl]; simp
@[simp] theorem given_setEnded (c s) : (setEnded c s).given = s.given := rfl
@[simp] theorem given_promote (c s) : (promote c s).1.given = s.given := by
  unfold promote; repeat' split
  all_goals rfl
@[simp] theorem given_applyEnd (c i s) : (applyEnd c i s).given = s.given := by
  unfold applyEnd; simp only
  repeat' split
  all_goals simp
@[simp] theorem given_settleEnd (c s) : (settleEnd c s).given = s.given := by
  unfold settleEnd; repeat' split
  all_goals simp
@[simp] theorem given_settleSet (b c s) : (settleSet b c s).given = s.given := by
  unfold settleSet; split <;> simp
@[simp] theorem given_endCurrent (c i r s) : (endCurrent c i r s).given = s.given := by
  unfold endCurrent; simp only; repeat' split
  all_goals simp
@[simp] theorem given_returnToAwait (c s) : (returnToAwait c s).given = s.given := by
  unfold returnToAwait; split <;> simp

/-! ### Stops and shutdowns -/

@[simp] theorem given_withdrawWhere (p k s) : (withdrawWhere p k s).given = s.given := by
  unfold withdrawWhere; simp only; rw [given_foldl _ (by simp)]; rfl
@[simp] theorem given_judgeSettled (s) : (judgeSettled s).given = s.given := by
  unfold judgeSettled; split
  · rw [given_noteTrip]; exact given_modTrip rfl rfl
  · rfl
@[simp] theorem given_shutChannel (c s) : (shutChannel c s).given = s.given := by simp [shutChannel]
@[simp] theorem given_shutdownEffects (e f b s) : (shutdownEffects e f b s).given = s.given := by
  unfold shutdownEffects; simp only [given_judgeSettled]; split <;> simp [given_foldl]

theorem loops_offer (t : Trip) (e : CauseEntry) (k : ShutdownCause) :
    ((t.offer e).1.mark k).loopBOpen = t.loopBOpen ∧ ((t.offer e).1.mark k).loopSOpen = t.loopSOpen := by
  have h (x : Trip) : (x.mark k).loopBOpen = x.loopBOpen ∧ (x.mark k).loopSOpen = x.loopSOpen := by
    cases k <;> exact ⟨rfl, rfl⟩
  rw [(h _).1, (h _).2]
  unfold Trip.offer; simp only
  generalize (match t.firstOut with
    | some f => f.cause == e.cause || t.later.any fun x => x.cause == e.cause
    | none => t.later.any fun x => x.cause == e.cause) = b
  repeat' split
  all_goals exact ⟨rfl, rfl⟩

@[simp] theorem given_shutdownTripped (k o s) : (shutdownTripped k o s).given = s.given := by
  unfold shutdownTripped; simp only [given_shutdownEffects]
  exact given_modTrip (loops_offer ..).1 (loops_offer ..).2
@[simp] theorem given_unprovenAtTrip (c s) : (unprovenAtTrip c s).given = s.given := by
  unfold unprovenAtTrip; split <;> simp
@[simp] theorem given_shutdown (k o s) : (shutdown k o s).given = s.given := by
  unfold shutdown; simp only; split
  · rw [given_shutdownEffects, given_foldl _ (by simp)]
    exact (given_modTrip rfl rfl).trans (given_modTrip (loops_offer ..).1 (loops_offer ..).2)
  · rw [given_shutdownEffects]; exact given_modTrip (loops_offer ..).1 (loops_offer ..).2
@[simp] theorem given_goFault (c s) : (goFault c s).given = s.given := by
  have h : (moveChan c Channel.faulted s).given = s.given := given_moveChan rfl rfl
  unfold goFault; simp only [given_regrant]; split <;> simp [h]
@[simp] theorem given_channelStop (k o t c s) : (channelStop k o t c s).given = s.given := by
  have h (x : LastStop) : (s.modChan c fun k => { k with lastStop := some x }).given = s.given := given_modChan rfl rfl
  unfold channelStop; simp only [given_noteChan, given_judgeHorn]
  repeat' split
  all_goals simp [h]
@[simp] theorem given_valveFault (c s) : (valveFault c s).given = s.given := by
  unfold valveFault; repeat' split
  all_goals simp

/-! ### The ladder and a start -/

@[simp] theorem given_setAbove (t v s) : (setAbove t v s).given = s.given := by
  unfold setAbove; split
  · rfl
  · rw [given_noteTank]; exact given_modTank rfl
@[simp] theorem given_judgeAbove (t s) : (judgeAbove t s).given = s.given := by unfold judgeAbove; split <;> simp
@[simp] theorem given_lowerStage (i x s) : (lowerStage i x s).given = s.given := by simp [lowerStage]
@[simp] theorem given_finalStage (c i s) : (finalStage c i s).given = s.given := by simp [finalStage]
@[simp] theorem given_sizeSlug (c i v m s) : (sizeSlug c i v m s).given = s.given := by
  unfold sizeSlug; simp only; repeat' split
  all_goals simp
@[simp] theorem given_applyStage (k c i h d s) : (applyStage k c i h d s).given = s.given := by
  unfold applyStage; simp only
  repeat' split
  all_goals simp
@[simp] theorem given_endSettling (c i v m s) : (endSettling c i v m s).given = s.given := by
  unfold endSettling; repeat' split
  all_goals simp
@[simp] theorem given_meterHalf (c i a s) : (meterHalf c i a s).given = s.given := by
  unfold meterHalf; repeat' split
  all_goals simp
@[simp] theorem given_writeMargin (i q a h s) : (writeMargin i q a h s).given = s.given := by simp [writeMargin]
@[simp] theorem given_evaluate (k c s) : (evaluate k c s).given = s.given := by
  unfold evaluate; simp only
  split
  · rw [given_settleSet, given_writeMargin, given_meterHalf]
    split
    · split <;> simp
    · rfl
  · rfl
@[simp] theorem given_runEvals (n s) : (runEvals n s).given = s.given := by
  induction n generalizing s with
  | zero => rfl
  | succ n ih =>
    unfold runEvals; split
    · rfl
    · rw [ih]; simp
theorem given_effect (f : State → State) (s : State) : (effect f s).given = (f s).given := by simp [effect]

@[simp] theorem given_activate (c i s) : (activate c i s).given = s.given := by simp [activate]
@[simp] theorem given_beginPressureWatch (c s) : (beginPressureWatch c s).given = s.given := by
  unfold beginPressureWatch; split
  · exact given_modChan rfl rfl
  · rfl
@[simp] theorem given_sourceLowHold (c s) : (sourceLowHold c s).given = s.given := by
  unfold sourceLowHold; rw [given_addHold]; exact given_modChan rfl rfl
@[simp] theorem given_beginSourceWatch (c s) : (beginSourceWatch c s).given = s.given := by
  unfold beginSourceWatch; split <;> simp
@[simp] theorem given_openValve (c s) : (openValve c s).given = s.given := by
  have h (x y : Nat) : (updateChan c (fun k =>
    { k with state := .opening, command := .toOpen, openingStarted := some x, strokeTimer := some y,
             hose := .hoseFull }) s).given = s.given := given_updateChan rfl rfl
  unfold openValve; simp only; split <;> simp [h]
@[simp] theorem given_takeStart (c i s) : (takeStart c i s).given = s.given := by
  unfold takeStart; simp only; repeat' split
  all_goals simp
@[simp] theorem given_judgeStart (c s) : (judgeStart c s).given = s.given := by
  unfold judgeStart; repeat' split
  all_goals simp

/-! ### A reading and its consequences -/

@[simp] theorem given_flushWindow (t s) : (flushWindow t s).given = s.given := by
  unfold flushWindow; rw [given_setAbove]; exact given_modTank rfl
@[simp] theorem given_takeIn (t l s) : (takeIn t l s).given = s.given := by
  have h (w : List Reading) (x y : Nat) : (s.modTank t fun k => { k with
    window := addReading k.window { level := l, stamp := s.now }, suspect := none, stale := false,
    staleTimer := some x, stepRef := some y }).given = s.given := given_modTank rfl
  unfold takeIn; simp only; split
  · rw [given_setGaugeStep]; exact given_modTank rfl
  · exact given_modTank rfl
@[simp] theorem given_takeSuspect (t o s) : (takeSuspect t o s).given = s.given := by
  unfold takeSuspect; rw [given_flushWindow]; exact given_modTank rfl
@[simp] theorem given_judgeReading (t l q s) : (judgeReading t l q s).given = s.given := by
  unfold judgeReading; repeat' split
  all_goals simp
@[simp] theorem given_noteLevelChange (t b o r s) : (noteLevelChange t b o r s).given = s.given := by
  unfold noteLevelChange; simp only; split <;> simp
@[simp] theorem given_judgeHihi (t b s) : (judgeHihi t b s).given = s.given := by
  unfold judgeHihi; simp only; split <;> simp
@[simp] theorem given_judgeHi (t b s) : (judgeHi t b s).given = s.given := by
  have h (x : State) (i : EntryId) : (x.modTank t fun k => { k with hiStopMark := some i }).given = x.given :=
    given_modTank rfl
  unfold judgeHi; repeat' split
  all_goals simp [h]
@[simp] theorem given_judgeBlind (t s) : (judgeBlind t s).given = s.given := by
  have h (x : State) (v : Option Nat) : (x.modTank t fun k => { k with blindTimer := v }).given = x.given :=
    given_modTank rfl
  unfold judgeBlind; repeat' split
  all_goals simp [h]
@[simp] theorem given_compareVolumes (c i e v s) : (compareVolumes c i e v s).given = s.given := by
  unfold compareVolumes; simp only; split <;> simp
@[simp] theorem given_reconcile (t s) : (reconcile t s).given = s.given := by
  unfold reconcile; simp only; repeat' split
  all_goals simp
@[simp] theorem given_evaluateReading (t s) : (evaluateReading t s).given = s.given := by
  unfold evaluateReading; repeat' split
  all_goals simp
@[simp] theorem given_startAfterLevel (t b s) : (startAfterLevel t b s).given = s.given := by
  unfold startAfterLevel; repeat' split
  all_goals simp
@[simp] theorem given_acceptReading (t l q a b s) : (acceptReading t l q a b s).given = s.given := by
  have h : (s.modTank t fun k => { k with shipHi := a, shipHihi := b }).given = s.given := given_modTank rfl
  have h2 (x : State) : (x.modTank t Tank.judgeOwn).given = x.given := by
    apply given_modTank; unfold Tank.judgeOwn; split <;> rfl
  unfold acceptReading; simp only [given_startAfterLevel]
  split <;> simp [h, h2]
@[simp] theorem given_takeStale (t s) : (takeStale t s).given = s.given := by
  have h : (s.modTank t fun k => { k with stale := true, staleTimer := none }).given = s.given := given_modTank rfl
  unfold takeStale; simp only; split <;> simp [h]
@[simp] theorem given_takeBlind (t s) : (takeBlind t s).given = s.given := by
  have h : (s.modTank t fun k => { k with blindTimer := none }).given = s.given := given_modTank rfl
  unfold takeBlind; simp only; repeat' split
  all_goals simp [h]

/-! ### Pulses, strokes, watches and the header -/

@[simp] theorem given_endSlug (c i t s) : (endSlug c i t s).given = s.given := by simp [endSlug]
@[simp] theorem given_testSlug (c i s) : (testSlug c i s).given = s.given := by
  unfold testSlug; repeat' split
  all_goals simp
@[simp] theorem given_testAllotment (c i s) : (testAllotment c i s).given = s.given := by
  unfold testAllotment; repeat' split
  all_goals simp
@[simp] theorem given_workMargin (c i s) : (workMargin c i s).given = s.given := by
  unfold workMargin; simp only; repeat' split
  all_goals simp
@[simp] theorem given_handPulse (c s) : (handPulse c s).given = s.given := by
  unfold handPulse; simp only; repeat' split
  all_goals simp
@[simp] theorem given_takeStall (c s) : (takeStall c s).given = s.given := by unfold takeStall; split <;> simp
@[simp] theorem given_takeStroke (c s) : (takeStroke c s).given = s.given := by unfold takeStroke; split <;> simp
@[simp] theorem given_takeOverpressure (c s) : (takeOverpressure c s).given = s.given := by
  unfold takeOverpressure; split <;> simp
@[simp] theorem given_takeSourceEmpty (c s) : (takeSourceEmpty c s).given = s.given := by
  unfold takeSourceEmpty; split <;> simp
@[simp] theorem given_takeStrainDwell (c s) : (takeStrainDwell c s).given = s.given := by
  unfold takeStrainDwell; split
  · rw [given_shutdown]; exact given_modChan rfl rfl
  · rfl
@[simp] theorem given_takePrime (s) : (takePrime s).given = s.given := by
  unfold takePrime; repeat' split
  all_goals simp
@[simp] theorem given_takeWait (s) : (takeWait s).given = s.given := by unfold takeWait; split <;> simp
@[simp] theorem given_takeLapse (i s) : (takeLapse i s).given = s.given := by
  unfold takeLapse; repeat' split
  all_goals simp
@[simp] theorem given_suspend (h s) : (suspend h s).given = s.given := by
  have h2 (x : State) (a : Option HeaderState) (b : Option Nat) : (changeHeader (fun k =>
    { k with state := .waiting, returnState := a, primeTimer := none, waitTimer := b }) x).given = x.given :=
    given_changeHeader rfl rfl
  simp [suspend, h2]
@[simp] theorem given_restHeader (h s) : (restHeader h s).given = s.given := given_changeHeader rfl rfl
@[simp] theorem given_resume (h s) : (resume h s).given = s.given := by
  unfold resume; repeat' split
  all_goals simp
@[simp] theorem given_reachOpen (c s) : (reachOpen c s).given = s.given := by
  unfold reachOpen; simp only [given_regrant, given_headerCall]; exact given_moveChan rfl rfl
@[simp] theorem given_reachClosed (c s) : (reachClosed c s).given = s.given := by
  unfold reachClosed; simp only [given_judgeStart, given_noteChan, given_settleEnd]; exact given_modChan rfl rfl
@[simp] theorem given_leaveClosed (c s) : (leaveClosed c s).given = s.given := given_updateChan rfl rfl
@[simp] theorem given_closedReached (c s) : (closedReached c s).given = s.given := by
  have h : (s.modChan c fun k => { k with strokeTimer := none }).given = s.given := given_modChan rfl rfl
  unfold closedReached; repeat' split
  all_goals simp [h]
@[simp] theorem given_closedLost (c s) : (closedLost c s).given = s.given := by
  unfold closedLost; split <;> first | rfl | simp | exact given_modChan rfl rfl
@[simp] theorem given_openReached (c s) : (openReached c s).given = s.given := by
  unfold openReached; repeat' split
  all_goals simp
@[simp] theorem given_openLost (c s) : (openLost c s).given = s.given := by unfold openLost; split <;> simp

end Sys2Proof.Machine
end

