-- ==== Sys2Proof/Laws/Ops.lean ====
section
/-! SUPPORT. What the shared operations can do, said once: every command and step answers a next state, how a port takes a notice, what a
window and a table's slots hold after a reading and a put. -/

namespace Sys2Proof.Machine

/-- Every command answers a next state: no command of this part stops it. -/
theorem exec_answers (i : Instr) (s : State) : ∃ t, exec i s = .next t := by cases i <;> exact ⟨_, rfl⟩

/-- Every step answers a next state. -/
theorem step_answers (s : State) : ∃ t, step s = .next t := by
  unfold step
  split
  · exact ⟨_, rfl⟩
  · exact exec_answers _ _

/-- No evaluation is left when a command ends (log 17). -/
theorem withEvals_evals (f : State → State) (s : State) : (withEvals f s).evals = [] := rfl

/-! ### The transmitters (R171) -/

/-- A transmitter that is sending goes on. -/
theorem begin_sending {x : Port} {f : OutFrame} (h : x.sending = some f) : x.begin = x := by simp [Port.begin, h]

/-- A free transmitter takes the oldest reply. -/
theorem begin_reply {x : Port} {r : Reply} {rs : List Reply} (h : x.sending = none) (hr : x.replies = r :: rs) :
    x.begin = { x with replies := rs, sending := some (.reply r) } := by simp [Port.begin, Port.transmit, h, hr]

/-- With no reply waiting it takes the oldest notice. -/
theorem begin_notice {x : Port} {n : Notice} {ns : List Notice} (h : x.sending = none) (hr : x.replies = [])
    (hn : x.notices = n :: ns) : x.begin = { x with notices := ns, sending := some (.notice n) } := by
  simp [Port.begin, Port.transmit, h, hr, hn]

/-- With nothing waiting it stays free. -/
theorem begin_nothing {x : Port} (h : x.sending = none) (hr : x.replies = []) (hn : x.notices = []) : x.begin = x := by
  cases x; simp_all [Port.begin, Port.transmit]

/-- A transmitter that has begun leaves nothing waiting unless it sends. -/
theorem begin_settled (x : Port) : x.begin.Settled := by
  unfold Port.begin Port.transmit Port.Settled
  repeat' split
  all_goals simp_all

/-- A transmitter begins once: begun again, it goes on as it is. -/
theorem begin_begin (x : Port) : x.begin.begin = x.begin := by
  cases h : x.begin.sending with
  | some f => exact begin_sending h
  | none => exact begin_nothing h (begin_settled x h).1 (begin_settled x h).2

/-- A transmitter takes frames; it adds none to what waits. -/
theorem begin_length (x : Port) : x.begin.replies.length ≤ x.replies.length ∧ x.begin.notices.length ≤ x.notices.length := by
  unfold Port.begin Port.transmit
  repeat' split
  all_goals simp_all

/-! ### The stored copy (R176) -/

/-- A copy written whole agrees with its check word. -/
theorem whole_agrees (k : SiteConfig) : (StoredCopy.whole k).agrees = true := by simp [StoredCopy.agrees, StoredCopy.whole]

/-- A copy not relied on does not agree. -/
theorem unrelied_disagrees (n : Nat) : (StoredCopy.unrelied n).agrees = false := by
  by_cases h : Config.checkWord (Config.unreliedItems n) = Config.unreliedWord n <;>
    simp [StoredCopy.agrees, StoredCopy.unrelied, failingWord, h]

/-- The store of State.reset was never written: its copy does not agree. -/
theorem resetStore_disagrees : resetStore.copy.agrees = false := by
  simp [StoredCopy.agrees, resetStore]

/-! ### Notices and counts -/

/-- A time stamp within its 32 bits is the sum. -/
theorem stampAdd_small {t d : Nat} (h : t + d < 4294967296) : stampAdd t d = t + d := by simp [stampAdd, h]

/-- A SILENT port drops a notice (R172). -/
theorem offer_silent {p : Port} (n : Notice) (h : p.link = .silent) : p.offer n = p := by simp [Port.offer, h]

/-- A LIVE port with room takes a notice at the tail (R172). -/
theorem offer_room {p : Port} (n : Notice) (h : p.link = .live) (hn : p.notices.length < 16) :
    p.offer n = { p with notices := p.notices ++ [n] } := by simp [Port.offer, h, hn]

/-- A LIVE port with 16 waiting drops a notice and sets notices lost (R172). -/
theorem offer_full {p : Port} (n : Notice) (h : p.link = .live) (hn : 16 ≤ p.notices.length) :
    p.offer n = { p with lost := true } := by simp [Port.offer, h, Nat.not_lt.mpr hn]

/-- A notice offered keeps what waits, in its order (R172). -/
theorem offer_prefix (n : Notice) (p : Port) : p.notices <+: (p.offer n).notices := by
  unfold Port.offer
  split
  · exact List.prefix_rfl
  · split
    · exact List.prefix_append _ _
    · exact List.prefix_rfl

/-- A notice offered keeps the queue within 16 (R172). -/
theorem offer_length {p : Port} (n : Notice) (h : p.notices.length ≤ 16) : (p.offer n).notices.length ≤ 16 := by
  unfold Port.offer
  split
  · exact h
  · split
    · simp; omega
    · exact h

/-- A window never holds more than 8 readings (R39). -/
theorem addReading_length (w : List Reading) (r : Reading) : (addReading w r).length ≤ 8 := by
  unfold addReading
  split <;> simp <;> omega

/-- The reading added is the newest (R39). -/
theorem addReading_last (w : List Reading) (r : Reading) : (addReading w r).getLast? = some r := by simp [addReading]

/-- A put leaves every slot before its first as it was (R26). -/
theorem writePoints_before (ps : List Point) :
    ∀ (v : Vector (Option Point) 16) (i : Nat) (j : Fin 16), j.val < i → (writePoints v i ps).get j = v.get j := by
  induction ps with
  | nil => intro v i j _; rfl
  | cons p ps ih =>
    intro v i j h
    rw [writePoints, ih _ _ _ (by omega)]
    simp only [Vector.get_eq_getElem]
    rw [Vector.getElem_setIfInBounds_ne]; omega

/-- A put leaves every slot past its last as it was (R26). -/
theorem writePoints_past (ps : List Point) :
    ∀ (v : Vector (Option Point) 16) (i : Nat) (j : Fin 16), i + ps.length ≤ j.val → (writePoints v i ps).get j = v.get j := by
  induction ps with
  | nil => intro v i j _; rfl
  | cons p ps ih =>
    intro v i j h
    simp only [List.length_cons] at h
    rw [writePoints, ih _ _ _ (by omega)]
    simp only [Vector.get_eq_getElem]
    rw [Vector.getElem_setIfInBounds_ne]; omega

end Sys2Proof.Machine
end

