-- ==== Sys2Proof/Tests/Slice0.lean ====
section
/-! SUPPORT. Tests: the checks of WellFormed, the manual's worked cases (figures from its tables), and for each statement with
hypotheses a state and operands that meet them. -/

-- One kernel check at a time: their threads together would pass the sandbox's limit.
set_option Elab.async false

namespace Sys2Proof.Tests

open Sys2Proof Sys2Proof.Machine

/-! ### What WellFormed refuses -/

theorem test_wf_body_121 : (Instr.status .barge (List.replicate 121 0)).wellFormed = false := by decide
theorem test_wf_body_120 : (Instr.status .barge (List.replicate 120 0)).wellFormed = true := by decide
theorem test_wf_stop_all_under_stop : (Instr.stop .ship [7, 0xFF]).wellFormed = false := by decide
theorem test_wf_stop_of_a_channel : (Instr.stop .ship [7, 3]).wellFormed = true := by decide
theorem test_wf_pressure : (Instr.pressureReachesMax 0 2501).wellFormed = false := by decide
theorem test_wf_tension : (Instr.tensionReachesStrainTrip 0 5001).wellFormed = false := by decide
theorem test_wf_assigned_kind : (Instr.unassignedKindFrame .barge 0x08 [7]).wellFormed = false := by decide
theorem test_wf_reply_kind : (Instr.unassignedKindFrame .barge 0x80 [7]).wellFormed = true := by decide
theorem test_wf_lapse_id_0 : (Instr.lapseTimerExpiry 0).wellFormed = false := by decide
theorem test_wf_lapse_id_256 : (Instr.lapseTimerExpiry 256).wellFormed = false := by decide

theorem test_wf_power_on_inputs :
    (Instr.powerOn { resetInputs with
      channels := resetInputs.channels.set 2 { openLimit := false, closedLimit := true, pressure := 2501, tension := 0,
                                               sourceLow := false } }).wellFormed = false := by decide

/-! ### Frames and bodies, from the bytes of R164 and R174 -/

/-- R164's note: the CRC over $31 to $39 is $29B1. -/
theorem test_crc_check_value : crc16 [0x31, 0x32, 0x33, 0x34, 0x35, 0x36, 0x37, 0x38, 0x39] = 0x29B1#16 := by
  decide +kernel

/-- LEVEL of tank 4, 8,933 mm ($22E5), GOOD, HIHI set (bit 1). -/
theorem test_read_level :
    decodeRequest .level [0x07, 0x04, 0x22, 0xE5, 0x00, 0x02] = some (.level 4 8933 .good false true) := by decide

/-- A flag byte with bit 2 set is no value of its type. -/
theorem test_read_level_flags : decodeRequest .level [0x07, 0x04, 0x22, 0xE5, 0x00, 0x04] = none := by decide

/-- PROPOSE of a PLAN: channel 1, tank 4, 200,000 L ($00030D40), 1,800 L/min ($0708), BATCH. -/
theorem test_read_propose_plan :
    decodeRequest .propose [0x07, 0x00, 0x01, 0x04, 0x00, 0x03, 0x0D, 0x40, 0x07, 0x08, 0x01]
      = some (.propose (.plan 1 4 200000 1800 .batch)) := by decide

/-- ENDORSE of proposal 12, CLEAR of code 1; one byte more is a body of another length. -/
theorem test_read_endorse_clear :
    decodeRequest .endorse [0x07, 0x0C, 0x04, 0x01] = some (.endorse 12 (.clear 1))
      ∧ decodeRequest .endorse [0x07, 0x0C, 0x04, 0x01, 0x00] = none := by decide

/-- STRAP-SEAL of 4 points with check word 1,890,000 ($001CD6D0). -/
theorem test_read_strap_seal :
    decodeRequest .strapSeal [0x07, 0x04, 0x00, 0x1C, 0xD6, 0xD0] = some (.strapSeal 4 1890000) := by decide

/-- LINEUP: READY is $00. PRIORITY: GROUPED is $01, and $02 is no value. -/
theorem test_read_choices :
    decodeRequest .lineup [0x07, 0x05, 0x00] = some (.lineup 5 .ready)
      ∧ decodeRequest .priority [0x07, 0x01] = some (.priority .grouped) ∧ decodeRequest .priority [0x07, 0x02] = none := by
  decide

/-- A body of LEN 0 has no tag and the length of no kind (R167). -/
theorem test_read_empty_body : decodeRequest .status [] = none ∧ bodyTag [] = 0 := by decide

/-- KINDs of R174, and a reply's kind, which is no request's. -/
theorem test_kinds :
    RequestKind.ofCode 0x08 = some .stop ∧ RequestKind.ofCode 0x26 = some .store ∧ RequestKind.ofCode 0x20 = some .chconfig
      ∧ RequestKind.ofCode 0x80 = none ∧ RequestKind.ofCode 0x0C = none := by decide

/-- The table gives no row bits, so no word spells a command. -/
theorem test_no_word_spells_a_command : decodeTableWord 8 0 = none := by decide

/-! ### States to test on -/

/-- A request with tag 7. -/
def msg (r : Request) : List Byte := encodeRequest 7 r

/-- Tank 4's declaration in 2.9, event 7. -/
def decl4 : TankDecl :=
  { grade := 1, hHi := 9500, hHihi := 9800, slosh := 60, toppingVolume := 60000, toppingRate := 900, slugVolume := 5000,
    stepLimit := 300 }

/-- Tank 4's points in 2.9, event 4. -/
def table4 : List Point := [⟨0, 0⟩, ⟨2000, 180000⟩, ⟨8000, 760000⟩, ⟨10000, 930000⟩]

/-- Tank 4 of 2.9, SEALED, with a window of these levels. -/
def tank4 (levels : List Nat) : Tank :=
  { Tank.blank with
    decl := some decl4, strap := .sealed 4
    points := (((Tank.blank.points.set 0 (some ⟨0, 0⟩)).set 1 (some ⟨2000, 180000⟩)).set 2 (some ⟨8000, 760000⟩)).set 3
      (some ⟨10000, 930000⟩)
    window := levels.map fun l => { level := l, stamp := 0 }
    staleTimer := if levels = [] then none else some 20, stepRef := levels.getLast? }

/-- The window of 3.8 after reading 7. -/
def seven : List Nat := [8920, 8935, 8910, 8950, 8928, 8941, 8915]

/-- A port that is LIVE. -/
def livePort : Port := { Port.blank with link := .live, silenceTimer := some 5 }

/-- The configuration of the worked cases of chapters 4 and 7: hose drain 600 L, K = 987. -/
def site : SiteConfig :=
  { SiteConfig.default with
    channels := Vector.replicate 4 { ChannelConfig.default with hoseDrain := 600, kFactor := 987 } }

/-- The part NORMAL and at rest, both ports LIVE, every channel IDLE. -/
def calm : State :=
  { State.reset with
    header := { State.reset.header with state := .idle }
    trip := { State.reset.trip with state := .normal, firstOut := none, cautions := [], horn := .quiet }
    store := { resetStore with configDefaults := false }
    channels := State.reset.channels.map fun k => { k with state := .idle }
    config := site, portB := livePort, portS := livePort }

/-- `calm` with channel `c` as given. -/
def withChan (c : Chan) (f : Channel → Channel) (s : State) : State := s.modChan c f

/-- `calm` with tank 4 as in chapter 2, its window these levels. -/
def tanked (levels : List Nat) : State := calm.setTank 4 (tank4 levels)

/-- An entry of channel 1 into tank 4. -/
def entry4 : Entry := Entry.fresh 1 4 .batch 200000 1800 .await

/-- Tank 4 STEADY, and an entry in slot 0. -/
def planned (e : Entry) : State :=
  let s := tanked (seven ++ [8933])
  { s with plan := { slots := Plan.blank.slots.set 0 (some e), nextId := 1 } }

/-- The entry of 4.9 and 7.11: ACTIVE in stage OPEN, 127,800 L delivered. -/
def active4 : Entry :=
  { entry4 with
    state := .active, delivered := 127800, lineup := .ready, stage := some .full, baseline := some ⟨0, 987⟩
    meterBaseline := some 0, startVolume := some 712440, startQuality := some .steady, credit := 600, started := some 0
    slug := some ⟨.idle, none, none⟩, recon := some ⟨.activation, none⟩ }

/-- Channel 1 open for service: FLOWING with a grant of 1,800. -/
def flowing1 (k : Channel) : Channel :=
  { k with
    state := .flowing, command := .toOpen, openLimit := true, closedLimit := false, authorised := true, hose := .hoseFull
    grant := 1800, meter := { k.meter with total := 1261386, rate := 1812, stallTimer := some 20 } }

/-- The part of 4.9: SERVING, channel 1 FLOWING into tank 4. -/
def serving (levels : List Nat) (e : Entry) : State :=
  let s := withChan 1 flowing1 (tanked levels)
  { s with
    plan := { slots := Plan.blank.slots.set 0 (some e), nextId := 1 }
    header := { s.header with state := .serving, pumpRunning := true } }

/-- `s` after a command that answers a next state. -/
def after (i : Instr) (s : State) : State :=
  match exec i s with
  | .next t => t
  | .fault r => nomatch r
  | .refused _ => s

/-- The newest reply of a port: the last that waits, else the one in transmission. -/
def reply (p : Side) (s : State) : Option Result :=
  match (s.port p).replies.getLast?, (s.port p).sending with
  | some r, _ => some r.result
  | none, some (.reply r) => some r.result
  | none, _ => none

/-! ### The worked cases -/

/-- 2.10: conversions on tank 4, and the truncation note. -/
theorem test_conversions :
    [1000, 8000, 8929, 8990, 9500, 10000, 10400, 2001].map (fun h => volumeAt h table4)
      = [90000, 760000, 838965, 844150, 887500, 930000, 930000, 180096].map some := by decide +kernel

/-- 2.9, event 5: the check word differs. -/
theorem test_seal_check :
    reply .ship (after (.strapSeal .ship (msg (.strapSeal 4 1861000)))
      { calm.setTank 4 { tank4 [] with strap := .unsealed } with cursor := ⟨4, 4⟩ }) = some (.refused .check) := by
  decide +kernel

/-- 2.9, event 8: the seal. -/
theorem test_seal_done :
    ((after (.strapSeal .ship (msg (.strapSeal 4 1890000)))
      { calm.setTank 4 { tank4 [] with strap := .unsealed } with cursor := ⟨4, 4⟩ }).tank 4).strap = .sealed 4 := by
  decide +kernel

/-- 3.8, reading 8: STEADY with 8,929. -/
theorem test_window_steady :
    reply .ship (after (.level .ship (msg (.level 4 8933 .good false false))) (tanked seven))
      = some (.done (.level .steady (some 8929) none)) := by decide +kernel

/-- 3.8, reading 11: a jump of 430 mm is marked by the part, GAUGE_STEP is active, and the reply reports origin WATCH. -/
theorem test_gauge_jump :
    let t := after (.level .ship (msg (.level 4 9300 .good false false)))
      (tanked [8910, 8950, 8928, 8941, 8915, 8933, 8962, 8870])
    let k := t.tank 4
    k.suspect = some .watch ∧ k.window = [] ∧ k.stepRef = none ∧ k.gaugeStep = true
      ∧ reply .ship t = some (.done (.level .suspect none (some .watch))) := by decide +kernel

/-- 4.9: the evaluation at a STEADY reading, and the regrant it brings. -/
theorem test_steady_evaluation :
    let t := after (.level .ship (msg (.level 4 8933 .good false false))) (serving seven active4)
    (t.chan 1).grant = 900 ∧ (t.entry 0).bind Entry.stage = some .topping
      ∧ ((t.entry 0).bind Entry.margin) = some
          { evaluatedAt := 0, q := 1812, aClose := 453, mm := 71747
            level := some { levelState := .steady, lEff := 8929, vNow := 838965, vHi := 887500, m := 47482,
                            t := .seconds 1572, computed := .topping } } := by decide +kernel

/-- 7.11: the comparison at the same reading. -/
theorem test_steady_comparison :
    let t := after (.level .ship (msg (.level 4 8933 .good false false))) (serving seven active4)
    ((t.entry 0).bind Entry.recon).bind ReconRecord.figures = some
      { evaluatedAt := 0, dVm := 127800, dVl := 126525, credit := 600, e := 675, tol := 6390, result := .within } := by
  decide +kernel

/-- 4.9, the sloshing variant. -/
theorem test_sloshing_evaluation :
    let t := after (.level .ship (msg (.level 4 8955 .good false false)))
      (serving [8860, 8990, 8875, 8970, 8905, 8980, 8880] active4)
    (((t.entry 0).bind Entry.margin).bind MarginRecord.level).map (fun h => (h.levelState, h.vNow, h.m, h.t))
      = some (.sloshing, 844150, 42297, .seconds 1400) := by decide +kernel

/-- 4.10: the latch; the computed stage returns to OPEN and the stage stays TOPPING. -/
theorem test_latch : Stage.lower .topping (computedStage 60203 60000 5000) = .topping := by decide

/-- 4.11: the slug of row 1, and the one of row 5, which is below 100 L. -/
theorem test_slug_sizes : slugSize 5000 4785 = 4780 ∧ slugSize 5000 25 = 20 := by decide

/-- 4.12: A_close of 500 L held, and the pulse that takes delivered to 149,500 of 150,000 closes the channel. -/
theorem test_allotment_pulse :
    let e : Entry := { active4 with
      mode := .demand, allotment := 150000, delivered := 149499, baseline := some ⟨0, 1000⟩
      margin := some { evaluatedAt := 0, q := 1500, aClose := 500, level := none, mm := 1 } }
    let s := (serving (seven ++ [8933]) e).modMeter 1 fun m => { m with total := 1494999 }
    let t := after (.meterPulse 1) s
    ((t.entry 0).bind Entry.endPending = some .allotment) ∧ ((t.entry 0).map Entry.delivered = some 149500)
      ∧ (t.chan 1).state = .closing ∧ (t.chan 1).grant = 0 := by decide +kernel

/-- 6.8: the shares of step 3 in both regrants, and with channel 2's minimum flow at 700. -/
theorem test_shares_fixed :
    shareOut 1200 [⟨1, 1500, 200⟩, ⟨2, 1200, 200⟩] = [(1, 1200), (2, 0)]
      ∧ shareOut 2100 [⟨1, 1500, 200⟩, ⟨2, 1200, 200⟩] = [(1, 1500), (2, 600)]
      ∧ shareOut 2100 [⟨1, 1500, 200⟩, ⟨2, 1200, 700⟩] = [(1, 1500), (2, 0)] := by decide

/-- 6.9: the order after the two ends, and the capacity channel 3 passes on. -/
theorem test_rotation :
    let s0 := { calm with header := { calm.header with high := [.chan 0, .chan 1, .lowToken], low := [2, 3] } }
    let s2 := rotate 2 (rotate 0 s0)
    s2.header.high = [.chan 1, .chan 0, .lowToken] ∧ s2.header.low = [3, 2]
      ∧ groupedOrder s2.header.high s2.header.low = [1, 0, 3, 2]
      ∧ shareOut 3000 [⟨1, 1500, 200⟩, ⟨0, 1000, 200⟩, ⟨3, 800, 600⟩, ⟨2, 900, 200⟩]
          = [(1, 1500), (0, 1000), (3, 0), (2, 500)] := by decide +kernel

/-- 6.10, at 200 s: the first caller of an IDLE header primes it. -/
theorem test_first_caller_primes :
    let s := { withChan 1 (fun k => { k with state := .opening, command := .toOpen, closedLimit := false })
      (planned { active4 with delivered := 0 }) with now := 200 }
    let t := after (.openLimitReached 1) s
    t.header.state = .priming ∧ t.header.primeTimer = some 260
      ∧ (t.chan 1).holds = { HoldSet.empty with noGrant := true, headerWait := true } := by decide +kernel

/-- 7.10: 2,986 pulses at K = 987 make 1,812 L/min, and the next refresh is at 1,600 s. -/
theorem test_measured_rate :
    let s := { (calm.modMeter 1 fun m => { m with windowCount := 2986, nextRefresh := 1590 }) with now := 1590 }
    let m := ((after (.rateWindowRefresh 1) s).chan 1).meter
    m.rate = 1812 ∧ m.windowCount = 0 ∧ m.nextRefresh = 1600 := by decide +kernel

/-- 1.3, 7.11: 1,261,386 pulses at K = 987 are 127,800 L. -/
theorem test_pulse_volume : pulseVolume 1261386 987 = 127800 := by decide

/-- 7.11, reading b: the second strike is a MISROUTE with tank 4, and the entry returns to AWAIT with strikes 2. -/
theorem test_misroute :
    let e : Entry := { active4 with delivered := 129600, strikes := 1, stage := some .topping }
    let s := (serving (List.replicate 7 8830) e).modMeter 1 fun m => { m with total := 1279152 }
    let t := after (.level .ship (msg (.level 4 8830 .good false false))) s
    (t.chan 1).lastStop.map (fun l => (l.cause, l.tank)) = some (.misroute, some 4) ∧ (t.chan 1).state = .closing
      ∧ (t.entry 0).map (fun e => (e.state, e.strikes)) = some (.await, 2) := by decide +kernel

/-- 7.13: the stall timer runs out at 1,059 s. -/
theorem test_meter_stall :
    let s := { (serving (seven ++ [8933]) active4).modMeter 1 (fun m => { m with stallTimer := some 1059 }) with now := 1059 }
    let t := after (.stallTimerExpiry 1) s
    (t.chan 1).state = .closing ∧ (t.chan 1).authorised = false ∧ (t.entry 0).map Entry.state = some .await := by
  decide +kernel

/-- R69: with an end pending a fall to SLUG sizes no slug. -/
theorem test_closing_entry_gets_no_slug :
    let e : Entry := { active4 with endPending := some .shipEnd, stage := some .slug }
    (sizeSlug 1 0 5000 4785 (serving seven e)).entry 0 = some e := by decide +kernel

/-- R107: a channel's flow setpoint is its grant, and RUN and the demand follow the header. -/
theorem test_pump_outputs :
    let s := serving seven active4
    s.flowSetpoint 1 = 1800 ∧ s.flowSetpoint 0 = 0 ∧ s.pumpDemand = 1800 ∧ calm.pumpDemand = 0 := by decide +kernel

/-- R100, row 3 and the way back to PRIMING: at a dp clear with the pump stopped HEADER_WAIT leaves the set, NO_PUMP joins it (R105)
and HEADER_WAIT comes again, each with its notice. -/
theorem test_repriming_notices :
    let k : Channel → Channel := fun k =>
      { k with state := .held, command := .toOpen, openLimit := true, closedLimit := false
               holds := { HoldSet.empty with headerWait := true } }
    let s := { withChan 1 k calm with
      portS := { livePort with sending := some (.notice (.tankAlarm 0 false false false false 0)) }
      header := { calm.header with state := .waiting, returnState := some .serving, waitTimer := some 9, dp := true } }
    let holds : Notice → Option (Bool × Bool) := fun
      | .channel .holds v _ _ => some (v.holds.headerWait, v.holds.noPump)
      | .entry .. | .channel .. | .header .. | .tank .. | .tankLevel .. | .tankAlarm .. | .proposal .. | .trip ..
      | .caution .. | .store .. => none
    ((after .strainerDpClears s).portS.notices.filterMap holds) = [(false, false), (false, true), (true, true)] := by decide +kernel

/-- R171: a free transmitter takes the reply as it joins, and four more find room behind it. -/
theorem test_free_transmitter_takes_the_reply :
    let t := after (.silence .ship (msg .silence)) calm
    t.portS.replies = [] ∧ t.portS.sending = some (.reply { tag := 7, kind := 0x0B, result := .done .nothing }) := by
  decide +kernel

/-- R174: a signed volume is two's complement, most significant byte first; a time stamp has 4 bytes. -/
theorem test_field_bytes :
    (Field.signed (-1)).bytes = [0xFF, 0xFF, 0xFF, 0xFF] ∧ (Field.signed 258).bytes = [0, 0, 1, 2]
      ∧ (Field.stamp 305419896).bytes = [0x12, 0x34, 0x56, 0x78] := by decide +kernel

/-- R170, R174: the body of a refusal, of a DONE that names a rejected proposal, and of STRAP-SEEK's DONE with the cursor. -/
theorem test_reply_bodies :
    ({ tag := 7, kind := 0x08, result := .refused .range } : Reply).body = [7, 0x08, 0x03, Reason.range.code]
      ∧ ({ tag := 7, kind := 0x06, result := .done (.proposal 12) } : Reply).body = [7, 0x06, 0x00, 12]
      ∧ ({ tag := 7, kind := 0x11, result := .done (.cursor ⟨4, 9⟩) } : Reply).body = [7, 0x11, 0x00, 4, 9] := by
  decide +kernel

/-- R97 and R51 list their own sets: return state STANDBY is $02, a level basis of PARTIAL $00, and no other state has a code there. -/
theorem test_choice_codes :
    [HeaderState.priming, .serving, .standby].map (fun h => (returnField (some h)).bytes) = [[0], [1], [2]]
      ∧ [LevelState.partFull, .steady, .sloshing].map (fun l => (basisField l).bytes) = [[0], [1], [2]]
      ∧ returnField (some .waiting) = .absent ∧ returnField none = .absent ∧ basisField .cold = .absent := by decide +kernel

/-- R10: a LEVEL_HI that finds an end pending leaves it pending, the closed limit present or not; it is applied at the limit's next
report. -/
theorem test_pending_end_outlives_level_hi :
    let e : Entry := { entry4 with endPending := some .allotment }
    let s := withChan 1 (fun k => { k with state := .fault }) (planned e)
    (s.chan 1).provenClosed = true ∧ (channelStop .levelHi .ship (some 4) 1 s).entry 0 = some e
      ∧ ((after (.closedLimitReached 1) (s.modChan 1 fun k => { k with closedLimit := false })).entry 0).map Entry.state
          = some .done := by decide +kernel

/-- R7: an AMEND to no more than what is delivered ends the entry, and no grant is made at the new rate. -/
theorem test_amend_to_the_delivered :
    let t := (adoptAmend 0 120000 900 (serving seven active4))
    (t.entry 0).bind Entry.endPending = some .allotment ∧ (t.chan 1).state = .closing ∧ (t.chan 1).grant = 0 ∧ t.evals = [] := by
  decide +kernel

/-! ### Witnesses: states and operands that meet the statements' hypotheses, clause by clause -/

/-- Every value of a timer that is `y` lies past `n`. -/
theorem before {o : Option Nat} {n y : Nat} (h : o = some y) (hn : n < y) : ∀ x, o = some x → n < x := by
  intro x hx; rw [h] at hx; cases hx; exact hn

/-- What holds of the one value holds of every value. -/
theorem only {α : Type} {o : Option α} {y : α} {P : α → Prop} (h : o = some y) (hy : P y) : ∀ x, o = some x → P x := by
  intro x hx; rw [h] at hx; cases hx; exact hy

/-- With no value there is nothing to show. -/
theorem nothing {α : Type} {o : Option α} {P : α → Prop} (h : o = none) : ∀ x, o = some x → P x := by
  intro x hx; rw [h] at hx; cases hx

/-- Every timer of channel 1, tank 4, the header and the ports at `n`, and the next refresh. -/
def timed (n : Nat) : State :=
  let s := calm.modChan 1 fun k =>
    { k with strokeTimer := some n, pressureTimer := some n, strainTimer := some n, sourceLowTimer := some n
             meter := { k.meter with stallTimer := some n, nextRefresh := n } }
  let s := s.modTank 4 fun k => { k with staleTimer := some n, blindTimer := some n }
  { s with header := { s.header with waitTimer := some n, primeTimer := some n }
           portB := { livePort with silenceTimer := some n }, portS := { livePort with silenceTimer := some n } }

theorem witness_StepTakesTheFrontCommand :
    ({ calm with pending := [.meterPulse 1, .powerLoss] } : State).pending = .meterPulse 1 :: [.powerLoss] := rfl

theorem witness_IdleStepsAndEarlyExpiries_idle :
    let s : State := { calm with now := 4294967294 }
    s.pending = [] ∧ s.powered = true ∧ s.now + 1 < 4294967296
      ∧ ({ calm with powered := false } : State).pending = [] := by decide +kernel

theorem witness_IdleStepsAndEarlyExpiries_timers :
    let s := timed 1
    s.Ready ∧ (∀ x, (s.chan 1).strokeTimer = some x → s.now < x) ∧ (∀ x, (s.chan 1).meter.stallTimer = some x → s.now < x)
      ∧ s.now < (s.chan 1).meter.nextRefresh ∧ (∀ x, (s.chan 1).pressureTimer = some x → s.now < x)
      ∧ (∀ x, (s.chan 1).strainTimer = some x → s.now < x) ∧ (∀ x, (s.chan 1).sourceLowTimer = some x → s.now < x)
      ∧ (∀ x, (s.tank 4).staleTimer = some x → s.now < x) ∧ (∀ x, (s.tank 4).blindTimer = some x → s.now < x)
      ∧ (∀ x, s.header.waitTimer = some x → s.now < x) ∧ (∀ x, s.header.primeTimer = some x → s.now < x)
      ∧ (∀ x, (s.port .ship).silenceTimer = some x → s.now < x) := by
  and_intros <;> first | exact before (y := 1) rfl Nat.one_pos | decide +kernel

/-- A part without supply. -/
def dark : State := { State.reset with powered := false }

/-- A part without supply whose stored copy agrees with its check word. -/
def darkStored : State := { dark with store := { resetStore with copy := StoredCopy.whole site } }

/-- A write in flight. -/
def writing : State := { calm with store := { calm.store with inFlight := some { snapshot := site, accepted := 0 } } }

theorem witness_PowerOnBringsUpTheStartState :
    dark.powered = false ∧ dark.store.inFlight = none ∧ calm.powered = true ∧ calm.store.inFlight = none
      ∧ (∀ c, (resetInputs.channels.get c).openLimit = true → (resetInputs.channels.get c).closedLimit = false)
      ∧ dark.store.copy.agrees = false ∧ darkStored.store.copy.agrees = true ∧ writing.powered = true :=
  ⟨rfl, rfl, rfl, rfl, by decide +kernel, resetStore_disagrees, whole_agrees site, rfl⟩

theorem witness_PowerLossTakesTheSupplyAndTheWrite :
    calm.Ready ∧ calm.store.inFlight = none ∧ writing.Ready
      ∧ writing.store.inFlight = some { snapshot := site, accepted := 0 } ∧ dark.powered = false
      ∧ ∀ f, Instr.powerLoss ≠ .powerOn f :=
  ⟨⟨rfl, rfl⟩, rfl, ⟨rfl, rfl⟩, rfl, rfl, nofun⟩

theorem witness_StoreTakesASnapshotAndItsCompletionSettlesIt :
    calm.Hears .barge ∧ decodeRequest .store (msg .store) = some .store ∧ calm.store.inFlight = none
      ∧ writing.Hears .barge ∧ writing.store.inFlight ≠ none
      ∧ writing.store.configDefaults = false ∧ ({ writing with store := { writing.store with configDefaults := true } } : State).Ready :=
  ⟨⟨⟨rfl, rfl⟩, by decide⟩, rfl, rfl, ⟨⟨rfl, rfl⟩, by decide⟩, nofun, rfl, ⟨rfl, rfl⟩⟩

/-- A write in flight with CONFIG_DEFAULTS active. -/
def showing : State :=
  { writing with
    store := { writing.store with configDefaults := true }
    trip := { writing.trip with cautions := [{ caution := .configDefaults, stamp := 0 }] } }

theorem showing_shown : showing.DefaultsShown := ⟨fun _ => ⟨_, List.mem_singleton.mpr rfl, rfl⟩, fun _ => rfl⟩

theorem witness_StoreTakesASnapshotAndItsCompletionSettlesIt_defaults :
    showing.Ready ∧ showing.store.inFlight = some { snapshot := site, accepted := 0 } ∧ showing.store.configDefaults = true
      ∧ showing.DefaultsShown ∧ (showing.port .ship).link = .live ∧ (showing.port .ship).notices.length < 16 :=
  ⟨⟨rfl, rfl⟩, rfl, rfl, showing_shown, rfl, by decide⟩

theorem witness_ConfigurationChangesOnlyByItsOwnRows :
    (Instr.meterPulse 1).wellFormed = true ∧ exec (.meterPulse 1) calm = .next (after (.meterPulse 1) calm) := ⟨rfl, rfl⟩

/-- Nothing waits on either port of the part at rest. -/
theorem calm_settled : calm.PortsSettled := ⟨fun _ => ⟨rfl, rfl⟩, fun _ => ⟨rfl, rfl⟩⟩

theorem witness_FramesAndBodiesAreReadWhole :
    ((Request.endorse 255 (.plan 255 255 4294967295 65535 .slug)).fits = true
      ∧ decodeRequest .stop [0x07, 0xFF] = some (.stop 255))
      ∧ calm.Ready ∧ calm.PortsSettled ∧ (calm.port .ship).rx = none ∧ (List.replicate 120 (0x55 : Byte)).length ≤ 120 :=
  ⟨by decide, ⟨rfl, rfl⟩, calm_settled, rfl, by decide⟩

theorem witness_DiscardedBytesLeaveEveryItem :
    calm.Ready ∧ calm.PortsSettled ∧ (calm.port .barge).rx = none ∧ ([7] : List Byte).length ≤ 120 ∧ ([0, 0] : List Byte).length = 2
      ∧ [0, 0] ≠ crcBytes (BitVec.ofNat 8 1 :: 0x01 :: [7]) ∧ 120 < (0x79 : Byte).toNat :=
  ⟨⟨rfl, rfl⟩, calm_settled, rfl, by decide, rfl, by decide +kernel, by decide⟩

/-- A reply that waits. -/
def waitingReply : Reply := { tag := 1, kind := 0x01, result := .done .nothing }

/-- Port B with four replies waiting. -/
def crammed : State := { calm with portB := { livePort with replies := List.replicate 4 waitingReply } }

theorem witness_RequestsAreRefusedAtThePort :
    crammed.Ready ∧ 4 ≤ (crammed.port .barge).replies.length ∧ calm.Ready ∧ (calm.port .barge).replies.length < 4
      ∧ permits .tankdef .barge = false ∧ permits .arm .barge = true ∧ decodeRequest .arm [7] = none
      ∧ calm.Hears .barge ∧ RequestKind.ofCode 0x80 = none := by
  and_intros <;> decide

/-- A notice. -/
def aNotice : Notice := .tankAlarm 4 true false false false 0

theorem witness_TransmitterTakesRepliesBeforeNotices :
    let s : State := { calm with portB := { livePort with replies := [waitingReply], notices := [aNotice] }
                                 portS := { livePort with notices := [aNotice] } }
    s.Ready ∧ (s.port .barge).replies = waitingReply :: [] ∧ (s.port .ship).replies = []
      ∧ (s.port .ship).notices = aNotice :: [] ∧ calm.Ready ∧ (calm.port .ship).replies = [] ∧ (calm.port .ship).notices = []
      ∧ s.portB.sending = none ∧ (let b : Port := { livePort with sending := some (.reply waitingReply), replies := [waitingReply] }
        b.sending ≠ none ∧ (after (.meterPulse 1) { calm with portB := b }).portB.replies ≠ []
          ∧ exec (.meterPulse 1) { calm with portB := b } = .next (after (.meterPulse 1) { calm with portB := b })
          ∧ calm.powered = true ∧ Instr.meterPulse 1 ≠ .powerLoss) :=
  ⟨⟨rfl, rfl⟩, rfl, rfl, rfl, ⟨rfl, rfl⟩, rfl, rfl, rfl, nofun, by decide +kernel, rfl, rfl, nofun⟩

theorem calm_trip_bounded : calm.trip.Bounded := by unfold Trip.Bounded; decide +kernel

theorem witness_SilenceTimerExpirySilencesThePort :
    let s : State := { calm with now := 5 }
    s.Ready ∧ s.trip.Bounded ∧ (s.port .ship).link = .live ∧ ∃ x, (s.port .ship).silenceTimer = some x ∧ x ≤ s.now :=
  ⟨⟨rfl, rfl⟩, calm_trip_bounded, rfl, 5, rfl, by decide⟩

theorem witness_NoticesAreOfferedToBothPorts :
    let s : State := { calm with portS := { livePort with notices := List.replicate 16 aNotice } }
    (State.reset.port .barge).link = .silent ∧ (s.port .barge).link = .live ∧ (s.port .barge).notices.length < 16
      ∧ (s.port .ship).link = .live ∧ 16 ≤ (s.port .ship).notices.length := by
  and_intros <;> first | rfl | decide

theorem witness_ReadsAnswerWithTheRecord :
    (planned entry4).Hears .barge
      ∧ decodeRequest .readEntry (msg (.readEntry 0)) = some (.readEntry ((0 : EntryId) : Nat))
      ∧ (planned entry4).entry 0 = some entry4
      ∧ decodeRequest .readEntry (msg (.readEntry 15)) = some (.readEntry ((15 : EntryId) : Nat))
      ∧ (planned entry4).entry 15 = none
      ∧ decodeRequest .readTank (msg (.readTank 11)) = some (.readTank ((11 : TankNo) : Nat))
      ∧ decodeRequest .readChannel (msg (.readChannel 3)) = some (.readChannel ((3 : Chan) : Nat))
      ∧ decodeRequest .readTrip (msg .readTrip) = some .readTrip ∧ decodeRequest .status (msg .status) = some .status := by
  and_intros <;> first | rfl | decide +kernel

theorem livePort_bounded : livePort.Bounded := by unfold Port.Bounded Port.Settled; decide +kernel

theorem witness_PortsKeepTheirRoom :
    (calm.portB.Bounded ∧ calm.portS.Bounded) ∧ ∃ t, step { calm with pending := [.meterPulse 1] } = .next t :=
  ⟨⟨livePort_bounded, livePort_bounded⟩, _, rfl⟩

theorem witness_WaitingFramesKeepTheirPlace :
    exec (.frameTransmitted .barge) calm = .next (after (.frameTransmitted .barge) calm)
      ∧ Instr.frameTransmitted .barge ≠ .frameTransmitted .ship ∧ Instr.frameTransmitted .barge ≠ .silenceTimerExpiry .ship
      ∧ (∀ f, Instr.frameTransmitted .barge ≠ .powerOn f) ∧ (calm.port .ship).Settled :=
  ⟨rfl, nofun, nofun, nofun, fun _ => ⟨rfl, rfl⟩⟩

/-! #### The Consent Queue -/

/-- A proposal of a side. -/
def prop (id : Nat) (p : Side) (b : ProposalBody) : Proposal :=
  { id := id, side := p, body := b, bound := calm.boundOf b, arrival := 0, lapseAt := 60 }

/-- `s` with one proposal pending. -/
def offered (p : Side) (b : ProposalBody) (s : State) : State :=
  { s with queue := { proposals := [prop 1 p b], nextId := 2 } }

/-- ENDORSE of proposal 1. -/
def endorseOf (raw : RawProposal) : List Byte := msg (.endorse 1 raw)

/-- A PROPOSE. -/
def proposeOf (raw : RawProposal) : List Byte := msg (.propose raw)

theorem find_offered (p : Side) (b : ProposalBody) (s : State) : (offered p b s).queue.find 1 = some (prop 1 p b) := by
  simp [offered, ConsentQueue.find, prop]

theorem adopt_offered (p : Side) (b : ProposalBody) (s : State) : (offered p b s).queue.mayAdopt (prop 1 p b) = true := by
  simp [offered, ConsentQueue.mayAdopt, olderThan, prop]

/-- The barge's ENDORSE of a proposal of the ship. -/
theorem consents_endorse {b : ProposalBody} {raw : RawProposal} (s : State) (h : proposalOf raw = some b)
    (hd : decodeRequest .endorse (endorseOf raw) = some (.endorse 1 raw)) :
    Consents (.endorse .barge (endorseOf raw)) .barge .endorse (endorseOf raw) (prop 1 .ship b) (offered .ship b s) :=
  ⟨⟨find_offered .ship b s, rfl, Nat.le_refl 1, (by decide : 1 ≤ 255), adopt_offered .ship b s⟩, raw, h, .inl ⟨rfl, rfl, hd⟩⟩

/-- The barge's PROPOSE of a body the ship has proposed. -/
theorem consents_propose {b : ProposalBody} {raw : RawProposal} (s : State) (h : proposalOf raw = some b)
    (hd : decodeRequest .propose (proposeOf raw) = some (.propose raw)) (ha : (offered .ship b s).assigned b = true) :
    Consents (.propose .barge (proposeOf raw)) .barge .propose (proposeOf raw) (prop 1 .ship b) (offered .ship b s) :=
  ⟨⟨find_offered .ship b s, rfl, Nat.le_refl 1, (by decide : 1 ≤ 255), adopt_offered .ship b s⟩, raw, h,
    .inr ⟨rfl, rfl, hd, ha, by simp [offered, prop]⟩⟩

/-- Seven proposals, three of the barge and four of the ship; the next id is 255. -/
def queued7 : State :=
  { calm with queue :=
    { proposals := [prop 248 .ship (.start 0), prop 249 .ship (.start 1), prop 250 .ship (.start 2), prop 251 .ship (.start 3),
                    prop 252 .barge (.clear 1), prop 253 .barge (.clear 2), prop 254 .barge (.clear 3)]
      nextId := 255 } }

theorem queued7_bounded : queued7.queue.Bounded :=
  ⟨by decide +kernel, fun x => match x with | .barge => by decide +kernel | .ship => by decide +kernel, by decide +kernel,
    by decide +kernel, by decide +kernel, by decide, by decide⟩

theorem witness_ProposeJoinsTheTailUnderAFreeId :
    queued7.Hears .barge ∧ queued7.queue.Bounded
      ∧ decodeRequest .propose (proposeOf (.clear 11)) = some (.propose (.clear 11)) ∧ proposalOf (.clear 11) = some (.clear 11)
      ∧ queued7.assigned (.clear 11) = true ∧ (∀ q ∈ queued7.queue.proposals, q.body ≠ .clear 11)
      ∧ queued7.queue.proposals.length < 8 ∧ (queued7.queue.ofSide .barge).length < 4 := by
  and_intros <;> first | exact queued7_bounded.2.1 | decide +kernel

theorem witness_ProposeAndEndorseRefusals_propose :
    calm.Hears .ship ∧ queued7.Hears .ship
      ∧ decodeRequest .propose (proposeOf (.clear 12)) = some (.propose (.clear 12))
      ∧ (∀ b, proposalOf (.clear 12) = some b → calm.assigned b = false)
      ∧ decodeRequest .propose (proposeOf (.cancel 15)) = some (.propose (.cancel 15))
      ∧ (∀ b, proposalOf (.cancel 15) = some b → calm.assigned b = false)
      ∧ (offered .ship (.start 3) calm).queue.proposals.find? (fun x => x.body == .start 3) = some (prop 1 .ship (.start 3))
      ∧ (let s : State := { calm with queue := { proposals := [prop 1 .barge (.start 2), prop 2 .barge .init], nextId := 3 } }
         s.queue.proposals.find? (fun x => x.body == .init) = some (prop 2 .barge .init)
           ∧ s.queue.mayAdopt (prop 2 .barge .init) = false)
      ∧ queued7.queue.proposals.find? (fun x => x.body == .init) = none ∧ 4 ≤ (queued7.queue.ofSide .ship).length := by
  and_intros <;> first
    | exact nothing rfl | exact only (y := .cancel 15) rfl rfl | decide +kernel

theorem witness_ProposeAndEndorseRefusals_endorse :
    let s := offered .ship (.start 3) calm
    s.Hears .ship ∧ decodeRequest .endorse (msg (.endorse 0 (.start 3))) = some (.endorse 0 (.start 3))
      ∧ proposalOf (.start 4) = none ∧ proposalOf (.start 3) = some (.start 3) ∧ s.queue.find 255 = none
      ∧ s.queue.find 1 = some (prop 1 .ship (.start 3)) ∧ (prop 1 .ship (.start 3)).body ≠ .start 2
      ∧ (let u : State := { calm with queue := { proposals := [prop 1 .barge (.start 2), prop 2 .barge .init], nextId := 3 } }
         u.Hears .ship ∧ u.queue.find 2 = some (prop 2 .barge .init) ∧ u.queue.mayAdopt (prop 2 .barge .init) = false) := by
  and_intros <;> decide +kernel

theorem witness_RejectedProposalOnlyLeavesTheQueue :
    let s := offered .ship (.start 2) (calm.modChan 2 fun k => { k with state := .masked })
    s.Hears .barge ∧ Consents (.endorse .barge (endorseOf (.start 2))) .barge .endorse (endorseOf (.start 2))
        (prop 1 .ship (.start 2)) s
      ∧ (refreshLink .barge s).reject (.start 2) = some .state :=
  ⟨⟨⟨rfl, rfl⟩, by decide⟩, consents_endorse _ rfl (by decide), by decide +kernel⟩

theorem witness_AdoptedPlanTakesTheNextSlot :
    let b : ProposalBody := .plan 1 4 200000 1800 .batch
    let s := offered .ship b { tanked seven with plan := { Plan.blank with nextId := 15 } }
    s.Hears .barge ∧ Consents (.propose .barge (proposeOf (.plan 1 4 200000 1800 .batch))) .barge .propose
        (proposeOf (.plan 1 4 200000 1800 .batch)) (prop 1 .ship b) s
      ∧ s.planReject 1 4 = none ∧ s.plan.nextId = (15 : EntryId) :=
  ⟨⟨⟨rfl, rfl⟩, by decide⟩, consents_propose _ (by decide) (by decide) rfl, by decide +kernel, rfl⟩

theorem witness_AdoptedAmendAndCancelOfAWaitingEntry :
    let a := offered .ship (.amend 0 150000 900) (planned { entry4 with delivered := 149999 })
    let q : Entry := { entry4 with state := .queued }
    let c := offered .ship (.cancel 0) (planned q)
    (a.Hears .barge ∧ Consents (.endorse .barge (endorseOf (.amend 0 150000 900))) .barge .endorse
        (endorseOf (.amend 0 150000 900)) (prop 1 .ship (.amend 0 150000 900)) a
      ∧ a.entry 0 = some { entry4 with delivered := 149999 } ∧ 149999 < 150000)
      ∧ c.Hears .barge ∧ Consents (.endorse .barge (endorseOf (.cancel 0))) .barge .endorse (endorseOf (.cancel 0))
        (prop 1 .ship (.cancel 0)) c ∧ c.entry 0 = some q ∧ q.state = .queued ∧ q.delivered = 0 :=
  ⟨⟨⟨⟨rfl, rfl⟩, by decide⟩, consents_endorse _ (by decide) (by decide), rfl, by decide⟩, ⟨⟨rfl, rfl⟩, by decide⟩,
    consents_endorse _ (by decide) (by decide), rfl, rfl, rfl⟩

theorem witness_AdoptedStartAuthorisesTheChannel :
    let s := offered .ship (.start 1) (planned entry4)
    s.Hears .barge ∧ Consents (.endorse .barge (endorseOf (.start 1))) .barge .endorse (endorseOf (.start 1))
        (prop 1 .ship (.start 1)) s
      ∧ (s.chan 1).state = .idle ∧ s.trip.state = .normal
      ∧ ∀ j e, s.current 1 = some (j, e) →
        ¬(e.state = .await ∧ e.lineup = .ready ∧ e.endPending = none ∧ (s.tank e.tank).levelState.settled = true) :=
  ⟨⟨⟨rfl, rfl⟩, by decide⟩, consents_endorse _ rfl (by decide), by decide +kernel, rfl, fun j e h => by
    have h1 : (offered .ship (.start 1) (planned entry4)).current 1 = some (0, entry4) := by decide +kernel
    rw [h1] at h; cases h; simp [entry4, Entry.fresh]⟩

/-- TRIPPED with first-out RESTART, every valve proven closed and both ports LIVE. -/
def tripped : State := { State.reset with portB := livePort, portS := livePort }

theorem witness_AdoptedClearEndsTheShutdown :
    let s := offered .ship (.clear 1) tripped
    s.Hears .barge ∧ s.TrippedShut ∧ s.GrantsOk ∧ s.HeaderTrips ∧ s.trip.Bounded
      ∧ Consents (.endorse .barge (endorseOf (.clear 1))) .barge .endorse (endorseOf (.clear 1)) (prop 1 .ship (.clear 1)) s
      ∧ (refreshLink .barge s).clearReject 1 = none :=
  ⟨⟨⟨rfl, rfl⟩, by decide⟩, by unfold State.TrippedShut; decide +kernel,
    by unfold State.GrantsOk Channel.FlowsByGrant; decide +kernel, by unfold State.HeaderTrips; decide +kernel,
    by unfold Trip.Bounded; decide +kernel, consents_endorse _ rfl (by decide), by decide +kernel⟩

theorem witness_AdoptedInitClearsPlanTanksAndQueue :
    let s := offered .ship .init calm
    s.Hears .barge ∧ Consents (.endorse .barge (endorseOf .init)) .barge .endorse (endorseOf .init) (prop 1 .ship .init) s
      ∧ ∀ c, (s.chan c).restful = true :=
  ⟨⟨⟨rfl, rfl⟩, by decide⟩, consents_endorse _ rfl (by decide), by decide +kernel⟩

theorem witness_LapsedProposalOnlyLeavesTheQueue :
    let s := offered .ship .init calm
    let late : State := { s with now := 60 }
    late.Ready ∧ late.queue.find 1 = some (prop 1 .ship .init) ∧ (prop 1 .ship .init).lapseAt ≤ late.now
      ∧ s.Ready ∧ (∀ q, s.queue.find 1 = some q → s.now < q.lapseAt)
      ∧ ∀ q, s.queue.find 255 = some q → s.now < q.lapseAt :=
  ⟨⟨rfl, rfl⟩, rfl, by decide, ⟨rfl, rfl⟩, only (y := prop 1 .ship .init) rfl (by decide), nothing rfl⟩

theorem witness_ConsentQueueStaysBounded :
    queued7.queue.Bounded ∧ ∃ t, step { queued7 with pending := [.propose .barge (proposeOf .init)] } = .next t :=
  ⟨queued7_bounded, _, rfl⟩

/-! #### Stops, shutdowns and annunciation -/

theorem witness_ChannelStopsAreTakenWhole :
    let late : State := { timed 5 with now := 5 }
    let blind := { (serving seven active4).modTank 4 (fun k => { k with blindTimer := some 9 }) with now := 9 }
    late.Ready ∧ late.Hears .ship ∧ decodeRequest .stop (msg (.stop 1)) = some (.stop ((1 : Chan) : Nat))
      ∧ (late.chan 1).pressureTimer = some 5 ∧ (late.chan 1).sourceLowTimer = some 5 ∧ (late.chan 1).meter.stallTimer = some 5
      ∧ (late.chan 1).strokeTimer = some 5 ∧ 5 ≤ late.now ∧ (late.chan 1).state ≠ .fault ∧ late.trip.state ≠ .tripping
      ∧ blind.Ready ∧ (blind.tank 4).blindTimer = some 9 ∧ 9 ≤ blind.now ∧ blind.activeChan 4 = some 1 := by
  and_intros <;> decide +kernel

theorem witness_ChannelStopsAreTakenWhole_lineup :
    let s := serving seven active4
    s.Hears .ship ∧ decodeRequest .lineup (msg (.lineup 0 .notReady)) = some (.lineup ((0 : EntryId) : Nat) .notReady)
      ∧ s.activeEntry 1 = some (0, active4) ∧ active4.chan = 1 ∧ active4.mode ≠ .demand ∧ active4.lineup = .ready := by
  and_intros <;> decide +kernel

/-- The plan of one entry, in slot 0. -/
def onePlan (e : Entry) : Plan := { slots := Plan.blank.slots.set 0 (some e), nextId := 1 }

theorem one_at {s : State} {e : Entry} (h : s.plan = onePlan e) (i : EntryId) : s.entry i = if i = 0 then some e else none := by
  unfold State.entry; rw [h]; fin_cases i <;> rfl

theorem one_entry {s : State} {e f : Entry} {i : EntryId} (h : s.plan = onePlan e) (hi : s.entry i = some f) : i = 0 ∧ f = e := by
  rw [one_at h] at hi
  split at hi
  · cases hi; exact ⟨‹_›, rfl⟩
  · cases hi

theorem one_slots {s : State} {e : Entry} (h : s.plan = onePlan e) : s.SlotsOk :=
  ⟨by rw [h]; exact (by decide : 1 ≤ 16), fun i => by
    rw [one_at h, h]
    show _ ↔ i.val < 1
    by_cases hi : i = 0
    · subst hi; simp
    · simp [hi]⟩

theorem one_shared {s : State} {e : Entry} (h : s.plan = onePlan e) : s.TanksShared := by
  intro i j f g h1 h2 _ _ _
  rw [(one_entry h h1).2, (one_entry h h2).2]

/-- A reading the part takes whose effective level stays below the HIHI level. -/
theorem takes_level {s : State} {body : List Byte} {u : TankNo} {d : TankDecl} {l : Nat} {q : Quality} {hi : Bool} {o : Option Nat}
    (h : (s.powered = true ∧ s.evals = []) ∧ (s.port .ship).replies.length < 4
      ∧ decodeRequest .level body = some (.level u l q hi false) ∧ (s.tank u).decl = some d ∧ (s.tank u).ownHihi = false)
    (ho : (s.tankAfter u l q).lEff = o) (hl : ∀ x, o = some x → x < d.hHihi) : s.TakesLevel body u d l q hi false :=
  ⟨⟨h.1, h.2.1⟩, h.2.2.1, h.2.2.2.1, .inr ⟨rfl, h.2.2.2.2, fun x hx => hl x (ho.symm.trans hx)⟩⟩

/-- A reading of tank 4, HI as given. -/
def reading (l : Nat) (hi : Bool) : List Byte := msg (.level 4 l .good hi false)

/-- LEVEL_HI by the ship's flag on an AWAIT entry, by the effective level at the high level on an ACTIVE one, and by an own HI that stands
at a reading which finds no level. -/
theorem witness_ChannelStopsAreTakenWhole_levelHi :
    (let s := planned entry4
     s.TakesLevel (reading 8933 true) 4 decl4 8933 .good true false ∧ s.servingChan 4 = some 1 ∧ s.current 1 = some (0, entry4)
       ∧ entry4.chan = 1 ∧ entry4.state = .await ∧ entry4.endPending = none ∧ (s.tank 4).hiStopMark ≠ some 0
       ∧ (s.chan 1).provenClosed = true ∧ (s.chan 1).watched = false ∧ (s.chan 1).stroking = false ∧ s.TanksShared)
      ∧ (let s := serving [9490] active4
         s.TakesLevel (reading 9500 false) 4 decl4 9500 .good false false ∧ s.servingChan 4 = some 1
           ∧ s.current 1 = some (0, active4) ∧ active4.state = .active ∧ active4.strikes = 0 ∧ active4.endPending = none
           ∧ (s.tankAfter 4 9500 .good).lEff = some 9500 ∧ decl4.hHi ≤ 9500 ∧ (s.chan 1).watched = true
           ∧ s.TanksShared)
      ∧ (let s := (planned entry4).modTank 4 fun k => { k with ownHi := true }
         s.TakesLevel (msg (.level 4 8933 .suspect false false)) 4 decl4 8933 .suspect false false ∧ s.servingChan 4 = some 1
           ∧ s.current 1 = some (0, entry4) ∧ (s.tankAfter 4 8933 .suspect).lEff = none ∧ (s.tank 4).ownHi = true
           ∧ (s.tank 4).hiStopMark ≠ some 0 ∧ s.TanksShared) := by
  refine ⟨⟨takes_level (o := some 8930) (by decide +kernel) (by decide +kernel) (only rfl (by decide)), ?_⟩,
    ⟨takes_level (o := some 9500) (by decide +kernel) (by decide +kernel) (only rfl (by decide)), ?_⟩,
    takes_level (o := none) (by decide +kernel) (by decide +kernel) (nothing rfl), ?_⟩ <;>
    and_intros <;> first | exact one_shared rfl | decide +kernel

theorem witness_ShutdownsAreTakenWhole :
    let s : State := { timed 5 with now := 5 }
    let u : State := { s with trip := { tripped.trip with state := .tripping } }
    s.Ready ∧ s.trip.Bounded ∧ s.Hears .ship ∧ s.trip.loopBOpen = false ∧ s.trip.loopSOpen = false
      ∧ s.header.waitTimer = some 5 ∧ s.header.primeTimer = some 5 ∧ 5 ≤ s.now ∧ s.header.pumpRunning = false
      ∧ (s.chan 1).strainTimer = some 5 ∧ u.Ready ∧ u.trip.Bounded ∧ (u.chan 1).strokeTimer = some 5
      ∧ (u.chan 1).state ≠ .fault ∧ u.trip.state = .tripping := by
  and_intros <;> first | exact calm_trip_bounded | decide +kernel

/-- A rise of HIHI: by the flag, and by an effective level at the HIHI level. -/
theorem witness_ShutdownsAreTakenWhole_hihi :
    let s := tanked [9790]
    s.Hears .ship ∧ decodeRequest .level (msg (.level 4 9000 .suspect false true))
          = some (.level ((4 : TankNo) : Nat) 9000 .suspect false true)
      ∧ decodeRequest .level (reading 9800 false) = some (.level ((4 : TankNo) : Nat) 9800 .good false false)
      ∧ (s.tank 4).decl = some decl4 ∧ (s.tank 4).hihi = false ∧ (s.tankAfter 4 9800 .good).lEff = some 9800
      ∧ decl4.hHihi ≤ 9800 ∧ s.servingChan 4 = none := by
  and_intros <;> decide +kernel

theorem witness_TrippedPartStaysShut :
    tripped.TrippedShut ∧ tripped.trip.state ≠ .normal
      ∧ ∃ t, step { tripped with pending := [.esdLoopOpens .ship] } = .next t :=
  ⟨by unfold State.TrippedShut; decide +kernel, by decide, _, rfl⟩

theorem witness_TripRecordAndHeaderAgree :
    (tripped.trip.Bounded ∧ tripped.HeaderTrips ∧ tripped.header.TimersOk)
      ∧ ∃ t, step { tripped with pending := [.esdLoopOpens .ship] } = .next t :=
  ⟨⟨by unfold Trip.Bounded; decide +kernel, by unfold State.HeaderTrips; decide +kernel,
    by unfold Header.TimersOk; decide +kernel⟩, _, rfl⟩

theorem witness_TripRecordAndHeaderAgree_defaults :
    showing.DefaultsShown ∧ ∃ t, step { showing with pending := [.storeCompletion true] } = .next t := ⟨showing_shown, _, rfl⟩

theorem witness_FirstOutStandsUntilCleared :
    exec (.esdLoopOpens .ship) tripped = .next (after (.esdLoopOpens .ship) tripped)
      ∧ tripped.trip.firstOut = some { cause := .restart, origin := .watch, stamp := 0 }
      ∧ (Instr.esdLoopOpens .ship).wellFormed = true ∧ ∀ f, Instr.esdLoopOpens .ship ≠ .powerOn f :=
  ⟨rfl, rfl, rfl, nofun⟩

theorem witness_SilenceMutesAndClosingLoopsAreRecorded :
    let s : State := { tripped with trip := { tripped.trip with loopBOpen := true, loopSOpen := true } }
    calm.Hears .ship ∧ decodeRequest .silence (msg .silence) = some .silence ∧ calm.trip.horn = .quiet
      ∧ s.Hears .ship ∧ s.trip.horn ≠ .quiet ∧ s.Ready ∧ s.trip.loopBOpen = true ∧ s.trip.loopSOpen = true := by
  and_intros <;> decide

/-! #### The Transfer Plan -/

/-- A plan of one current entry meets the plan's invariants. -/
theorem one_ok {s : State} {e : Entry} (h : s.plan = onePlan e) (hc : s.currentId e.chan = some 0) (hq : e.state ≠ .queued)
    (hb : ∀ b, e.baseline = some b → b.total ≤ (s.chan e.chan).meter.total
      ∧ e.delivered = pulseVolume ((s.chan e.chan).meter.total - b.total) b.kFactor)
    (hf : e.baseline = none → e.delivered = 0) : s.PlanOk := by
  refine ⟨one_slots h, ?_, one_shared h, ?_, ?_⟩
  · intro i f hi _
    obtain ⟨rfl, rfl⟩ := one_entry h hi
    exact ⟨fun _ => hc, fun _ => hq⟩
  · intro i f b hi hb' _
    obtain ⟨rfl, rfl⟩ := one_entry h hi
    exact ⟨hq, hb b hb'⟩
  · intro i f hi hn
    obtain ⟨rfl, rfl⟩ := one_entry h hi
    exact hf hn

theorem planned_ok : (planned entry4).PlanOk := one_ok rfl (by decide +kernel) (by decide) nofun fun _ => rfl

theorem witness_PlanKeepsItsOrderAndItsVolumes :
    (planned entry4).PlanOk ∧ ∃ t, step { planned entry4 with pending := [.meterPulse 1] } = .next t :=
  ⟨planned_ok, _, rfl⟩

theorem witness_LadderStagesNeverRise :
    let s := planned active4
    s.SlotsOk ∧ exec (.meterPulse 1) s = .next (after (.meterPulse 1) s) ∧ s.entry 0 = some active4
      ∧ (∃ f, (after (.meterPulse 1) s).entry 0 = some f) ∧ active4.stage = some .full :=
  ⟨one_slots rfl, rfl, rfl, Option.isSome_iff_exists.mp (by decide +kernel), rfl⟩

theorem witness_TerminalEntriesStandUntilThePlanIsCleared :
    let e : Entry := { entry4 with state := .cancelled }
    (planned e).SlotsOk ∧ exec (.meterPulse 1) (planned e) = .next (after (.meterPulse 1) (planned e))
      ∧ (planned e).entry 0 = some e ∧ e.state.terminal = true :=
  ⟨one_slots rfl, rfl, rfl, rfl⟩

/-- The channel authorised and its entry waiting for READY. -/
def authorised : State := (planned entry4).modChan 1 fun k => { k with authorised := true }

theorem authorised_grants : authorised.GrantsOk := by unfold State.GrantsOk Channel.FlowsByGrant; decide +kernel

theorem witness_LineupStartsAReadyChannel :
    let e : Entry := { entry4 with lineup := .ready }
    ((planned e).Hears .ship ∧ (planned e).entry 0 = some e ∧ (planned e).currentId e.chan = some 0 ∧ e.state = .await
      ∧ decodeRequest .lineup (msg (.lineup 0 .notReady)) = some (.lineup ((0 : EntryId) : Nat) .notReady))
      ∧ authorised.Hears .ship ∧ authorised.entry 0 = some entry4 ∧ authorised.currentId entry4.chan = some 0
      ∧ decodeRequest .lineup (msg (.lineup 0 .ready)) = some (.lineup ((0 : EntryId) : Nat) .ready)
      ∧ authorised.GrantsOk ∧ (authorised.chan 1).state = .idle ∧ (authorised.chan 1).provenClosed = true
      ∧ (authorised.chan 1).authorised = true ∧ entry4.endPending = none
      ∧ (authorised.tank 4).levelState.settled = true ∧ authorised.trip.state = .normal := by
  and_intros <;> first | exact authorised_grants.2.2 | decide +kernel

/-- The entry of 4.9 in mode DEMAND. -/
def demand4 : Entry := { active4 with mode := .demand }

/-- The header IDLE and channel 1 HELD by LINEUP_DROPPED alone, its entry NOT_READY. -/
def dropped : State :=
  let s := planned { demand4 with lineup := .notReady }
  s.modChan 1 fun k =>
    { k with state := .held, command := .toOpen, openLimit := true, closedLimit := false, authorised := true
             holds := { HoldSet.empty with lineupDropped := true } }

theorem witness_LineupStartsAReadyChannel_demand :
    (let s := serving seven demand4
     s.Hears .ship ∧ s.GrantsOk ∧ s.activeEntry 1 = some (0, demand4) ∧ demand4.chan = 1 ∧ demand4.mode = .demand
       ∧ demand4.lineup = .ready ∧ (s.chan 1).holds.lineupDropped = false ∧ (s.chan 1).command = (s.chan 1).state.command)
      ∧ dropped.Hears .ship ∧ dropped.GrantsOk ∧ dropped.activeEntry 1 = some (0, { demand4 with lineup := .notReady })
      ∧ dropped.header.state ≠ .serving ∧ (dropped.chan 1).holds.lineupDropped = true := by
  unfold State.GrantsOk Channel.FlowsByGrant State.Hears State.Ready; decide +kernel

theorem planned_grants : (planned entry4).GrantsOk := by unfold State.GrantsOk Channel.FlowsByGrant; decide +kernel

/-- Channel 1's entry back in AWAIT after it has delivered 1 L, the header's lists as given. -/
def partway (high : List HighItem) (low : List Chan) : State :=
  let s := (planned { entry4 with delivered := 1, baseline := some ⟨0, 987⟩ }).modMeter 1 fun m => { m with total := 10 }
  { s with header := { s.header with high := high, low := low } }

theorem partway_ok (high : List HighItem) (low : List Chan) (h : ((partway high low).chan 1).meter.total = 10) :
    (partway high low).PlanOk := by
  refine one_ok (e := { entry4 with delivered := 1, baseline := some ⟨0, 987⟩ }) rfl rfl nofun (fun b hb => ?_) nofun
  cases hb
  refine ⟨Nat.zero_le _, ?_⟩
  show 1 = pulseVolume (((partway high low).chan 1).meter.total - 0) 987
  rw [h]; decide

theorem witness_EntryEndAppliesToAWaitingEntry :
    let s := planned entry4
    s.Hears .ship ∧ s.PlanOk ∧ s.GrantsOk ∧ s.header.state ≠ .serving
      ∧ decodeRequest .entryEnd (msg (.entryEnd 0)) = some (.entryEnd ((0 : EntryId) : Nat)) ∧ s.entry 0 = some entry4
      ∧ s.currentId entry4.chan = some 0 ∧ entry4.state = .await ∧ entry4.endPending = none
      ∧ (s.chan 1).provenClosed = true ∧ (s.chan 1).stroking = false :=
  ⟨⟨⟨rfl, rfl⟩, by decide⟩, planned_ok, planned_grants, by decide, by decide, rfl, by decide +kernel, rfl, rfl,
    by decide +kernel, by decide +kernel⟩

/-- The same after a delivery, with channel 1 in the HIGH list, and with it in the LOW list. -/
theorem witness_EntryEndAppliesToAWaitingEntry_rotation :
    (∀ s ∈ [partway [.chan 1, .chan 0, .lowToken] [], partway [.lowToken, .chan 0] [1, 2]],
      s.PlanOk ∧ s.Hears .ship ∧ s.GrantsOk ∧ s.header.state ≠ .serving
        ∧ s.entry 0 = some { entry4 with delivered := 1, baseline := some ⟨0, 987⟩ } ∧ s.currentId 1 = some 0
        ∧ (s.chan 1).provenClosed = true ∧ (s.chan 1).stroking = false)
      ∧ HighItem.chan 1 ∈ [.chan 1, .chan 0, .lowToken] ∧ (1 : Chan) ∉ ([] : List Chan) ∧ (1 : Chan) ∈ [(1 : Chan), 2]
      ∧ HighItem.lowToken ∈ [.lowToken, .chan 0] := by
  refine ⟨fun s hs => ⟨?_, ?_⟩, by decide⟩
  · simp only [List.mem_cons, List.not_mem_nil, or_false] at hs
    rcases hs with rfl | rfl <;> exact partway_ok _ _ (by decide +kernel)
  · revert s
    unfold State.Hears State.Ready State.GrantsOk Channel.FlowsByGrant; decide +kernel

/-! #### The tanks -/

theorem witness_TankdefDeclaresTheTank :
    calm.Hears .ship ∧ (planned entry4).Hears .ship
      ∧ decodeRequest .tankdef (msg (.tankdef 4 decl4)) = some (.tankdef ((4 : TankNo) : Nat) decl4)
      ∧ ({ decl4 with grade := 5 } : TankDecl).ok = false ∧ decl4.ok = true ∧ (planned entry4).tankInUse 4 = true
      ∧ (tanked []).tankInUse 4 = false ∧ ({ decl4 with hHihi := 10001 } : TankDecl).ok = true
      ∧ (∃ top, ((tanked []).tank 4).topLevel = some top ∧ top < 10001)
      ∧ ({ decl4 with hHihi := 10000 } : TankDecl).ok = true
      ∧ ∀ top, ((tanked []).tank 4).topLevel = some top → 10000 ≤ top := by
  and_intros <;> first
    | exact ⟨10000, by decide +kernel, by decide⟩
    | exact only (y := 10000) (by decide +kernel) (Nat.le_refl _) | decide +kernel

theorem witness_StrapSeekSetsTheCursor :
    calm.Hears .ship
      ∧ decodeRequest .strapSeek (msg (.strapSeek 11 15)) = some (.strapSeek ((11 : TankNo) : Nat) 15)
      ∧ decodeRequest .strapSeek (msg (.strapSeek 12 0)) = some (.strapSeek 12 0)
      ∧ decodeRequest .strapSeek (msg (.strapSeek 0 16)) = some (.strapSeek 0 16) := by
  and_intros <;> decide

/-- STRAP-PUT of the first `n` of four points. -/
def putting (n : Nat) (p0 : Point) : Request := .strapPut n p0 ⟨2000, 180000⟩ ⟨8000, 760000⟩ ⟨10000, 930000⟩

theorem witness_StrapPutWritesAndStrapSealChecks_put :
    let s : State := { calm with cursor := ⟨4, 13⟩ }
    let used : State := { planned entry4 with cursor := ⟨4, 13⟩ }
    s.Hears .ship ∧ used.Hears .ship ∧ decodeRequest .strapPut (msg (putting 3 ⟨0, 0⟩)) = some (putting 3 ⟨0, 0⟩)
      ∧ decodeRequest .strapPut (msg (putting 5 ⟨0, 0⟩)) = some (putting 5 ⟨0, 0⟩)
      ∧ decodeRequest .strapPut (msg (putting 1 ⟨30001, 0⟩)) = some (putting 1 ⟨30001, 0⟩)
      ∧ 16 < s.cursor.index + 4 ∧ s.cursor.index + 3 ≤ 16
      ∧ (∀ x ∈ ([⟨0, 0⟩, ⟨2000, 180000⟩, ⟨8000, 760000⟩] : List Point), x.level ≤ 30000 ∧ x.volume ≤ 10000000)
      ∧ used.tankInUse 4 = true ∧ s.tankInUse 4 = false ∧ (s.tank 4).strap = .empty ∧ ((tanked []).tank 4).strap = .sealed 4
      ∧ (tanked []).tankInUse 4 = false
      ∧ (let u := calm.setTank 4 { tank4 [] with strap := .unsealed }
         (u.tank 4).strap = .unsealed ∧ u.tankInUse 4 = false) := by
  and_intros <;> decide +kernel

theorem witness_StrapPutWritesAndStrapSealChecks_seal :
    let s : State := { tanked [] with cursor := ⟨4, 4⟩ }
    let used : State := { planned entry4 with cursor := ⟨4, 4⟩ }
    s.Hears .ship ∧ used.Hears .ship ∧ decodeRequest .strapSeal (msg (.strapSeal 1 0)) = some (.strapSeal 1 0)
      ∧ decodeRequest .strapSeal (msg (.strapSeal 17 0)) = some (.strapSeal 17 0)
      ∧ decodeRequest .strapSeal (msg (.strapSeal 5 0)) = some (.strapSeal 5 0)
      ∧ used.tankInUse used.cursor.tank = true ∧ s.tankInUse s.cursor.tank = false
      ∧ (s.tank 4).firstPoints 5 = none ∧ (s.tank 4).firstPoints 4 = some table4 ∧ pointSum table4 ≠ 1861000
      ∧ (let d : Tank := { tank4 [] with decl := some { decl4 with hHihi := 10200 } }
         d.firstPoints 4 = some table4 ∧ pointSum table4 = 1890000 ∧ d.hihiWithin table4 = false) := by
  and_intros <;> decide +kernel

theorem witness_StrapSealSealsTheTable :
    let s : State := { tanked [] with cursor := ⟨4, 4⟩ }
    s.Hears .ship ∧ decodeRequest .strapSeal (msg (.strapSeal 4 1890000)) = some (.strapSeal 4 1890000)
      ∧ s.tankInUse s.cursor.tank = false ∧ (s.tank s.cursor.tank).firstPoints 4 = some table4
      ∧ pointSum table4 = 1890000 ∧ levelsRise table4 = true ∧ volumesHold table4 = true
      ∧ (s.tank s.cursor.tank).hihiWithin table4 = true := by
  and_intros <;> decide +kernel

/-- Tank 4 with its HIHI assertion standing. -/
def high4 : State := (tanked seven).modTank 4 fun k => { k with shipHihi := true }

theorem witness_LevelReadingJoinsOrFlushesTheWindow :
    (calm.Hears .ship ∧ decodeRequest .level (reading 100 false) = some (.level ((4 : TankNo) : Nat) 100 .good false false)
      ∧ (calm.tank 4).decl = none)
      ∧ (let s := tanked seven
         s.servingChan 4 = none ∧ s.TakesLevel (reading 9215 true) 4 decl4 9215 .good true false ∧ (s.tank 4).stepOk 9215 = true
           ∧ s.TakesLevel (reading 9216 false) 4 decl4 9216 .good false false ∧ (s.tank 4).stepOk 9216 = false
           ∧ s.TakesLevel (reading 30001 false) 4 decl4 30001 .good false false
           ∧ s.TakesLevel (msg (.level 4 30000 .suspect true false)) 4 decl4 30000 .suspect true false)
      ∧ high4.servingChan 4 = none
      ∧ high4.TakesLevel (msg (.level 4 8933 .good false true)) 4 decl4 8933 .good false true := by
  refine ⟨by and_intros <;> decide +kernel, ⟨by decide +kernel, ?_, by decide +kernel, ?_, by decide +kernel, ?_, ?_⟩,
    by decide +kernel, ⟨⟨rfl, rfl⟩, by decide⟩, by decide, rfl, .inl (by decide +kernel)⟩
  · exact takes_level (o := some 9215) (by decide +kernel) (by decide +kernel) (only rfl (by decide))
  all_goals exact takes_level (o := none) (by decide +kernel) (by decide +kernel) (nothing rfl)

/-- A reading sent SUSPECT for the tank of an ACTIVE entry whose channel flows, and one for a tank whose entry waits. -/
theorem witness_LevelReadingJoinsOrFlushesTheWindow_served :
    (let s := serving seven active4
     s.TakesLevel (msg (.level 4 8933 .suspect false false)) 4 decl4 8933 .suspect false false ∧ s.GrantsOk ∧ s.TanksShared
       ∧ s.activeChan 4 = some 1 ∧ (s.tankAfter 4 8933 .suspect).levelState.known = false ∧ (s.tank 4).ownHi = false)
      ∧ (let s := planned entry4
         s.TakesLevel (reading 8933 false) 4 decl4 8933 .good false false ∧ s.GrantsOk ∧ s.TanksShared
           ∧ s.servingChan 4 = some 1) :=
  ⟨⟨takes_level (o := none) (by decide +kernel) (by decide +kernel) (nothing rfl),
      by unfold State.GrantsOk Channel.FlowsByGrant; decide +kernel, one_shared rfl, by decide +kernel⟩,
    takes_level (o := some 8930) (by decide +kernel) (by decide +kernel) (only rfl (by decide)), planned_grants,
    one_shared rfl, by decide +kernel⟩

theorem witness_StaleTimerExpiryMarksTheTank :
    (let s : State := { tanked seven with now := 20 }
     s.Ready ∧ (s.tank 4).staleTimer = some 20 ∧ 20 ≤ s.now ∧ s.activeChan 4 = none)
      ∧ (let s : State := { serving seven active4 with now := 20 }
         s.Ready ∧ (s.tank 4).staleTimer = some 20 ∧ s.activeChan 4 = some 1 ∧ s.GrantsOk ∧ s.TanksShared
           ∧ (s.tank 4).window ≠ [] ∧ (s.chan 1).holds.blind = false ∧ (s.chan 1).state = .flowing)
      ∧ (let s : State := { dropped with now := 20 }
         s.Ready ∧ (s.tank 4).staleTimer = some 20 ∧ s.activeChan 4 = some 1 ∧ s.GrantsOk ∧ s.TanksShared
           ∧ (s.tank 4).window ≠ [] ∧ (s.chan 1).holds.blind = false ∧ s.header.state ≠ .serving) := by
  and_intros <;> first
    | exact one_shared rfl | decide +kernel | (unfold Channel.FlowsByGrant; decide +kernel)

/-- The header IDLE and channel 1 OPENING with nothing flowing, its entry ACTIVE with this window. -/
def opening (levels : List Nat) (e : Entry) : State :=
  (serving levels e).modChan 1 (fun k =>
    { k with state := .opening, openLimit := false, grant := 0, strokeTimer := some 45
             meter := { k.meter with rate := 0, stallTimer := none } })
    |>.modHeader fun h => { h with state := .idle }

/-! #### Ends and amendments of a current entry -/

/-- The entry of 4.9 with its margin worked, `A_close` of 453 L. -/
def margined : Entry := { active4 with margin := some { evaluatedAt := 0, q := 1812, aClose := 453, level := none, mm := 71747 } }

/-- Channel 1's entry back in AWAIT after its 127,800 L. -/
def await4 : Entry := { entry4 with delivered := 127800, baseline := some ⟨0, 987⟩ }

/-- `await4` planned, the pulse total standing where it was left. -/
def awaiting (e : Entry) : State := (planned e).modMeter 1 fun m => { m with total := 1261386 }

/-- The valve opening since time 0. -/
def openingNow : State := (opening seven margined).modChan 1 fun k => { k with openingStarted := some 0 }

/-- The channel CLOSING to the end of its ACTIVE entry. -/
def closingEnd : State :=
  (opening seven { margined with endPending := some .shipEnd }).modChan 1 fun k => { k with state := .closing, command := .toClose }

/-- An entry with the 127,800 L of 4.9 behind it meets the plan's invariants. -/
theorem delivered_ok {s : State} {e : Entry} (h : s.plan = onePlan e) (he : s.currentId e.chan = some 0 ∧ e.state ≠ .queued)
    (hb : e.baseline = some ⟨0, 987⟩ ∧ e.delivered = 127800) (ht : (s.chan e.chan).meter.total = 1261386) : s.PlanOk := by
  refine one_ok h he.1 he.2 (fun b hb' => ?_) (fun hn => by rw [hb.1] at hn; cases hn)
  rw [hb.1] at hb'; cases hb'
  rw [ht, hb.2]; exact ⟨Nat.zero_le _, by decide⟩

/-- `s` has room for a frame on port `p`, its plan holds the current entry `e` in slot 0, and its invariants stand. -/
abbrev Holds0 (p : Side) (e : Entry) (s : State) : Prop :=
  s.Hears p ∧ s.PlanOk ∧ s.GrantsOk ∧ s.entry 0 = some e ∧ s.currentId e.chan = some 0

theorem holds0 {p : Side} {e : Entry} {s : State} (hp : s.plan = onePlan e) (hh : s.Hears p) (hg : s.GrantsOk)
    (he : s.currentId e.chan = some 0 ∧ e.state ≠ .queued ∧ e.baseline = some ⟨0, 987⟩ ∧ e.delivered = 127800
      ∧ (s.chan e.chan).meter.total = 1261386) : Holds0 p e s :=
  ⟨hh, delivered_ok hp ⟨he.1, he.2.1⟩ ⟨he.2.2.1, he.2.2.2.1⟩ he.2.2.2.2, hg, by rw [one_at hp]; rfl, he.1⟩

/-- ENTRY-END: an AWAIT entry with its valve astray, an ACTIVE one FLOWING and one OPENING, and one whose end already pends. -/
theorem witness_EntryEndAppliesToAWaitingEntry_ends :
    decodeRequest .entryEnd (msg (.entryEnd 0)) = some (.entryEnd ((0 : EntryId) : Nat))
      ∧ (let s := (awaiting await4).modChan 1 fun k => { k with closedLimit := false }
         Holds0 .ship await4 s ∧ await4.state = .await ∧ await4.endPending = none ∧ (s.chan 1).provenClosed = false)
      ∧ (Holds0 .ship active4 (serving seven active4) ∧ active4.state = .active
          ∧ ((serving seven active4).chan 1).state = .flowing)
      ∧ (Holds0 .ship margined openingNow ∧ (openingNow.chan 1).state = .opening ∧ (openingNow.chan 1).openingStarted = some 0)
      ∧ Holds0 .ship { margined with endPending := some .shipEnd } closingEnd := by
  refine ⟨by decide, ⟨holds0 rfl ⟨⟨rfl, rfl⟩, by decide⟩ ?_ ?_, ?_⟩, ⟨holds0 rfl ⟨⟨rfl, rfl⟩, by decide⟩ ?_ ?_, ?_⟩,
    ⟨holds0 rfl ⟨⟨rfl, rfl⟩, by decide⟩ ?_ ?_, ?_⟩, holds0 rfl ⟨⟨rfl, rfl⟩, by decide⟩ ?_ ?_⟩ <;>
    first | decide +kernel | (unfold State.GrantsOk Channel.FlowsByGrant; decide +kernel)

/-- LINEUP and ENTRY-END past the plan's ids, of an unassigned slot, and of an entry that has ended. -/
theorem witness_EntryEndAppliesToAWaitingEntry_refused :
    calm.Hears .ship
      ∧ (∀ m ∈ [16, 255, 15, 0], decodeRequest .lineup (msg (.lineup m .ready)) = some (.lineup m .ready)
          ∧ decodeRequest .entryEnd (msg (.entryEnd m)) = some (.entryEnd m))
      ∧ (planned entry4).entry 15 = none
      ∧ (let e : Entry := { entry4 with state := .cancelled }
         (planned e).Hears .ship ∧ (planned e).entry 0 = some e ∧ (planned e).currentId e.chan ≠ some 0) := by
  and_intros <;> decide +kernel

/-- The endorsed AMEND of entry 0 to an allotment at rate 1,800, and its CANCEL. -/
def amendBody (a : Nat) : List Byte := endorseOf (.amend 0 a 1800)

theorem consents_amend (a : Nat) (ha : a ∈ [120000, 127800, 128000, 150000]) (s : State) :
    Consents (.endorse .barge (amendBody a)) .barge .endorse (amendBody a) (prop 1 .ship (.amend 0 a 1800))
      (offered .ship (.amend 0 a 1800) s) := by
  simp only [List.mem_cons, List.not_mem_nil, or_false] at ha
  rcases ha with rfl | rfl | rfl | rfl <;> exact consents_endorse s (by decide) (by decide)

/-- What an offer leaves of the plan and the channels is what it finds. -/
theorem offered_holds {b : ProposalBody} {e : Entry} {s : State} (h : Holds0 .barge e s) : Holds0 .barge e (offered .ship b s) := h

theorem current_holds :
    Holds0 .barge await4 (awaiting await4) ∧ Holds0 .barge { await4 with endPending := some .shipEnd }
        (awaiting { await4 with endPending := some .shipEnd })
      ∧ Holds0 .barge margined (serving seven margined) ∧ Holds0 .barge margined openingNow
      ∧ Holds0 .barge { margined with endPending := some .shipEnd } closingEnd := by
  refine ⟨?_, ?_, ?_, ?_, ?_⟩ <;> refine holds0 rfl ⟨⟨rfl, rfl⟩, by decide⟩ ?_ ?_ <;>
    first | decide +kernel | (unfold State.GrantsOk Channel.FlowsByGrant; decide +kernel)

/-- An AMEND and a CANCEL that the barge endorses of each current entry above: AWAIT, ACTIVE and FLOWING, ACTIVE and OPENING, and each of
the two with an end pending. -/
theorem witness_AdoptedAmendAndCancelOfAWaitingEntry_current :
    ∀ x ∈ [(awaiting await4, await4), (serving seven margined, margined), (openingNow, margined),
           (awaiting { await4 with endPending := some .shipEnd }, { await4 with endPending := some .shipEnd }),
           (closingEnd, { margined with endPending := some .shipEnd })],
      (Holds0 .barge x.2 (offered .ship (.cancel 0) x.1)
        ∧ Consents (.endorse .barge (endorseOf (.cancel 0))) .barge .endorse (endorseOf (.cancel 0)) (prop 1 .ship (.cancel 0))
            (offered .ship (.cancel 0) x.1))
        ∧ ∀ a ∈ [120000, 127800, 128000, 150000],
            Holds0 .barge x.2 (offered .ship (.amend 0 a 1800) x.1)
              ∧ Consents (.endorse .barge (amendBody a)) .barge .endorse (amendBody a) (prop 1 .ship (.amend 0 a 1800))
                  (offered .ship (.amend 0 a 1800) x.1) := by
  obtain ⟨h1, h2, h3, h4, h5⟩ := current_holds
  have key {s : State} {e : Entry} (h : Holds0 .barge e s) := And.intro
    (And.intro (offered_holds (b := .cancel 0) h) (consents_endorse (raw := .cancel 0) s rfl (by decide)))
    fun a ha => And.intro (offered_holds (b := .amend 0 a 1800) h) (consents_amend a ha s)
  intro x hx
  simp only [List.mem_cons, List.not_mem_nil, or_false] at hx
  rcases hx with rfl | rfl | rfl | rfl | rfl
  exacts [key h1, key h3, key h4, key h2, key h5]

/-- Against 127,800 L delivered and `A_close` 453 L: 127,800 and 120,000 leave nothing, 128,000 leaves 200 L and a margin of -253 L, and
150,000 a margin of 21,747 L; the rate is as it was, and the channel is open for service. -/
theorem witness_AdoptedAmendAndCancelOfAWaitingEntry_remaining :
    await4.delivered = 127800 ∧ margined.delivered = 127800 ∧ await4.state = .await ∧ margined.state = .active
      ∧ margined.endPending = none ∧ await4.endPending = none
      ∧ (∀ s ∈ [serving seven margined, openingNow], (s.chan 1).watched = true
          ∧ min 1800 (s.chanConfig 1).hoseMaxRate = margined.planRate)
      ∧ (serving seven margined).header.state = .serving ∧ openingNow.header.state ≠ .serving
      ∧ ((margined.margin.map fun x => ((128000 - 127800 : Nat) : Int) - x.aClose) = some (-253))
      ∧ ((margined.margin.map fun x => ((150000 - 127800 : Nat) : Int) - x.aClose) = some 21747)
      ∧ ((awaiting await4).chan 1).provenClosed = true ∧ ((awaiting await4).chan 1).stroking = false
      ∧ (closingEnd.chan 1).watched = false := by
  and_intros <;> decide +kernel

/-! #### Served readings -/

/-- Its entry with a slug settling and the channel held by SETTLING. -/
def settling (levels : List Nat) (st : Stage) : State :=
  (opening levels { active4 with stage := some st, slug := some ⟨.settling, some 100, some 0⟩ }).modChan 1 fun k =>
    { k with holds := { HoldSet.empty with settling := true } }

/-- Reading `l` of tank 4 leaves the effective level `x`, whose volume is `vNow`, and finds channel 1 serving entry `e` in stage `a`. -/
abbrev Finds (s : State) (e : Entry) (a : Stage) (l x vNow : Nat) : Prop :=
  ((s.powered = true ∧ s.evals = []) ∧ (s.port .ship).replies.length < 4
      ∧ decodeRequest .level (reading l false) = some (.level ((4 : TankNo) : Nat) l .good false false)
      ∧ (s.tank 4).decl = some decl4 ∧ (s.tank 4).ownHihi = false)
    ∧ (s.tankAfter 4 l .good).lEff = some x ∧ x < decl4.hHi ∧ s.activeChan 4 = some 1 ∧ s.servingChan 4 = some 1
    ∧ s.activeEntry 1 = some (0, e) ∧ e.tank = 4 ∧ (s.chan 1).watched = true ∧ e.endPending = none ∧ e.stage = some a
    ∧ (s.tankAfter 4 l .good).volume x = some vNow ∧ (s.tankAfter 4 l .good).volume decl4.hHi = some 887500

/-- The hypotheses the two statements about a served reading share. -/
abbrev Served (s : State) (e : Entry) (a : Stage) (l x vNow : Nat) : Prop :=
  s.TakesLevel (reading l false) 4 decl4 l .good false false ∧ s.LeavesLevel 4 decl4 l .good false x ∧ s.Serves 1 4 0 e
    ∧ e.stage = some a ∧ (s.tankAfter 4 l .good).volume x = some vNow
    ∧ (s.tankAfter 4 l .good).volume decl4.hHi = some 887500 ∧ (e.startQuality ≠ some .steady ∨ e.strikes = 0)

theorem served {s : State} {e : Entry} {a : Stage} {l x vNow : Nat} (h : Finds s e a l x vNow)
    (hs : e.startQuality ≠ some .steady ∨ e.strikes = 0) : Served s e a l x vNow := by
  obtain ⟨h1, h2, h3, h4, h5, h6, h7, h8, h9, h10, h11, h12⟩ := h
  exact ⟨takes_level h1 h2 (only rfl (Nat.lt_trans h3 (by decide))), ⟨h2, rfl, h3⟩, ⟨h4, h5, h6, h7, h8, h9⟩, h10, h11, h12, hs⟩

/-- The last level of the window, the reading, and the volume at it. -/
def plainReadings : List (Nat × Nat × Nat) :=
  [(7990, 8000, 760000), (8900, 8905, 836925), (9430, 9435, 881975), (9490, 9492, 886820), (9490, 9493, 886905)]

/-- From stage OPEN: no fall at 8,000 mm; a fall to TOPPING; falls to SLUG with a slug to size, with less than 100 L, and with one in
hand; and to FINAL. In service: no fall. -/
theorem witness_ServedReadingEvaluatesTheMargin_plain :
    (∀ p ∈ plainReadings, ∀ r ∈ [SlugPhase.idle, .delivering],
      let e : Entry := { active4 with slug := some ⟨r, none, none⟩ }
      Served (opening [p.1] e) e .full p.2.1 p.2.1 p.2.2)
      ∧ Served (serving [7990] active4) active4 .full 8000 8000 760000 ∧ active4.settling = false
      ∧ (∀ p ∈ plainReadings, (opening [p.1] active4).GrantsOk ∧ (opening [p.1] active4).header.state ≠ .serving)
      ∧ (serving [7990] active4).GrantsOk ∧ ((serving [7990] active4).chan 1).holds.blind = false := by
  have h : ∀ p ∈ plainReadings, ∀ r ∈ [SlugPhase.idle, .delivering],
      let e : Entry := { active4 with slug := some ⟨r, none, none⟩ }
      Finds (opening [p.1] e) e .full p.2.1 p.2.1 p.2.2 := by decide +kernel
  refine ⟨fun p hp r hr => served (h p hp r hr) (.inr rfl), served (by decide +kernel) (.inr rfl), rfl, ?_⟩
  unfold State.GrantsOk Channel.FlowsByGrant; decide +kernel

/-- The eighth reading of a settling ends it: with a slug to size at 9,000 mm, and below 100 L at 9,493 mm. -/
theorem witness_ServedReadingEvaluatesTheMargin_settling :
    let e : Entry := { active4 with stage := some .topping, slug := some ⟨.settling, some 100, some 0⟩ }
    e.settling = true ∧ ∀ p ∈ ([(9000, 845000), (9493, 886905)] : List (Nat × Nat)),
      let s := settling (List.replicate 7 p.1) .topping
      Served s e .topping p.1 p.1 p.2 ∧ s.GrantsOk ∧ (s.tankAfter 4 p.1 .good).window.length = 8
        ∧ (s.tankAfter 4 p.1 .good).levelState.settled = true ∧ (s.chan 1).holds.settling = true
        ∧ (900 * (s.chanConfig 1).strokeTime + 119) / 120 < e.remaining := by
  have h : ∀ p ∈ ([(9000, 845000), (9493, 886905)] : List (Nat × Nat)),
      Finds (settling (List.replicate 7 p.1) .topping)
        { active4 with stage := some .topping, slug := some ⟨.settling, some 100, some 0⟩ } .topping p.1 p.1 p.2 := by
    decide +kernel
  refine ⟨rfl, fun p hp => ⟨served (h p hp) (.inr rfl), ?_⟩⟩
  revert p
  unfold State.GrantsOk Channel.FlowsByGrant; decide +kernel

/-- The entry of 4.9 from a CONSERVATIVE start, and from STEADY ones whose comparison is WITHIN, EXCESS with no strike and with one, and
GAIN. -/
def compared : List Entry :=
  [{ active4 with startQuality := some .conservative }, active4, { active4 with startVolume := some 838000 },
   { active4 with startVolume := some 838000, startQuality := some .steady, strikes := 1 },
   { active4 with startVolume := some 600000 }]

theorem witness_SteadyReadingReconcilesOrRebases :
    (∀ e ∈ compared, let s := opening seven e
      s.TakesLevel (reading 8933 false) 4 decl4 8933 .good false false ∧ s.LeavesLevel 4 decl4 8933 .good false 8929
        ∧ s.Serves 1 4 0 e ∧ (s.tankAfter 4 8933 .good).levelState = .steady
        ∧ (s.tankAfter 4 8933 .good).volume 8929 = some 838965)
      ∧ active4.startQuality = some .steady ∧ active4.baseline = some ⟨0, 987⟩ ∧ active4.meterBaseline = some 0
      ∧ active4.startVolume = some 712440 ∧ active4.recon = some ⟨.activation, none⟩
      ∧ (compared.map fun e => ((e.compare 0 1261386 838965 500).result, e.strikes))
          = [(.within, 0), (.within, 0), (.excess, 0), (.excess, 1), (.gain, 0)] := by
  have h : ∀ e ∈ compared, Finds (opening seven e) e .full 8933 8929 838965
      ∧ ((opening seven e).tankAfter 4 8933 .good).levelState = .steady := by decide +kernel
  refine ⟨fun e he => ?_, rfl, rfl, rfl, rfl, rfl, by decide +kernel⟩
  obtain ⟨⟨h1, h2, h3, h4, h5, h6, h7, h8, h9, -, h11, -⟩, hst⟩ := h e he
  exact ⟨takes_level h1 h2 (only rfl (Nat.lt_trans h3 (by decide))), ⟨h2, rfl, h3⟩, ⟨h4, h5, h6, h7, h8, h9⟩, hst, h11⟩

theorem witness_WindowsStayWithinTheirBounds :
    (∀ u, ((tanked seven).tank u).WindowOk)
      ∧ ∃ t, step { tanked seven with pending := [.level .ship (msg (.level 4 8933 .good false false))] } = .next t :=
  ⟨by unfold Tank.WindowOk; decide +kernel, _, rfl⟩

theorem witness_LevelStateFollowsTheWindow :
    ({ tank4 [] with suspect := some .ship } : Tank).suspect ≠ none ∧ (tank4 []).suspect = none ∧ (tank4 []).window = []
      ∧ ({ tank4 seven with stale := true } : Tank).window ≠ [] ∧ (tank4 seven).window.length < 8
      ∧ (let k := tank4 [8910, 8970, 8928, 8941, 8915, 8933, 8962, 8950]
         k.window.length = 8 ∧ greatest k.window - least k.window ≤ k.sloshTolerance)
      ∧ (let k := tank4 [8910, 8971, 8928, 8941, 8915, 8933, 8962, 8950]
         k.window.length = 8 ∧ k.sloshTolerance < greatest k.window - least k.window) := by decide +kernel

theorem witness_VolumesFollowTheTable :
    levelsRise table4 = true ∧ volumesHold table4 = true ∧ table4.head? = some ⟨0, 0⟩
      ∧ table4.getLast? = some ⟨10000, 930000⟩ ∧ table4[2]? = some ⟨8000, 760000⟩ ∧ table4[2 + 1]? = some ⟨10000, 930000⟩
      ∧ volumeAt 8000 table4 = some 760000 ∧ volumeAt 9999 table4 = some 929915
      ∧ volumeAt 0 (⟨5, 100⟩ :: table4.drop 1) = some 100 ∧ (tank4 []).strap = .sealed 4
      ∧ (tank4 []).firstPoints 4 = some table4 := by decide +kernel

/-- A tank that is not SEALED. -/
theorem witness_VolumesFollowTheTable_unsealed : ∀ n, Tank.blank.strap ≠ .sealed n := nofun

/-! #### The hose channels -/

/-- The barge's request about channel 1. -/
theorem reads_channel_1 :
    decodeRequest .arm (msg (.arm 1)) = some (.arm ((1 : Chan) : Nat))
      ∧ decodeRequest .mask (msg (.mask 1)) = some (.mask ((1 : Chan) : Nat))
      ∧ decodeRequest .hose (msg (.hose 1)) = some (.hose ((1 : Chan) : Nat))
      ∧ decodeRequest .pause (msg (.pause 1)) = some (.pause ((1 : Chan) : Nat))
      ∧ decodeRequest .continue_ (msg (.continue_ 1)) = some (.continue_ ((1 : Chan) : Nat)) := by decide

/-- Channel 1 in a state, with its limits. -/
def chan1 (st : ChState) (closed opened : Bool) : State :=
  calm.modChan 1 fun k => { k with state := st, command := st.command, closedLimit := closed, openLimit := opened }

theorem witness_ArmMaskAndHoseByState :
    (∀ st closed opened, (chan1 st closed opened).Hears .barge)
      ∧ ((chan1 .opening false false).chan 1).watched = true ∧ ((chan1 .closing false false).chan 1).state = .closing
      ∧ ((chan1 .masked false false).chan 1).closedLimit = false ∧ ((chan1 .fault true true).chan 1).provenClosed = false
      ∧ ((chan1 .idle true false).chan 1).state = .idle ∧ ((chan1 .masked true true).chan 1).closedLimit = true
      ∧ ((chan1 .masked true true).chan 1).authorised = false ∧ ((chan1 .fault true false).chan 1).provenClosed = true
      ∧ ((chan1 .masked true false).chan 1).provenClosed = true ∧ ((chan1 .masked true true).chan 1).provenClosed = false := by
  refine ⟨fun _ _ _ => ⟨⟨rfl, rfl⟩, Nat.zero_lt_succ _⟩, ?_⟩
  decide +kernel

theorem serving_grants : (serving seven active4).GrantsOk := by
  unfold State.GrantsOk Channel.FlowsByGrant; decide +kernel

theorem calm_grants : calm.GrantsOk := by unfold State.GrantsOk Channel.FlowsByGrant; decide +kernel

/-- Channel 1 with the barge's pause held. -/
def paused : State := calm.modChan 1 fun k => { k with holds := { k.holds with pauseB := true } }

theorem paused_grants : paused.GrantsOk := by unfold State.GrantsOk Channel.FlowsByGrant; decide +kernel

theorem witness_PauseAndContinue :
    calm.Hears .barge ∧ calm.GrantsOk ∧ paused.Hears .barge ∧ paused.GrantsOk ∧ (serving seven active4).Hears .barge
      ∧ (serving seven active4).GrantsOk ∧ (paused.chan 1).holds.has (pauseOf .barge) = true
      ∧ (calm.chan 1).holds.has (pauseOf .barge) = false ∧ calm.header.state ≠ .serving ∧ paused.header.state ≠ .serving
      ∧ ((serving seven active4).chan 1).state = .flowing := by
  and_intros <;> first
    | exact calm_grants.2.2 | exact paused_grants.2.2 | exact serving_grants.2.2 | decide +kernel

theorem witness_PauseAndContinue_kept :
    (Instr.stopAll .ship 7).wellFormed = true ∧ exec (.stopAll .ship 7) paused = .next (after (.stopAll .ship 7) paused)
      ∧ paused.trip.Bounded ∧ (paused.chan 1).holds.has (pauseOf .barge) = true :=
  ⟨rfl, rfl, calm_trip_bounded, by decide +kernel⟩

/-- Channel 1 HELD with the open limit, the header SERVING. -/
def held1 : State :=
  (chan1 .held false true).modChan 1 fun k => { k with holds := { k.holds with noGrant := true } }

theorem chan1_grants : (chan1 .opening false false).GrantsOk := by
  unfold State.GrantsOk Channel.FlowsByGrant; decide +kernel

theorem witness_LimitSwitchesMoveTheChannel :
    (∀ st closed opened, (chan1 st closed opened).Ready ∧ (chan1 st closed opened).trip.state = .normal)
      ∧ (let s := chan1 .closing false false
         (s.chan 1).state = .closing ∧ (s.chan 1).closedLimit = false ∧ (s.chan 1).openLimit = false
           ∧ (s.chan 1).authorised = false ∧ ∀ j e, s.current 1 = some (j, e) → e.endPending = none)
      ∧ ((chan1 .idle true false).chan 1).closedLimit = true ∧ ((chan1 .masked true false).chan 1).closedLimit = true
      ∧ ((chan1 .opening true false).chan 1).closedLimit = true
      ∧ (let s := chan1 .opening false false
         (s.chan 1).openLimit = false ∧ (s.chan 1).closedLimit = false ∧ s.header.state = .idle ∧ s.header.dp = false
           ∧ s.GrantsOk ∧ s.anyCalling = false)
      ∧ (held1.Ready ∧ (held1.chan 1).calling = true ∧ (held1.chan 1).openLimit = true)
      ∧ ((chan1 .closing false true).chan 1).openLimit = true := by
  refine ⟨fun _ _ _ => ⟨⟨rfl, rfl⟩, rfl⟩, ?_⟩
  and_intros <;> first
    | exact chan1_grants.2.2 | exact ⟨rfl, rfl⟩ | decide +kernel
    | exact fun j e h => by
        have h1 : (chan1 .closing false false).current 1 = none := by decide +kernel
        rw [h1] at h; cases h

/-- Channel 1 CLOSING to the end of its entry. -/
def closingTo (r : EndReason) : State :=
  let s := (planned { entry4 with endPending := some r }).modChan 1 fun k =>
    { k with state := .closing, closedLimit := false, openLimit := false }
  { s with trip := { s.trip with state := .tripping, unproven := s.trip.unproven.set 2 true } }

theorem witness_LimitSwitchesMoveTheChannel_closed :
    ∀ r, (closingTo r).Ready ∧ (closingTo r).PlanOk ∧ ((closingTo r).chan 1).state = .closing
      ∧ ((closingTo r).chan 1).closedLimit = false ∧ ((closingTo r).chan 1).openLimit = false
      ∧ (closingTo r).current 1 = some (0, { entry4 with endPending := some r }) ∧ (closingTo r).trip.state = .tripping := by
  intro r
  refine ⟨⟨rfl, rfl⟩, one_ok (e := { entry4 with endPending := some r }) rfl ?_ nofun nofun (fun _ => rfl), ?_⟩ <;>
    cases r <;> decide +kernel

theorem witness_FieldWatchesFollowTheirInputs :
    let s := chan1 .masked true false
    let low := held1.modChan 1 fun k => { k with sourceLow := true, holds := { k.holds with sourceLow := true } }
    s.Ready ∧ (s.chanConfig 1).pressureMax ≤ 1000 ∧ 999 < (s.chanConfig 1).pressureMax ∧ (s.chan 1).state = .masked
      ∧ (s.chanConfig 1).strainWarn ≤ 300 ∧ 299 < (s.chanConfig 1).strainWarn ∧ (s.chanConfig 1).strainTrip ≤ 450
      ∧ 449 < (s.chanConfig 1).strainTrip ∧ (calm.chan 1).state ≠ .masked ∧ (s.chan 1).sourceLow = false
      ∧ (s.chan 1).watched = false ∧ held1.GrantsOk ∧ held1.header.state ≠ .serving ∧ (held1.chan 1).watched = true
      ∧ (held1.chan 1).sourceLow = false ∧ (held1.chan 1).holds.sourceLow = false ∧ low.GrantsOk
      ∧ (low.chan 1).sourceLow = true ∧ (low.chan 1).holds.sourceLow = true ∧ (low.chan 1).holds.noGrant = true := by
  and_intros <;> first
    | decide +kernel | (unfold Channel.FlowsByGrant; decide +kernel)

theorem witness_ValveCommandsFollowTheStates :
    (serving seven active4).CommandsFollow
      ∧ ∃ t, step { serving seven active4 with pending := [.openLimitLost 1] } = .next t :=
  ⟨by unfold State.CommandsFollow; decide +kernel, _, rfl⟩

/-! #### Configuration, header and Metering -/

/-- A channel configuration in the LOW group. -/
def lowConfig : ChannelConfig := { ChannelConfig.default with group := .low }

theorem witness_ConfigurationRequests_chconfig :
    let k := lowConfig
    let m := chan1 .masked true false
    let cur : State := { planned entry4 with channels := m.channels }
    m.Hears .barge ∧ calm.Hears .barge ∧ cur.Hears .barge
      ∧ decodeRequest .chconfig (msg (.chconfig 1 k)) = some (.chconfig ((1 : Chan) : Nat) k)
      ∧ ({ k with strainWarn := 450 } : ChannelConfig).ok = false ∧ k.ok = true ∧ (calm.chan 1).state ≠ .masked
      ∧ (m.chan 1).state = .masked ∧ ({ k with grade := 2 } : ChannelConfig).ok = true
      ∧ ({ k with grade := 2 } : ChannelConfig).grade ≠ (cur.chanConfig 1).grade ∧ cur.currentId 1 ≠ none
      ∧ k.grade = (m.chanConfig 1).grade ∧ k.group ≠ (m.chanConfig 1).group := by
  and_intros <;> decide +kernel

theorem witness_ConfigurationRequests_header :
    let h := HeaderConfig.default
    let d := DeviceConfig.default
    calm.Hears .barge ∧ decodeRequest .headerconfig (msg (.headerconfig h d)) = some (.headerconfig h d)
      ∧ ({ h with capacity := 499 } : HeaderConfig).ok = false ∧ ({ d with linkSilence := 31 } : DeviceConfig).ok = false
      ∧ h.ok = true ∧ d.ok = true ∧ calm.header.state = .idle ∧ (serving seven active4).header.state ≠ .idle
      ∧ decodeRequest .priority (msg (.priority .grouped)) = some (.priority .grouped)
      ∧ (serving seven active4).anyCalling = true ∧ calm.anyCalling = false ∧ calm.GrantsOk := by
  and_intros <;> first | exact calm_grants.2.2 | decide +kernel

/-- The header as given, channel 1 HELD and calling or every channel IDLE. -/
def headed (calling : Bool) (f : Header → Header) : State := (if calling then held1 else calm).modHeader f

/-- WAITING with a return state. -/
def waitingFor (r : HeaderState) (run : Bool) (h : Header) : Header :=
  { h with state := .waiting, returnState := some r, waitTimer := some 120, dp := true, pumpRunning := run }

theorem headed_ok :
    ∀ s ∈ [calm, serving seven active4, headed true (waitingFor .priming true), headed true (waitingFor .serving true),
           headed false (waitingFor .standby true), headed true fun h => { h with dp := true },
           headed true (fun h => { h with state := .priming, primeTimer := some 60, pumpRunning := true }),
           headed false fun h => { h with state := .standby, pumpRunning := true }],
      s.powered = true ∧ s.evals = [] ∧ s.GrantsOk ∧ s.header.TimersOk ∧ s.trip.state = .normal := by
  unfold State.GrantsOk Channel.FlowsByGrant Header.TimersOk; decide +kernel

theorem witness_StrainerDpSuspendsAndResumes :
    calm.header.dp = false ∧ calm.header.state = .idle ∧ (serving seven active4).header.dp = false
      ∧ (serving seven active4).header.state = .serving
      ∧ (let s := headed true fun h => { h with dp := true }; s.header.dp = true ∧ s.header.state ≠ .waiting)
      ∧ (let s := headed false (waitingFor .standby true)
         s.header.dp = true ∧ s.header.state = .waiting ∧ s.anyCalling = false)
      ∧ (let s := headed true (waitingFor .priming true)
         s.header.state = .waiting ∧ s.anyCalling = true ∧ s.header.returnState = some .priming)
      ∧ (let s := headed true (waitingFor .serving true)
         s.header.state = .waiting ∧ s.anyCalling = true ∧ s.header.returnState ≠ some .priming
           ∧ s.header.pumpRunning = true) := by decide +kernel

theorem witness_PumpPrimesAndFails :
    (let s : State := { headed true (fun h => { h with state := .priming, primeTimer := some 60, pumpRunning := true }) with
        now := 60 }
     s.header.primeTimer = some 60 ∧ 60 ≤ s.now ∧ s.header.pumpRunning = true ∧ s.anyCalling = true)
      ∧ (let s := serving seven active4
         s.header.pumpRunning = true ∧ s.header.state = .serving ∧ s.header.dp = false ∧ s.anyCalling = true)
      ∧ (let s := headed false fun h => { h with state := .standby, pumpRunning := true }
         s.header.pumpRunning = true ∧ s.header.state = .standby)
      ∧ (let s := headed true (waitingFor .priming true)
         s.header.pumpRunning = true ∧ s.header.state ≠ .serving ∧ s.header.state ≠ .standby) := by decide +kernel

theorem witness_PulsesAndRefreshesAreCounted :
    let full := calm.modMeter 1 fun m => { m with total := 4294967295, saturated := true }
    let e : Entry := active4
    let s := (serving seven e).modMeter 1 fun m => { m with total := 4294967294 }
    let due := { calm with now := 10 }
    full.Ready ∧ (full.chan 1).meter.saturated = true ∧ s.Ready ∧ (s.chan 1).meter.saturated = false
      ∧ s.current 1 = some (0, e) ∧ e.baseline = some ⟨0, 987⟩ ∧ due.Ready ∧ (due.chan 1).meter.nextRefresh ≤ due.now
      ∧ (due.chan 1).meter.nextRefresh + 10 < 4294967296 := by
  and_intros <;> decide +kernel

/-- A pulse that brings a slug to its size, and refreshes of an entry whose level half does not run, its margin left and spent. -/
theorem witness_PulsesAndRefreshesAreCounted_entry :
    (let e : Entry := { active4 with stage := some .slug, slug := some ⟨.delivering, some 127700, some 100⟩ }
     let s := serving seven e
     s.Ready ∧ (s.chan 1).meter.saturated = false ∧ s.activeEntry 1 = some (0, e) ∧ e.baseline = some ⟨0, 987⟩
       ∧ e.endPending = none ∧ ((s.chan 1).meter.total + 1 - 0) * 100 / 987 = 127800 ∧ 127800 < e.allotment
       ∧ e.margin = none ∧ s.GrantsOk ∧ s.activeChan 4 = some 1)
      ∧ ∀ e ∈ [active4, { active4 with allotment := 127800 }],
        let s := { serving [] e with now := 10 }
        s.Ready ∧ s.activeEntry 1 = some (0, e) ∧ e.chan = 1 ∧ (s.chan 1).meter.nextRefresh ≤ s.now
          ∧ (s.tank e.tank).lEff = none ∧ (s.chan 1).watched = true ∧ e.endPending = none := by
  unfold State.Ready State.GrantsOk Channel.FlowsByGrant; decide +kernel

theorem witness_PulseTotalsStopAtTheirLimit :
    let s := calm.modMeter 1 fun m => { m with total := 4294967294 }
    s.MetersOk ∧ ∃ t, step { s with pending := [.meterPulse 1] } = .next t :=
  ⟨by unfold State.MetersOk Meter.Ok; decide +kernel, _, rfl⟩

theorem witness_GrantsNeverExceedTheCapacity :
    (serving seven active4).GrantsOk
      ∧ ∃ t, step { serving seven active4 with pending := [.level .ship (msg (.level 4 8933 .good false false))] } = .next t :=
  ⟨serving_grants, _, rfl⟩

theorem witness_SharesStayWithinTheCapacityLeft :
    let a : Ask := ⟨2, 1200, 200⟩
    ([⟨1, 1500, 200⟩, a] : List Ask)[1]? = some a ∧ (shareOut 2100 [⟨1, 1500, 200⟩, a])[1]? = some (2, 600)
      ∧ a.minFlow ≤ min a.r 200 ∧ min a.r 199 < a.minFlow := by decide

/-- A regrant: one that serves and one that does not, a channel locked in and one not, and the lists of a rotation. -/
theorem witness_SharesStayWithinTheCapacityLeft_regrant :
    (let s := serving seven { active4 with mode := .demand }
     s.header.state = .serving ∧ s.lockedIn 1 = false ∧ (s.chan 1).calling = true ∧ (s.chan 1).FlowsByGrant
       ∧ s.chan 1 = { s.chan 1 with command := .toOpen } ∧ 0 < s.newGrant 1)
      ∧ (serving seven active4).lockedIn 1 = true
      ∧ (let s := headed true id
         s.header.state ≠ .serving ∧ (s.chan 1).calling = true ∧ (s.chan 1).FlowsByGrant
           ∧ s.chan 1 = { s.chan 1 with command := .toOpen } ∧ s.newGrant 1 = 0)
      ∧ (let s := partway [.chan 1, .lowToken] [2]
         .chan 1 ∈ s.header.high ∧ 1 ∉ s.header.low ∧ 2 ∈ s.header.low ∧ .lowToken ∈ s.header.high) := by
  unfold Channel.FlowsByGrant; decide +kernel

end Sys2Proof.Tests
end

/-! SUPPORT. A request on a port, said once: what the link's refresh leaves, what a list of notices makes of the ports, and what a
statement `Does` or `Refuses` asks of the request's own rule. -/

namespace Sys2Proof.Machine

/-! ### The two ports -/

/-- The state with other ports. -/
def State.withPorts (s : State) (a b : Port) : State := { s with portB := a, portS := b }

@[simp] theorem cursor_withPorts (s : State) (a b : Port) : (s.withPorts a b).cursor = s.cursor := rfl
@[simp] theorem tank_withPorts (s : State) (a b : Port) : (s.withPorts a b).tank = s.tank := rfl
@[simp] theorem tankInUse_withPorts (s : State) (a b : Port) : (s.withPorts a b).tankInUse = s.tankInUse := rfl

theorem modPort_eq_withPorts (s : State) (p : Side) (f : Port → Port) :
    s.modPort p f = s.withPorts (s.modPort p f).portB (s.modPort p f).portS := by cases p <;> rfl

theorem port_other_modPort (s : State) (p : Side) (f : Port → Port) : (s.modPort p f).port p.other = s.port p.other := by
  cases p <;> rfl

/-! ### A list of notices raised in order (R172) -/

/-- A port offered the notices in their order. -/
def Port.offerAll (ns : List Notice) (x : Port) : Port := ns.foldl (fun x n => x.offer n) x

/-- Notices raised in their order. -/
def raiseAll (ns : List Notice) (s : State) : State := s.withPorts (s.portB.offerAll ns) (s.portS.offerAll ns)

@[simp] theorem raiseAll_nil (s : State) : raiseAll [] s = s := rfl
theorem raise_eq_raiseAll (n : Notice) (s : State) : raise n s = raiseAll [n] s := rfl
@[simp] theorem raiseAll_raiseAll (ns ms : List Notice) (s : State) : raiseAll ms (raiseAll ns s) = raiseAll (ns ++ ms) s := by
  simp [raiseAll, State.withPorts, Port.offerAll]
@[simp] theorem tank_raiseAll (ns : List Notice) (s : State) : (raiseAll ns s).tank = s.tank := rfl
@[simp] theorem now_raiseAll (ns : List Notice) (s : State) : (raiseAll ns s).now = s.now := rfl
@[simp] theorem port_raiseAll (ns : List Notice) (s : State) (q : Side) : (raiseAll ns s).port q = (s.port q).offerAll ns := by
  cases q <;> rfl

@[simp] theorem ended_offer (x : Port) (n : Notice) : (x.offer n).ended = x.ended := by
  unfold Port.offer; repeat' split
  all_goals rfl

@[simp] theorem line_offerAll (ns : List Notice) (x : Port) : (x.offerAll ns).line = x.line := by
  induction ns generalizing x with
  | nil => rfl
  | cons n ns ih => exact (ih _).trans (line_offer x n)

@[simp] theorem ended_offerAll (ns : List Notice) (x : Port) : (x.offerAll ns).ended = x.ended := by
  induction ns generalizing x with
  | nil => rfl
  | cons n ns ih => exact (ih _).trans (ended_offer x n)

/-- What a port makes of the notices offered it rests on: its link state, its notices and notices lost (R172). -/
structure Port.HearsAlike (x y : Port) : Prop where
  link : x.link = y.link
  notices : x.notices = y.notices
  lost : x.lost = y.lost

theorem Port.HearsAlike.offer {x y : Port} (h : x.HearsAlike y) (n : Notice) : (x.offer n).HearsAlike (y.offer n) := by
  obtain ⟨hlink, hnotices, hlost⟩ := h
  unfold Port.offer
  rw [hlink, hnotices]
  split
  · exact ⟨hlink, hnotices, hlost⟩
  · split
    · exact ⟨rfl, rfl, hlost⟩
    · exact ⟨rfl, rfl, rfl⟩

theorem Port.HearsAlike.offerAll {x y : Port} (ns : List Notice) (h : x.HearsAlike y) :
    (x.offerAll ns).HearsAlike (y.offerAll ns) := by
  induction ns generalizing x y with
  | nil => exact h
  | cons n ns ih => exact ih (h.offer n)

/-! ### The link's refresh (R164, R165) -/

/-- A frame's refresh of the link touches the two ports only. -/
theorem refreshLink_eq_withPorts (p : Side) (s : State) :
    refreshLink p s = s.withPorts (refreshLink p s).portB (refreshLink p s).portS := by
  unfold refreshLink
  cases p <;> (split <;> rfl)

theorem line_refreshLink (p : Side) (s : State) : ((refreshLink p s).port p).line = s.lineAfter p (s.port p).replies := by
  unfold refreshLink
  split
  case h_1 hl => simp [Port.line, State.lineAfter, hl]
  case h_2 hl => rw [noteTrip, raise_eq_raiseAll, port_raiseAll, line_offerAll, port_modPort, if_pos rfl]; rfl

theorem line_other_refreshLink (p : Side) (s : State) : ((refreshLink p s).port p.other).line = (s.port p.other).line := by
  unfold refreshLink
  split
  · rw [port_other_modPort]
  · rw [noteTrip, raise_eq_raiseAll, port_raiseAll, line_offerAll, port_other_modPort]

theorem ended_refreshLink (p q : Side) (s : State) : ((refreshLink p s).port q).ended = (s.port q).ended := by
  unfold refreshLink
  split
  · rw [port_modPort]; split <;> simp_all
  · rw [noteTrip, raise_eq_raiseAll, port_raiseAll, ended_offerAll, port_modPort]; split <;> simp_all

/-- On a LIVE port the refresh raises no notice. -/
theorem hearsAlike_refreshLink {p : Side} {s : State} (hl : (s.port p).link = .live) (q : Side) :
    ((refreshLink p s).port q).HearsAlike (s.port q) := by
  unfold refreshLink
  rw [hl]
  simp only [port_modPort]
  split
  · subst q; exact ⟨rfl, rfl, rfl⟩
  · exact ⟨rfl, rfl, rfl⟩

/-! ### A reply placed (R170) -/

theorem pushReply_eq_withPorts (p : Side) (r : Reply) (s : State) :
    pushReply p r s = s.withPorts (pushReply p r s).portB (pushReply p r s).portS := modPort_eq_withPorts ..

theorem port_pushReply (p : Side) (r : Reply) (s : State) :
    (pushReply p r s).port p = { s.port p with replies := (s.port p).replies ++ [r] } := by simp [pushReply]

theorem port_other_pushReply (p : Side) (r : Reply) (s : State) : (pushReply p r s).port p.other = s.port p.other :=
  port_other_modPort ..

theorem hearsAlike_pushReply (p q : Side) (r : Reply) (s : State) : ((pushReply p r s).port q).HearsAlike (s.port q) := by
  simp only [pushReply, port_modPort]
  split
  · subst q; exact ⟨rfl, rfl, rfl⟩
  · exact ⟨rfl, rfl, rfl⟩

theorem ended_pushReply (p q : Side) (r : Reply) (s : State) : ((pushReply p r s).port q).ended = (s.port q).ended := by
  simp only [pushReply, port_modPort]
  split
  · subst q; rfl
  · rfl

/-! ### From the frame to the request's own rule (R167) -/

theorem exec_frameCommand (p : Side) (k : RequestKind) (body : List Byte) (s : State) :
    exec (frameCommand p k body) s = whileOn s (withEvals (takeRequest p k body)) := by cases k <;> rfl

/-- An effect that hands on no evaluation is the command's whole effect (log 17). -/
theorem withEvals_of_no_evals {f : State → State} {s : State} (h : (f s).evals = []) :
    withEvals f s = (f s).startSending := by
  have hrun : runEvals evalBudget (f s) = f s := by rw [evalBudget, runEvals, h]
  have heff : effect f s = f s := by rw [effect, hrun, ← h]
  rw [withEvals, heff]

/-- A permitted frame that reads as request `r` finds its port with room and carries `r` out (R167 steps 1 to 5). -/
theorem takeRequest_of_hears {p : Side} {k : RequestKind} {body : List Byte} {r : Request} {s : State} (hs : s.Hears p)
    (hp : permits k p = true) (hd : decodeRequest k body = some r) :
    takeRequest p k body s = pushReply p { tag := bodyTag body, kind := k.code, result := (handle p r (refreshLink p s)).2 }
      (handle p r (refreshLink p s)).1 := by
  have hr : ((refreshLink p s).port p).replies = (s.port p).replies := congrArg Line.replies (line_refreshLink p s)
  have hroom : ¬ replyRoom ≤ ((refreshLink p s).port p).replies.length := by
    rw [hr]; exact Nat.not_le.mpr hs.2
  simp only [takeRequest, if_neg hroom, judgeRequest, hp, hd, if_true]

/-- A request does what its own rule does whatever the ports are: it makes `u` of the part, raises `ns` and is answered `result`. -/
theorem does_of_handle {p : Side} {k : RequestKind} {body : List Byte} {r : Request} {result : Result} {ns : List Notice}
    {s u : State} (hs : s.Hears p) (hp : permits k p = true) (hd : decodeRequest k body = some r) (hu : u.evals = [])
    (hh : ∀ a b, handle p r (s.withPorts a b) = (raiseAll ns (u.withPorts a b), result)) :
    Does (frameCommand p k body) p k body result ns s u := by
  let s1 := refreshLink p s
  let u1 := raiseAll ns (u.withPorts s1.portB s1.portS)
  let reply : Reply := { tag := bodyTag body, kind := k.code, result := result }
  have hport (q : Side) : u1.port q = (s1.port q).offerAll ns := by cases q <;> rfl
  have htake : takeRequest p k body s = pushReply p reply u1 := by
    have hh1 : handle p r (refreshLink p s) = (u1, result) := by rw [refreshLink_eq_withPorts]; exact hh ..
    rw [takeRequest_of_hears hs hp hd, hh1]
  refine ⟨pushReply p reply u1, ?_, ?_, ⟨?_, ?_⟩, fun q => ?_, fun hl q => ?_⟩
  · have hev : (takeRequest p k body s).evals = [] := by rw [htake, pushReply_eq_withPorts]; exact hu
    rw [exec_frameCommand, whileOn, if_pos hs.1.1, withEvals_of_no_evals hev, htake]
  · exact pushReply_eq_withPorts p reply u1
  · have hline : (u1.port p).line = s.lineAfter p (s.port p).replies := by
      rw [hport, line_offerAll, line_refreshLink]
    have hr : (u1.port p).replies = (s.port p).replies := congrArg Line.replies hline
    rw [port_pushReply, hr]
    exact congrArg (fun l : Line => { l with replies := (s.port p).replies ++ [reply] }) hline
  · rw [port_other_pushReply, hport, line_offerAll, line_other_refreshLink]
  · rw [ended_pushReply, hport, ended_offerAll, ended_refreshLink]
  · have halike := (hearsAlike_refreshLink hl q).offerAll ns
    have hpush := hearsAlike_pushReply p q reply u1
    rw [hport] at hpush
    exact ⟨hpush.notices.trans halike.notices, hpush.lost.trans halike.lost⟩

/-- A request whose rule refuses it, whatever the ports are, is refused and nothing else is touched (R170). -/
theorem refuses_of_handle {p : Side} {k : RequestKind} {body : List Byte} {r : Request} {reason : Reason} {s : State}
    (hs : s.Hears p) (hp : permits k p = true) (hd : decodeRequest k body = some r)
    (hh : ∀ a b, handle p r (s.withPorts a b) = refuse (s.withPorts a b) reason) :
    Refuses (frameCommand p k body) p k body reason s :=
  does_of_handle hs hp hd hs.1.2 hh

end Sys2Proof.Machine

/-! SUPPORT. The strapping requests of the ship station (R25 to R28): their checks as facts about the operands, what a put leaves in
the slots, and what a put and a seal make of the tank and raise. -/

namespace Sys2Proof.Machine

/-! ### The operands -/

theorem tankOf_val (u : TankNo) : tankOf u = some u := dif_pos u.isLt

theorem tankOf_none {n : Nat} (h : 12 ≤ n) : tankOf n = none := dif_neg (Nat.not_lt.mpr h)

theorem inRange_iff (lo hi n : Nat) : inRange lo hi n = true ↔ lo ≤ n ∧ n ≤ hi := decide_eq_true_iff

theorem point_ok_iff (p : Point) : p.ok = true ↔ p.level ≤ 30000 ∧ p.volume ≤ 10000000 := by
  simp [Point.ok, inRange_iff]

theorem take_four_length (p0 p1 p2 p3 : Point) {n : Nat} (h : n ≤ 4) : ([p0, p1, p2, p3].take n).length = n := by
  simpa using h

/-! ### STRAP-SEEK (R25) -/

theorem doStrapSeek_ok (u : TankNo) {i : Nat} (hi : i ≤ 15) (s : State) :
    doStrapSeek u i s = ({ s with cursor := { tank := u, index := i } }, .done (.cursor { tank := u, index := i })) := by
  simp only [doStrapSeek, tankOf_val, if_pos hi]

theorem doStrapSeek_range {n i : Nat} (h : 12 ≤ n ∨ 16 ≤ i) (s : State) : doStrapSeek n i s = refuse s .range := by
  unfold doStrapSeek
  split
  case h_1 t ht =>
    have hn : ¬ 12 ≤ n := fun hn => by rw [tankOf_none hn] at ht; cases ht
    exact if_neg (by omega)
  case h_2 => rfl

/-- Settles O39: `doStrapSeek` neither reads nor writes the ports, so its two cases are the statement's two. -/
theorem strapSeekSetsTheCursor : Obligations.StrapSeekSetsTheCursor := by
  unfold Obligations.StrapSeekSetsTheCursor
  intro body n i s hs hd
  refine ⟨fun u hn hi => ?_, fun h => ?_⟩
  · subst hn
    exact does_of_handle hs rfl hd hs.1.2 fun a b => doStrapSeek_ok u hi (s.withPorts a b)
  · exact refuses_of_handle hs rfl hd fun a b => doStrapSeek_range h (s.withPorts a b)

/-! ### A tank's record written, and the notices of chapter 2 (R30, R32) -/

@[simp] theorem setTank_setTank (s : State) (t : TankNo) (k l : Tank) : (s.setTank t k).setTank t l = s.setTank t l := by
  simp [State.setTank, Vector.set_set]

theorem setTank_self (s : State) (t : TankNo) : s.setTank t (s.tank t) = s := by
  simp [State.setTank, State.tank, Vector.get_eq_getElem]

theorem setTank_with_cursor (s : State) (t : TankNo) (k : Tank) (c : Cursor) :
    { s.setTank t k with cursor := c } = ({ s with cursor := c } : State).setTank t k := rfl

theorem modTank_with_cursor (s : State) (t : TankNo) (f : Tank → Tank) (c : Cursor) :
    { s.modTank t f with cursor := c } = ({ s with cursor := c } : State).setTank t (f (s.tank t)) := rfl

/-- N-TANK of chapter 2 about the tank `k` numbered `t`, but for the declared fields that DEFINED carries (R32). -/
def tankNotice (ev : TankEvent) (t : TankNo) (k : Tank) (now : Nat) : Notice :=
  .tank ev t k.decl.isSome k.strap k.aboveTable none now

theorem noteTank_eq (ev : TankEvent) (hev : ev ≠ .defined) (t : TankNo) (s : State) :
    noteTank ev t s = raiseAll [tankNotice ev t (s.tank t) s.now] s := by
  rw [noteTank, if_neg hev]; rfl

theorem setAbove_eq (t : TankNo) (v : Bool) (s : State) :
    setAbove t v s = raiseAll (if (s.tank t).aboveTable = v then []
        else [tankNotice .aboveTable t { s.tank t with aboveTable := v } s.now])
      (s.setTank t { s.tank t with aboveTable := v }) := by
  unfold setAbove
  split
  case isTrue h => subst h; exact (setTank_self s t).symm
  case isFalse h => rw [noteTank_eq _ (by decide), tank_modTank, if_pos rfl]; rfl

/-- The flag falls where it was set; the tank's record is `k` before. -/
theorem setAbove_false_setTank (t : TankNo) (k : Tank) (s : State) :
    setAbove t false (s.setTank t k) = raiseAll
      (if k.aboveTable then [tankNotice .aboveTable t { k with aboveTable := false } s.now] else [])
      (s.setTank t { k with aboveTable := false }) := by
  rw [setAbove_eq]
  cases h : k.aboveTable <;> simp [h]

/-! ### STRAP-SEAL (R27, R28) -/

theorem doStrapSeal_range {n : Nat} (h : n < 2 ∨ 16 < n) (w : Nat) (s : State) : doStrapSeal n w s = refuse s .range := by
  have hn : inRange 2 16 n = false := by simp only [inRange, decide_eq_false_iff_not]; omega
  simp [doStrapSeal, hn]

section
variable {n : Nat} {s : State} (h2 : 2 ≤ n) (h16 : n ≤ 16)
include h2 h16

theorem doStrapSeal_inUse (hu : s.tankInUse s.cursor.tank = true) (w : Nat) : doStrapSeal n w s = refuse s .inUse := by
  have hn : inRange 2 16 n = true := (inRange_iff ..).mpr ⟨h2, h16⟩
  simp [doStrapSeal, hn, hu]

variable (hu : s.tankInUse s.cursor.tank = false)
include hu

theorem doStrapSeal_unwritten (hp : (s.tank s.cursor.tank).firstPoints n = none) (w : Nat) :
    doStrapSeal n w s = refuse s .shape := by
  have hn : inRange 2 16 n = true := (inRange_iff ..).mpr ⟨h2, h16⟩
  simp [doStrapSeal, hn, hu, hp]

/-- Checks 4 to 7 of R27, once the points are all written. -/
theorem doStrapSeal_points {ps : List Point} (hp : (s.tank s.cursor.tank).firstPoints n = some ps) (w : Nat) :
    doStrapSeal n w s = if pointSum ps ≠ w then refuse s .check
      else if !levelsRise ps || !volumesHold ps || !(s.tank s.cursor.tank).hihiWithin ps then refuse s .shape
      else doneWith (sealTable s.cursor.tank n s) := by
  have hn : inRange 2 16 n = true := (inRange_iff ..).mpr ⟨h2, h16⟩
  simp only [doStrapSeal, hn, hu, hp]; rfl

end

/-- A seal on a tank whose record is `k` (R28). -/
theorem sealTable_eq (t : TankNo) (n : Nat) (s : State) :
    sealTable t n s = raiseAll ((if (s.tank t).aboveTable then
          [tankNotice .aboveTable t { s.tank t with strap := .sealed n, aboveTable := false } s.now] else [])
        ++ [tankNotice .sealed t { s.tank t with strap := .sealed n, aboveTable := false } s.now])
      (s.setTank t { s.tank t with strap := .sealed n, aboveTable := false }) := by
  rw [sealTable, State.modTank, setAbove_false_setTank, noteTank_eq _ (by decide), raiseAll_raiseAll]
  simp

/-- Settles O41: the checks of R27 passed, the seal is `sealTable`. -/
theorem strapSealSealsTheTable : Obligations.StrapSealSealsTheTable := by
  unfold Obligations.StrapSealSealsTheTable
  intro body n w ps s hs hd h2 h16 hu hp hw hr hv hh k
  refine does_of_handle hs rfl hd hs.1.2 fun a b => ?_
  have hpass : doStrapSeal n w (s.withPorts a b) = doneWith (sealTable s.cursor.tank n (s.withPorts a b)) := by
    rw [doStrapSeal_points (s := s.withPorts a b) h2 h16 hu hp w]
    simp [hw, hr, hv, hh]
  rw [handle, hpass, doneWith, sealTable_eq]
  rfl

/-! ### STRAP-PUT (R26) -/

/-- A put leaves its points in their slots, the first in slot `i` (R23, R26). -/
theorem writePoints_at (ps : List Point) :
    ∀ (v : Vector (Option Point) 16) (i : Nat) (j : Fin 16) (x : Point), i ≤ j.val → ps[j.val - i]? = some x →
      (writePoints v i ps).get j = some x := by
  induction ps with
  | nil => intro v i j x _ hx; simp at hx
  | cons p ps ih =>
    intro v i j x hij hx
    rw [writePoints]
    rcases Nat.eq_or_lt_of_le hij with rfl | hlt
    · obtain rfl : p = x := by simpa using hx
      rw [writePoints_before ps _ _ j (Nat.lt_succ_self _), Vector.get_eq_getElem, Vector.getElem_setIfInBounds_self]
    · refine ih _ _ j x hlt ?_
      rwa [show j.val - i = j.val - (i + 1) + 1 by omega, List.getElem?_cons_succ] at hx

section
variable {n : Nat} {p0 p1 p2 p3 : Point} {s : State}

theorem doStrapPut_range (h : n = 0 ∨ 4 < n ∨ (∃ x ∈ [p0, p1, p2, p3].take n, 30000 < x.level ∨ 10000000 < x.volume)
    ∨ 16 < s.cursor.index + n) : doStrapPut n p0 p1 p2 p3 s = refuse s .range := by
  unfold doStrapPut
  simp only
  by_cases hchecks : (!inRange 1 4 n || !([p0, p1, p2, p3].take n).all Point.ok) = true
  · rw [if_pos hchecks]
  · simp only [Bool.or_eq_true, Bool.not_eq_true', not_or, Bool.not_eq_false, inRange_iff, List.all_eq_true, point_ok_iff]
      at hchecks
    obtain ⟨hn, hok⟩ := hchecks
    have hpoints : ¬ ∃ x ∈ [p0, p1, p2, p3].take n, 30000 < x.level ∨ 10000000 < x.volume := fun ⟨x, hx, hbad⟩ => by
      have := hok x hx; omega
    have hslots : 16 < s.cursor.index + n := by
      rcases h with h | h | h | h
      · omega
      · omega
      · exact absurd h hpoints
      · exact h
    rw [if_pos hslots, ite_self]

variable (h1 : 1 ≤ n) (h4 : n ≤ 4) (hps : ∀ x ∈ [p0, p1, p2, p3].take n, x.level ≤ 30000 ∧ x.volume ≤ 10000000)
  (hi : s.cursor.index + n ≤ 16)
include h1 h4 hps hi

/-- With the operands in their ranges R26's last check remains. -/
theorem doStrapPut_in_range : doStrapPut n p0 p1 p2 p3 s =
    if s.tankInUse s.cursor.tank then refuse s .inUse else putPoints ([p0, p1, p2, p3].take n) s := by
  have hn : inRange 1 4 n = true := (inRange_iff ..).mpr ⟨h1, h4⟩
  have hok : ([p0, p1, p2, p3].take n).all Point.ok = true :=
    List.all_eq_true.mpr fun x hx => (point_ok_iff x).mpr (hps x hx)
  simp only [doStrapPut, hn, hok, if_neg (Nat.not_lt.mpr hi)]; rfl

end

/-- A tank's record after a put of points from slot `i` on (R26 steps 1, 3 and 4). -/
def Tank.putFrom (k : Tank) (i : Nat) (ps : List Point) : Tank :=
  { k with
    points := writePoints k.points i ps, strap := .unsealed
    aboveTable := match k.strap with
      | .sealed _ => false
      | .empty | .unsealed => k.aboveTable }

/-- The notices a put raises about tank `t`, whose record was `k` (R26 step 5, R30): of the flag where it fell with the seal, and of
the strap state where it changed. -/
def putNotices (t : TankNo) (k : Tank) (now : Nat) : List Notice :=
  match k.strap with
  | .unsealed => []
  | .empty => [.tank .unsealed t k.decl.isSome .unsealed k.aboveTable none now]
  | .sealed _ =>
    (if k.aboveTable then [.tank .aboveTable t k.decl.isSome .unsealed false none now] else [])
      ++ [.tank .unsealed t k.decl.isSome .unsealed false none now]

/-- The part after a put at the cursor, but for its notices (R26). -/
def State.putAtCursor (s : State) (ps : List Point) : State :=
  { s.setTank s.cursor.tank ((s.tank s.cursor.tank).putFrom s.cursor.index ps) with
    cursor := { s.cursor with index := s.cursor.index + ps.length } }

/-- The put's result, by the strap state before: the flag falls only with a seal, and N-TANK UNSEALED is raised only at a change. -/
theorem putPoints_eq (ps : List Point) (s : State) :
    putPoints ps s = (raiseAll (putNotices s.cursor.tank (s.tank s.cursor.tank) s.now) (s.putAtCursor ps),
      .done (.cursor { s.cursor with index := s.cursor.index + ps.length })) := by
  simp only [putPoints, State.putAtCursor, modTank_with_cursor, setTank_with_cursor]
  cases hk : (s.tank s.cursor.tank).strap with
  | empty => simp [hk, noteTank_eq, tankNotice, putNotices, Tank.putFrom]
  | unsealed => simp [hk, putNotices, Tank.putFrom]
  | sealed m =>
    rw [setAbove_false_setTank, if_neg (by simp), noteTank_eq _ (by decide), raiseAll_raiseAll]
    simp [hk, tankNotice, putNotices, Tank.putFrom]

theorem handle_strapPut_withPorts {n : Nat} {p0 p1 p2 p3 : Point} {s : State} (h1 : 1 ≤ n) (h4 : n ≤ 4)
    (hps : ∀ x ∈ [p0, p1, p2, p3].take n, x.level ≤ 30000 ∧ x.volume ≤ 10000000) (hi : s.cursor.index + n ≤ 16)
    (hu : s.tankInUse s.cursor.tank = false) (a b : Port) :
    handle .ship (.strapPut n p0 p1 p2 p3) (s.withPorts a b) =
      (raiseAll (putNotices s.cursor.tank (s.tank s.cursor.tank) s.now)
          ((s.putAtCursor ([p0, p1, p2, p3].take n)).withPorts a b),
        .done (.cursor { tank := s.cursor.tank, index := s.cursor.index + n })) := by
  rw [handle, doStrapPut_in_range (s := s.withPorts a b) h1 h4 hps hi, tankInUse_withPorts, cursor_withPorts, hu,
    if_neg (by simp), putPoints_eq, take_four_length p0 p1 p2 p3 h4]
  rfl

/-- An accepted STRAP-PUT at the cursor (R26). -/
theorem does_strapPut {body : List Byte} {n : Nat} {p0 p1 p2 p3 : Point} {s : State} (hs : s.Hears .ship)
    (hd : decodeRequest .strapPut body = some (.strapPut n p0 p1 p2 p3)) (h1 : 1 ≤ n) (h4 : n ≤ 4)
    (hps : ∀ x ∈ [p0, p1, p2, p3].take n, x.level ≤ 30000 ∧ x.volume ≤ 10000000) (hi : s.cursor.index + n ≤ 16)
    (hu : s.tankInUse s.cursor.tank = false) :
    Does (.strapPut .ship body) .ship .strapPut body (.done (.cursor { tank := s.cursor.tank, index := s.cursor.index + n }))
      (putNotices s.cursor.tank (s.tank s.cursor.tank) s.now) s (s.putAtCursor ([p0, p1, p2, p3].take n)) :=
  does_of_handle hs rfl hd hs.1.2 (handle_strapPut_withPorts h1 h4 hps hi hu)

/-- The refusals of STRAP-SEAL, in the order of R27's checks. -/
theorem strapSeal_refusals {body : List Byte} {n w : Nat} {s : State} (hs : s.Hears .ship)
    (hd : decodeRequest .strapSeal body = some (.strapSeal n w)) (h2 : 2 ≤ n) (h16 : n ≤ 16)
    (hu : s.tankInUse s.cursor.tank = false) {ps : List Point} (hp : (s.tank s.cursor.tank).firstPoints n = some ps) :
    (pointSum ps ≠ w → Refuses (.strapSeal .ship body) .ship .strapSeal body .check s)
      ∧ (pointSum ps = w →
          (levelsRise ps = false ∨ volumesHold ps = false ∨ (s.tank s.cursor.tank).hihiWithin ps = false) →
          Refuses (.strapSeal .ship body) .ship .strapSeal body .shape s) := by
  have hrule (a b : Port) := doStrapSeal_points (s := s.withPorts a b) h2 h16 hu hp w
  refine ⟨fun hw => refuses_of_handle hs rfl hd fun a b => ?_, fun hw hbad => refuses_of_handle hs rfl hd fun a b => ?_⟩
  · exact (hrule a b).trans (if_pos hw)
  · have hchecks : (!levelsRise ps || !volumesHold ps || !(s.tank s.cursor.tank).hihiWithin ps) = true := by
      simpa [or_assoc] using hbad
    exact ((hrule a b).trans (if_neg (not_not.mpr hw))).trans (if_pos hchecks)

/-- Settles O40: a put in its ranges is `State.putAtCursor`, whose slots the laws of `writePoints` read; the refusals follow the order
of the checks. -/
theorem strapPutWritesAndStrapSealChecks : Obligations.StrapPutWritesAndStrapSealChecks := by
  unfold Obligations.StrapPutWritesAndStrapSealChecks
  refine ⟨fun body n p0 p1 p2 p3 s hs hd => ?_, fun body n w s hs hd => ⟨fun h => ?_, fun h2 h16 => ⟨fun hu => ?_, fun hu =>
    ⟨fun hp => ?_, fun ps hp => strapSeal_refusals hs hd h2 h16 hu hp⟩⟩⟩⟩
  · intro ps u
    refine ⟨fun h => refuses_of_handle hs rfl hd fun a b => doStrapPut_range (s := s.withPorts a b) h,
      fun h1 h4 hps hi => ⟨fun hu => refuses_of_handle hs rfl hd fun a b => ?_, fun hu => ?_⟩⟩
    · exact (doStrapPut_in_range (s := s.withPorts a b) h1 h4 hps hi).trans (if_pos hu)
    · obtain ⟨t, hexec, ht, hanswer, hended, htells⟩ := does_strapPut hs hd h1 h4 hps hi hu
      have hlen : ps.length = n := take_four_length p0 p1 p2 p3 h4
      have htank : t.tank u = (s.tank u).putFrom s.cursor.index ps := by
        rw [ht]; exact (tank_setTank s u u _).trans (if_pos rfl)
      have hpoints : (t.tank u).points = writePoints (s.tank u).points s.cursor.index ps := by rw [htank]; rfl
      refine ⟨t, hexec, hanswer, hended, ?_, fun hk => ?_, fun hk => ?_, fun m hk => ?_, fun j hj => ?_, fun j x hj hx => ?_⟩
      · rw [hpoints, ← hlen]; exact ht
      · rwa [putNotices, hk] at htells
      · rwa [putNotices, hk] at htells
      · rwa [putNotices, hk] at htells
      · rw [hpoints]
        rcases hj with hj | hj
        · exact writePoints_before ps _ _ j hj
        · exact writePoints_past ps _ _ j (hlen ▸ hj)
      · rw [hpoints]; exact writePoints_at ps _ _ j x hj hx
  · exact refuses_of_handle hs rfl hd fun a b => doStrapSeal_range h w (s.withPorts a b)
  · exact refuses_of_handle hs rfl hd fun a b => doStrapSeal_inUse (s := s.withPorts a b) h2 h16 hu w
  · exact refuses_of_handle hs rfl hd fun a b => doStrapSeal_unwritten (s := s.withPorts a b) h2 h16 hu hp w

end Sys2Proof.Machine

/-! SUPPORT. Volumes from a sealed table (R29): one segment's interpolation, and what a table whose levels rise and whose volumes
do not fall makes of it. -/

namespace Sys2Proof.Machine

/-! ### The checks of R27 on a table, read as facts about its pairs of points -/

/-- The levels rise strictly from every point to every later one. -/
def Rising (ps : List Point) : Prop := ps.Pairwise (Function.onFun (· < ·) Point.level)

/-- The volumes do not fall from any point to a later one. -/
def Holding (ps : List Point) : Prop := ps.Pairwise (Function.onFun (· ≤ ·) Point.volume)

theorem levelsRise_iff (ps : List Point) : levelsRise ps = true ↔ Rising ps := by
  unfold Rising
  induction ps using levelsRise.induct with
  | case1 p q rest ih =>
    rw [List.pairwise_cons_cons_iff_of_trans, ← ih, levelsRise, Bool.and_eq_true, decide_eq_true_iff, Function.onFun]
  | case2 | case3 => simp [levelsRise]

theorem volumesHold_iff (ps : List Point) : volumesHold ps = true ↔ Holding ps := by
  unfold Holding
  induction ps using volumesHold.induct with
  | case1 p q rest ih =>
    rw [List.pairwise_cons_cons_iff_of_trans, ← ih, volumesHold, Bool.and_eq_true, decide_eq_true_iff, Function.onFun]
  | case2 | case3 => simp [volumesHold]

theorem Rising.tail {p : Point} {rest : List Point} (hr : Rising (p :: rest)) : Rising rest := (List.pairwise_cons.mp hr).2

theorem Holding.tail {p : Point} {rest : List Point} (hv : Holding (p :: rest)) : Holding rest := (List.pairwise_cons.mp hv).2

theorem Rising.head_le {p x : Point} {rest : List Point} (hr : Rising (p :: rest)) (hx : x ∈ p :: rest) :
    p.level ≤ x.level := by
  rcases List.mem_cons.mp hx with rfl | hx
  · exact le_rfl
  · exact Nat.le_of_lt ((List.pairwise_cons.mp hr).1 x hx)

theorem Holding.head_le {p x : Point} {rest : List Point} (hv : Holding (p :: rest)) (hx : x ∈ p :: rest) :
    p.volume ≤ x.volume := by
  rcases List.mem_cons.mp hx with rfl | hx
  · exact le_rfl
  · exact (List.pairwise_cons.mp hv).1 x hx

/-! ### One segment -/

/-- The volume of level `h` on the segment from `a` to `b`, truncated (R29). -/
def interpolated (h : Nat) (a b : Point) : Nat := a.volume + (h - a.level) * (b.volume - a.volume) / (b.level - a.level)

theorem volumeFrom_below {h : Nat} {q : Point} (p : Point) (rest : List Point) (hq : h < q.level) :
    volumeFrom h p (q :: rest) = interpolated h p q := if_pos hq

theorem volumeFrom_above {h : Nat} {q : Point} (p : Point) (rest : List Point) (hq : q.level ≤ h) :
    volumeFrom h p (q :: rest) = volumeFrom h q rest := if_neg (Nat.not_lt.mpr hq)

theorem interpolated_le {h : Nat} {a b : Point} (hb : h < b.level) (hv : a.volume ≤ b.volume) :
    interpolated h a b ≤ b.volume := by
  have hdiv : (h - a.level) * (b.volume - a.volume) / (b.level - a.level) ≤ b.volume - a.volume :=
    Nat.div_le_of_le_mul (Nat.mul_le_mul_right _ (by omega))
  unfold interpolated; omega

theorem interpolated_mono {h h' : Nat} (a b : Point) (hh : h ≤ h') : interpolated h a b ≤ interpolated h' a b :=
  Nat.add_le_add_left (Nat.div_le_div_right (Nat.mul_le_mul_right _ (Nat.sub_le_sub_right hh _))) _

/-! ### From a point on -/

theorem volumeFrom_last {h : Nat} {last : Point} (rest : List Point) :
    ∀ p, Rising (p :: rest) → (p :: rest).getLast? = some last → last.level ≤ h →
      volumeFrom h p rest = last.volume := by
  induction rest with
  | nil => intro p _ hl _; cases hl; rfl
  | cons q rest ih =>
    intro p hr hl hh
    rw [List.getLast?_cons_cons] at hl
    have hq : q.level ≤ last.level := hr.tail.head_le (List.mem_of_getLast? hl)
    rw [volumeFrom_above p rest (hq.trans hh)]
    exact ih q hr.tail hl hh

theorem volumeFrom_segment {h : Nat} {a b : Point} (rest : List Point) :
    ∀ p i, Rising (p :: rest) → (p :: rest)[i]? = some a → (p :: rest)[i + 1]? = some b →
      a.level ≤ h → h < b.level → volumeFrom h p rest = interpolated h a b := by
  induction rest with
  | nil => intro p i _ _ hb; simp at hb
  | cons q rest ih =>
    intro p i hr ha hb hah hhb
    cases i with
    | zero =>
      obtain rfl : p = a := by simpa using ha
      obtain rfl : q = b := by simpa using hb
      exact volumeFrom_below p rest hhb
    | succ i =>
      rw [List.getElem?_cons_succ] at ha hb
      have hq : q.level ≤ a.level := hr.tail.head_le (List.mem_of_getElem? ha)
      rw [volumeFrom_above p rest (hq.trans hah)]
      exact ih q i hr.tail ha hb hah hhb

theorem le_volumeFrom {h : Nat} (rest : List Point) :
    ∀ p, Holding (p :: rest) → p.volume ≤ volumeFrom h p rest := by
  induction rest with
  | nil => intro p _; exact le_rfl
  | cons q rest ih =>
    intro p hv
    have hpq : p.volume ≤ q.volume := hv.head_le (by simp)
    rcases Nat.lt_or_ge h q.level with hq | hq
    · rw [volumeFrom_below p rest hq]; exact Nat.le_add_right _ _
    · rw [volumeFrom_above p rest hq]; exact hpq.trans (ih q hv.tail)

theorem volumeFrom_le {h : Nat} {last : Point} (rest : List Point) :
    ∀ p, Holding (p :: rest) → (p :: rest).getLast? = some last →
      volumeFrom h p rest ≤ last.volume := by
  induction rest with
  | nil => intro p _ hl; cases hl; exact le_rfl
  | cons q rest ih =>
    intro p hv hl
    have hpq : p.volume ≤ q.volume := hv.head_le (by simp)
    rw [List.getLast?_cons_cons] at hl
    rcases Nat.lt_or_ge h q.level with hq | hq
    · rw [volumeFrom_below p rest hq]
      exact (interpolated_le hq hpq).trans (hv.tail.head_le (List.mem_of_getLast? hl))
    · rw [volumeFrom_above p rest hq]; exact ih q hv.tail hl

theorem volumeFrom_mono {h h' : Nat} (hh : h ≤ h') (rest : List Point) :
    ∀ p, Holding (p :: rest) → volumeFrom h p rest ≤ volumeFrom h' p rest := by
  induction rest with
  | nil => intro p _; exact le_rfl
  | cons q rest ih =>
    intro p hv
    have hpq : p.volume ≤ q.volume := hv.head_le (by simp)
    rcases Nat.lt_or_ge h' q.level with hq' | hq'
    · rw [volumeFrom_below p rest hq', volumeFrom_below p rest (hh.trans_lt hq')]
      exact interpolated_mono p q hh
    · rw [volumeFrom_above p rest hq']
      rcases Nat.lt_or_ge h q.level with hq | hq
      · rw [volumeFrom_below p rest hq]
        exact (interpolated_le hq hpq).trans (le_volumeFrom rest q hv.tail)
      · rw [volumeFrom_above p rest hq]; exact ih q hv.tail

/-! ### From a whole table -/

theorem volumeAt_below {h : Nat} {p : Point} (rest : List Point) (hp : h < p.level) :
    volumeAt h (p :: rest) = some p.volume := congrArg some (if_pos hp)

theorem volumeAt_from {h : Nat} {p : Point} (rest : List Point) (hp : p.level ≤ h) :
    volumeAt h (p :: rest) = some (volumeFrom h p rest) := congrArg some (if_neg (Nat.not_lt.mpr hp))

theorem volumeAt_bounds {h v : Nat} {p last : Point} {rest : List Point}
    (hv : Holding (p :: rest)) (hl : (p :: rest).getLast? = some last)
    (hx : volumeAt h (p :: rest) = some v) : p.volume ≤ v ∧ v ≤ last.volume := by
  rcases Nat.lt_or_ge h p.level with hp | hp
  · rw [volumeAt_below rest hp] at hx; cases hx
    exact ⟨le_rfl, hv.head_le (List.mem_of_getLast? hl)⟩
  · rw [volumeAt_from rest hp] at hx; cases hx
    exact ⟨le_volumeFrom rest p hv, volumeFrom_le rest p hv hl⟩

theorem volumeAt_mono {h h' v v' : Nat} {p : Point} {rest : List Point} (hh : h ≤ h')
    (hv : Holding (p :: rest)) (hx : volumeAt h (p :: rest) = some v)
    (hx' : volumeAt h' (p :: rest) = some v') : v ≤ v' := by
  rcases Nat.lt_or_ge h p.level with hp | hp
  · rw [volumeAt_below rest hp] at hx; cases hx
    rcases Nat.lt_or_ge h' p.level with hp' | hp'
    · rw [volumeAt_below rest hp'] at hx'; cases hx'; exact le_rfl
    · rw [volumeAt_from rest hp'] at hx'; cases hx'; exact le_volumeFrom rest p hv
  · rw [volumeAt_from rest hp] at hx; cases hx
    rw [volumeAt_from rest (hp.trans hh)] at hx'; cases hx'
    exact volumeFrom_mono hh rest p hv

/-! ### The table a tank holds -/

theorem volume_of_not_sealed {k : Tank} (h : Nat) (hk : ∀ n, k.strap ≠ .sealed n) : k.volume h = none := by
  cases hs : k.strap with
  | sealed n => exact absurd hs (hk n)
  | empty => simp only [Tank.volume, Tank.table, hs, volumeAt]
  | unsealed => simp only [Tank.volume, Tank.table, hs, volumeAt]

theorem table_of_sealed {k : Tank} {n : Nat} {ps : List Point} (hs : k.strap = .sealed n) (hp : k.firstPoints n = some ps) :
    k.table = ps := by
  simp only [Tank.firstPoints] at hp
  split at hp
  · simpa [Tank.table, hs] using hp
  · cases hp

/-- Settles O48: on each segment the interpolation stays between the two volumes and grows with the level, and the list of points
carries both on. -/
theorem volumesFollowTheTable : Obligations.VolumesFollowTheTable := by
  unfold Obligations.VolumesFollowTheTable
  refine ⟨fun ps first last hr hv hf hl => ?_, fun k h => ⟨volume_of_not_sealed h, fun n ps hs hp => ?_⟩⟩
  · rw [levelsRise_iff] at hr
    rw [volumesHold_iff] at hv
    cases ps with
    | nil => cases hf
    | cons p rest =>
      cases hf
      refine ⟨fun h => volumeAt_below rest, fun h hh => ?_, fun i h a b ha hb hah hhb => ?_, fun h v => volumeAt_bounds hv hl,
        fun h h' v v' hh => volumeAt_mono hh hv⟩
      · rw [volumeAt_from rest ((hr.head_le (List.mem_of_getLast? hl)).trans hh), volumeFrom_last rest _ hr hl hh]
      · rw [volumeAt_from rest ((hr.head_le (List.mem_of_getElem? ha)).trans hah),
          volumeFrom_segment rest _ i hr ha hb hah hhb, interpolated]
  · rw [Tank.volume, table_of_sealed hs hp]

end Sys2Proof.Machine

/-! SUPPORT. The level state (R40): the extremes of a window and its mean, and the state each row of the table gives. -/

namespace Sys2Proof.Machine

/-! ### The extremes of a window -/

theorem max?_levels (r : Reading) (w : List Reading) :
    ((r :: w).map Reading.level).max? = some (greatest (r :: w)) := by
  rw [List.map_cons, List.max?_cons', List.foldl_map, greatest, List.foldl_cons, Nat.zero_max]

theorem min?_levels (r : Reading) (w : List Reading) :
    ((r :: w).map Reading.level).min? = some (least (r :: w)) := by
  rw [List.map_cons, List.min?_cons', List.foldl_map, least]

/-- A window that holds a reading holds one at its greatest level. -/
theorem isGreatest_greatest {w : List Reading} (hw : w ≠ []) :
    IsGreatest {x | ∃ r ∈ w, r.level = x} (greatest w) := by
  obtain ⟨r, rest, rfl⟩ := List.exists_cons_of_ne_nil hw
  obtain ⟨hmem, hle⟩ := List.max?_eq_some_iff.mp (max?_levels r rest)
  exact ⟨List.mem_map.mp hmem, fun x hx => hle x (List.mem_map.mpr hx)⟩

/-- A window that holds a reading holds one at its least level. -/
theorem isLeast_least {w : List Reading} (hw : w ≠ []) :
    IsLeast {x | ∃ r ∈ w, r.level = x} (least w) := by
  obtain ⟨r, rest, rfl⟩ := List.exists_cons_of_ne_nil hw
  obtain ⟨hmem, hle⟩ := List.min?_eq_some_iff.mp (min?_levels r rest)
  exact ⟨List.mem_map.mp hmem, fun x hx => hle x (List.mem_map.mpr hx)⟩

theorem level_le_greatest {w : List Reading} {r : Reading} (hr : r ∈ w) : r.level ≤ greatest w :=
  (isGreatest_greatest (List.ne_nil_of_mem hr)).2 ⟨r, hr, rfl⟩

theorem least_le_level {w : List Reading} {r : Reading} (hr : r ∈ w) : least w ≤ r.level :=
  (isLeast_least (List.ne_nil_of_mem hr)).2 ⟨r, hr, rfl⟩

/-! ### The mean of a window -/

theorem mean_le_greatest (w : List Reading) : levelSum w / w.length ≤ greatest w := by
  have hsum : levelSum w ≤ w.length * greatest w := by
    simpa [levelSum] using List.sum_le_card_nsmul (w.map Reading.level) (greatest w)
      (List.forall_mem_map.mpr fun _ hr => level_le_greatest hr)
  exact Nat.div_le_of_le_mul hsum

theorem least_le_mean {w : List Reading} (hw : w ≠ []) : least w ≤ levelSum w / w.length := by
  have hsum : w.length * least w ≤ levelSum w := by
    simpa [levelSum] using List.card_nsmul_le_sum (w.map Reading.level) (least w)
      (List.forall_mem_map.mpr fun _ hr => least_le_level hr)
  rw [Nat.le_div_iff_mul_le (List.length_pos_iff.mpr hw), Nat.mul_comm]
  exact hsum

/-! ### The rows of R40 -/

section
variable {k : Tank}

theorem levelState_of_suspect (hs : k.suspect ≠ none) : k.levelState = .suspect :=
  if_pos (Option.isSome_iff_ne_none.mpr hs)

theorem levelState_of_empty (hs : k.suspect = none) (hw : k.window = []) : k.levelState = .cold := by
  simp [Tank.levelState, hs, hw]

theorem levelState_of_stale (hs : k.suspect = none) (hw : k.window ≠ []) (ht : k.stale = true) :
    k.levelState = .stale := by
  simp [Tank.levelState, hs, hw, ht]

/-- The rows past STALE, for a window that holds a reading. -/
theorem levelState_of_fresh (hs : k.suspect = none) (hw : k.window ≠ []) (ht : k.stale = false) :
    k.levelState = if k.window.length < 8 then .partFull
      else if greatest k.window - least k.window ≤ k.sloshTolerance then .steady else .sloshing := by
  simp [Tank.levelState, hs, hw, ht]

theorem lEff_of_not_known (h : k.levelState.known = false) : k.lEff = none := by
  unfold Tank.lEff
  cases hl : k.levelState with
  | cold | stale | suspect => rfl
  | partFull | steady | sloshing => rw [hl] at h; cases h

theorem lEff_of_steady (h : k.levelState = .steady) : k.lEff = some (levelSum k.window / 8) := by
  rw [Tank.lEff, h]

/-- PARTIAL and SLOSHING lean to the full side. -/
theorem lEff_of_unsteady (h : k.levelState = .partFull ∨ k.levelState = .sloshing) :
    k.lEff = some (greatest k.window) := by
  rcases h with h | h <;> rw [Tank.lEff, h]

end

/-- Settles O47: each row gives its state, the state gives the effective level, and a mean lies between the extremes. -/
theorem levelStateFollowsTheWindow : Obligations.LevelStateFollowsTheWindow := by
  unfold Obligations.LevelStateFollowsTheWindow
  intro k spread
  refine ⟨fun hs => ?_, fun hs hw => ?_, fun hs hw ht => ?_, fun hs hw ht => ?_,
    fun r hr => ⟨least_le_level hr, level_le_greatest hr⟩, fun hw => ⟨(isGreatest_greatest hw).1, (isLeast_least hw).1⟩⟩
  · have hst := levelState_of_suspect hs
    exact ⟨hst, lEff_of_not_known (congrArg _ hst)⟩
  · have hst := levelState_of_empty hs hw
    exact ⟨hst, lEff_of_not_known (congrArg _ hst)⟩
  · have hst := levelState_of_stale hs hw ht
    exact ⟨hst, lEff_of_not_known (congrArg _ hst)⟩
  · have hfresh := levelState_of_fresh hs hw ht
    refine ⟨fun hn => ?_, fun h8 hspread => ?_, fun h8 hspread => ?_⟩
    · have hst := hfresh.trans (if_pos hn)
      exact ⟨hst, lEff_of_unsteady (.inl hst)⟩
    · have hst := (hfresh.trans (if_neg h8.not_lt)).trans (if_pos hspread)
      have hlow := least_le_mean hw
      have hhigh := mean_le_greatest k.window
      rw [h8] at hlow hhigh
      exact ⟨hst, lEff_of_steady hst, hlow, hhigh⟩
    · have hst := (hfresh.trans (if_neg h8.not_lt)).trans (if_neg hspread.not_ge)
      exact ⟨hst, lEff_of_unsteady (.inr hst)⟩

end Sys2Proof.Machine

namespace Sys2Proof.Machine

-- One proof at a time: the whole text is compiled as one module under a limit on memory, and each proof in flight holds a stack.
set_option Elab.async false

/-! SUPPORT. What an operation of the part can write, said once: the elementary writes, each with the conditions its rules keep, and the
sequences of them. Every operation of Machine/ is shown to be such a sequence (`…_writes`), and an invariant is shown of the writes. -/


/-! ### The kinds of write -/

/-- A kind of elementary write. The first group are what the consequences of a command make; `ending`, `shutdown`, `pulse`, `amend`, `clear`,
`init` and `defaults` are whole operations whose inner writes (the third group) keep an invariant only together; the rest are the
commands' own. -/
inductive Part where
  | notices | ended | evals | chans | stops | grants | opens | tanks | figures | promote | header | trip | settle | withdrawals
  | ending | shutdown | pulse | amend | clear | init | defaults
  | finish | late | zero | trips | headTrip | emptied | count | recount | reset | blank | storeDefaults | cautionDefaults
  | inputs | rates | hinputs | loops | line | flags | silence | sent | sending | cursor | config | store | copy | clock | supply
  | pending | freeCount | enqueue | fresh | cancel | authorise | unpauseB | unpauseS | lift | declare
  deriving DecidableEq

/-! ### What each kind may change -/

/-- What every write of a channel's record keeps: the command follows the state (R75), a channel flows just while it holds a grant, and no
grant rises (R110; `grants` is the other write). -/
structure Channel.Moves (k l : Channel) : Prop where
  command : k.command = k.state.command → l.command = l.state.command
  flows : k.FlowsByGrant → l.FlowsByGrant
  grant : l.grant ≤ k.grant

/-- A valve commanded closed stays so, and an absent authorisation stays absent (R147; `opens` and `authorise` are the other writes). -/
structure Channel.StaysShut (k l : Channel) : Prop where
  shut : k.state.command = .toClose → l.state.command = .toClose
  auth : k.authorised = false → l.authorised = false

/-- The field inputs, the counts and the last stop stay (R75, R89, R115; `stops` is the write of a last stop). -/
structure Channel.Keeps (k l : Channel) : Prop where
  inputs : l.inputs = k.inputs
  counts : l.meter.counts = k.meter.counts
  lastStop : l.lastStop = k.lastStop

/-- The pauses in a hold set stay in it (R94). -/
structure HoldSet.KeepsPauses (h g : HoldSet) : Prop where
  pauseB : h.pauseB = true → g.pauseB = true
  pauseS : h.pauseS = true → g.pauseS = true

/-- What a consequence keeps of a channel's record. -/
structure Channel.Step (k l : Channel) : Prop extends Channel.Moves k l, Channel.StaysShut k l, Channel.Keeps k l where
  pauses : k.holds.KeepsPauses l.holds

/-- A tank's window keeps its bounds (R34). -/
structure Tank.Step (k l : Tank) : Prop where
  window : k.WindowOk → l.WindowOk
  declared : l.declared = k.declared

/-- What a consequence keeps of an entry that is not terminal (R2, R4, R63): channel, tank, mode and delivered; whether it is QUEUED; the
baseline but that an activation sets one at the pulse total; and the stage but that it may fall. -/
structure Entry.Step (total : Nat) (e f : Entry) : Prop where
  live : e.state.terminal = false
  chan : f.chan = e.chan
  tank : f.tank = e.tank
  mode : f.mode = e.mode
  delivered : f.delivered = e.delivered
  state : f.state = e.state ∨ (e.state ≠ .queued ∧ f.state ≠ .queued ∧ f.state.terminal = false)
  baseline : f.baseline = e.baseline ∨ (e.state ≠ .queued ∧ e.baseline = none ∧ ∃ k, f.baseline = some ⟨total, k⟩)
  stage : ∀ a, e.stage = some a → ∃ b, f.stage = some b ∧ a.rank ≤ b.rank

/-- What a change of the header record keeps: its timers in their own states, TRIPPED just while the part is not NORMAL, no grant standing
outside SERVING, and its inputs (R97, R106, R108). -/
structure State.HeaderStep (s : State) (h : Header) : Prop where
  timers : s.header.TimersOk → h.TimersOk
  tripped : s.header.TimersOk → s.HeaderTrips → (h.state = .tripped ↔ s.trip.state ≠ .normal)
  grants : s.GrantsOk → h.state ≠ .serving → ∀ c, (s.chan c).grant = 0
  dp : h.dp = s.header.dp
  pumpRunning : h.pumpRunning = s.header.pumpRunning

/-- The record of the causes and what stands beside it, but for the trip state, the cautions and the horn. -/
structure Trip.SameRecord (t x : Trip) : Prop where
  firstOut : x.firstOut = t.firstOut
  later : x.later = t.later
  more : x.more = t.more
  unproven : x.unproven = t.unproven
  loopB : x.loopBOpen = t.loopBOpen
  loopS : x.loopSOpen = t.loopSOpen

/-- CONFIG_DEFAULTS is shown (R159). -/
def Trip.ShowsDefaults (t : Trip) : Prop := ∃ e ∈ t.cautions, e.caution = .configDefaults

/-- What a consequence may change of the trip items: cautions but CONFIG_DEFAULTS, horn and mute (R158 to R161; `settle` takes TRIPPING to
TRIPPED). -/
structure Trip.Step (t x : Trip) : Prop extends Trip.SameRecord t x where
  state : x.state = t.state
  defaults : x.ShowsDefaults ↔ t.ShowsDefaults

/-- The record grows and the part is not NORMAL again (R148, R153). -/
structure Trip.Grows (t x : Trip) : Prop where
  firstOut : ∀ e, t.firstOut = some e → x.firstOut = some e ∧ t.later <+: x.later
  room : t.later.length ≤ 7 → x.later.length ≤ 7
  more : t.more = true → x.more = true
  normal : t.state ≠ .normal → x.state ≠ .normal

/-- What a shutdown's cause may change of the trip items (R148, R153). -/
structure Trip.Takes (t x : Trip) : Prop extends Trip.Grows t x where
  cautions : x.cautions = t.cautions
  loopB : x.loopBOpen = t.loopBOpen
  loopS : x.loopSOpen = t.loopSOpen

/-- A port's lists keep their room (R165, R166, R172): `Port.Bounded` but for the transmitter. -/
structure Port.Roomy (x : Port) : Prop where
  replies : x.replies.length ≤ 4
  notices : x.notices.length ≤ 16
  silent : x.link = .silent → x.replies = [] ∧ x.notices = [] ∧ x.lost = false ∧ x.silenceTimer = none
  live : x.link = .live → x.silenceTimer.isSome = true

/-- What a frame's arrival and its reply keep of a port: what waits, in its order, and the frame in transmission. -/
structure Port.LineStep (x y : Port) : Prop where
  replies : x.replies <+: y.replies
  notices : y.notices = x.notices
  sending : y.sending = x.sending
  ended : y.ended = x.ended
  roomy : x.Roomy → y.Roomy

/-! ### The writes -/

/-- Every grant of R110 given, before its notices (R111 step 1). -/
def giveAll (s : State) : State := chans.foldl (fun x c => giveGrant c (s.newGrant c) x) s

/-- Steps 1 and 2 of R116 with step 4's figure: the pulse counted and the current entry's delivered volume worked again (R4). -/
def countAndRecount (c : Chan) (s : State) : State :=
  let s1 := countPulse c s
  match s1.current c with
  | some (i, e) => if e.baseline.isSome then s1.modEntry i fun e => e.recount (s1.chan c).meter.total else s1
  | none => s1

/-- Steps 1 to 3 of R156: the record emptied, the trip state NORMAL and the header IDLE. -/
def clearRecord (s : State) : State :=
  changeHeader (fun h => { h with state := .idle }) (s.modTrip fun t =>
    { t with firstOut := none, later := [], more := false, unproven := Vector.replicate 4 false, state := .normal })

/-- Steps 1 to 4 of R156 with the regrant that follows them: both pauses gone from every channel. -/
def clearLifted (s : State) : State := regrant false (chans.foldl (fun x c => liftPauses c x) (clearRecord s))

/-- The plan with an entry in the slot of the next id (R6). -/
def Plan.add (k : Plan) (i : EntryId) (e : Entry) : Plan := { slots := k.slots.set i (some e), nextId := k.nextId + 1 }

/-- One elementary write, by its kind. -/
inductive Write : Part → State → State → Prop
  | notice (n : Notice) (s) : Write .notices s (raise n s)
  | ended (c s) : Write .ended s (setEnded c s)
  | evals (es : List Chan) (s : State) : Write .evals s { s with evals := es }
  | chan (c k) (s : State) : (s.chan c).Step k → Write .chans s (s.setChan c k)
  | stops (c x) (s : State) : Write .stops s (s.modChan c fun k => { k with lastStop := x })
  | grants (s) : Write .grants s (giveAll s)
  | opens (c k) (s : State) : s.trip.state = .normal → (s.chan c).Moves k → (s.chan c).Keeps k →
      (s.chan c).holds.KeepsPauses k.holds → k.authorised = (s.chan c).authorised → Write .opens s (s.setChan c k)
  | tank (t k) (s : State) : (s.tank t).Step k → Write .tanks s (s.setTank t k)
  | entry (i e f) (s : State) : s.entry i = some e → e.Step (s.chan e.chan).meter.total f → Write .figures s (s.setEntry i (some f))
  | promote (c s) : Write .promote s (promote c s).1
  | header (h) (s : State) : s.HeaderStep h → Write .header s { s with header := h }
  | trip (x) (s : State) : s.trip.Step x → (x.horn = s.trip.horn ∨ x.horn = ({ s with trip := x } : State).hornClass) →
      Write .trip s { s with trip := x }
  | settle (s : State) : s.trip.state = .tripping → Write .settle s (s.modTrip fun t => { t with state := .tripped })
  | withdraw (p : Proposal → Bool) (s : State) :
      Write .withdrawals s { s with queue := { s.queue with proposals := s.queue.proposals.filter p } }
  | ending (c s) : Write .ending s (settleEnd c s)
  | shutdown (k o s) : Write .shutdown s (shutdown k o s)
  | pulse (c) (s : State) : (s.chan c).meter.saturated = false → Write .pulse s (countAndRecount c s)
  | amend (i a r) (s : State) : s.entryReject i = none → Write .amend s (adoptAmend i a r s)
  | clear (s : State) : s.allClosed = true → s.trip.firstOut.isSome = true → Write .clear s (clearLifted s)
  | init (s : State) : s.initReject = none → Write .init s (adoptInit s)
  | defaults (v s) : Write .defaults s (setConfigDefaults v s)
  | finish (i r e) (s : State) : s.entry i = some e → e.state.terminal = false → Write .finish s (s.setEntry i (some (e.finish r s.now)))
  | late (i) (s : State) : Write .late s (s.modEntry i Entry.reworkMargin)
  | emptied (s : State) : s.allClosed = true → s.trip.firstOut.isSome = true → Write .emptied s (clearRecord s)
  | zero (c) (s : State) : Write .zero s (s.modChan c fun k => { k with grant := 0 })
  | trips (x) (s : State) : s.trip.Takes x → Write .trips s { s with trip := x }
  | headTrip (s : State) : Write .headTrip s (s.modHeader fun h =>
      { h with state := .tripped, returnState := none, primeTimer := none, waitTimer := none })
  | count (c) (s : State) : (s.chan c).meter.saturated = false → Write .count s (s.modMeter c Meter.count)
  | recount (i e n) (s : State) : s.entry i = some e → e.state.terminal = false → e.baseline.isSome = true →
      Write .recount s (s.setEntry i (some (e.recount n)))
  | blank (s : State) : Write .blank s { s with plan := Plan.blank }
  | reset (t) (s : State) : Write .reset s (s.setTank t Tank.blank)
  | storeDefaults (v) (s : State) : Write .storeDefaults s { s with store := { s.store with configDefaults := v } }
  | cautionDefaults (x) (s : State) : s.trip.SameRecord x → x.state = s.trip.state → Write .cautionDefaults s { s with trip := x }
  | inputs (c k) (s : State) : (s.chan c).Moves k → (s.chan c).StaysShut k → k.meter.counts = (s.chan c).meter.counts →
      k.lastStop = (s.chan c).lastStop → (s.chan c).holds.KeepsPauses k.holds → Write .inputs s (s.setChan c k)
  | rates (c) (f : Meter → Meter) (s : State) : (∀ m, (f m).total = m.total ∧ (f m).saturated = m.saturated) →
      Write .rates s (s.modMeter c f)
  | hinputs (a b) (s : State) : Write .hinputs s { s with header := { s.header with dp := a, pumpRunning := b } }
  | loops (a b) (s : State) : Write .loops s { s with trip := { s.trip with loopBOpen := a, loopSOpen := b } }
  | line (p f) (s : State) : (s.port p).LineStep (f (s.port p)) → Write .line s (s.modPort p f)
  | flags (p) (s : State) : Write .flags s (s.modPort p fun x => { x with lost := false, ended := Vector.replicate 4 false })
  | silence (p) (s : State) : Write .silence s (s.modPort p Port.silenced)
  | sent (p) (s : State) : Write .sent s (s.modPort p fun x => { x with sending := none })
  | sending (s : State) : Write .sending s s.startSending
  | cursor (x) (s : State) : Write .cursor s { s with cursor := x }
  | config (x : SiteConfig) (s : State) : x.header.capacity = s.config.header.capacity ∨ s.header.state = .idle →
      Write .config s { s with config := x }
  | store (x : Store) (s : State) : x.configDefaults = s.store.configDefaults → x.copy = s.store.copy → Write .store s { s with store := x }
  | copy (x : Store) (s : State) : x.configDefaults = s.store.configDefaults → Write .copy s { s with store := x }
  | clock (n) (s : State) : Write .clock s { s with now := n }
  | supply (b) (s : State) : Write .supply s { s with powered := b }
  | pending (is) (s : State) : Write .pending s { s with pending := is }
  | freeCount (n) (s : State) : Write .freeCount s { s with freeCount := n }
  | enqueue (q : ConsentQueue) (s : State) : (s.queue.Bounded → q.Bounded) → Write .enqueue s { s with queue := q }
  | fresh (c t m a r) (i : EntryId) (s : State) : s.planReject c t = none → s.plan.nextId = i.val →
      Write .fresh s { s with plan := s.plan.add i (Entry.fresh c t m a r (if (s.current c).isNone then .await else .queued)) }
  | cancel (i e) (s : State) : s.entry i = some e → e.state = .queued →
      Write .cancel s (s.setEntry i (some (e.finish .cancel s.now)))
  | authorise (c) (s : State) : s.trip.state = .normal →
      Write .authorise s (s.modChan c fun k => { k with authorised := true })
  | unpauseB (c k) (s : State) : (s.chan c).Moves k → (s.chan c).StaysShut k → (s.chan c).Keeps k →
      ((s.chan c).holds.pauseS = true → k.holds.pauseS = true) → Write .unpauseB s (s.setChan c k)
  | unpauseS (c k) (s : State) : (s.chan c).Moves k → (s.chan c).StaysShut k → (s.chan c).Keeps k →
      ((s.chan c).holds.pauseB = true → k.holds.pauseB = true) → Write .unpauseS s (s.setChan c k)
  | lift (c k) (s : State) : (s.chan c).Moves k → (s.chan c).StaysShut k → (s.chan c).Keeps k → Write .lift s (s.setChan c k)
  | declare (t k) (s : State) : ((s.tank t).WindowOk → k.WindowOk) → Write .declare s (s.setTank t k)

/-! ### Sequences of writes -/

/-- A sequence of writes, each of a kind in `P`. -/
def Writes (P : List Part) : State → State → Prop := Relation.ReflTransGen fun s t => ∃ p ∈ P, Write p s t

theorem Writes.refl {P : List Part} (s : State) : Writes P s s := Relation.ReflTransGen.refl

theorem Writes.mono {P Q : List Part} {s t : State} (h : Writes P s t) (hPQ : P ⊆ Q := by decide) : Writes Q s t :=
  Relation.ReflTransGen.mono (fun _ _ ⟨p, hp, hw⟩ => ⟨p, hPQ hp, hw⟩) _ _ h

theorem Write.writes {p : Part} {P : List Part} {s t : State} (h : Write p s t) (hp : p ∈ P := by decide) : Writes P s t :=
  Relation.ReflTransGen.single ⟨p, hp, h⟩

/-- One sequence and then another, each within the kinds the whole is said of. -/
theorem Writes.then {P Q R : List Part} {s t u : State} (h : Writes P s t) (g : Writes Q t u) (hP : P ⊆ R := by decide)
    (hQ : Q ⊆ R := by decide) : Writes R s u := Relation.ReflTransGen.trans (h.mono hP) (g.mono hQ)

theorem Writes.ite {P : List Part} {s t u : State} {b : Prop} [Decidable b] (ht : Writes P s t) (hu : Writes P s u) :
    Writes P s (if b then t else u) := by
  split
  · exact ht
  · exact hu

theorem Writes.foldl {α : Type} {P : List Part} {f : State → α → State} (hf : ∀ s a, Writes P s (f s a)) (xs : List α) (s : State) :
    Writes P s (xs.foldl f s) := by
  induction xs generalizing s with
  | nil => exact .refl s
  | cons x xs ih => exact (hf s x).then (ih _) (List.Subset.refl P) (List.Subset.refl P)

/-- What every write of the kinds in `P` keeps, a sequence of them keeps. -/
theorem Writes.keeps {P : List Part} {I : State → Prop} (hI : ∀ p ∈ P, ∀ s t, Write p s t → I s → I t) {s t : State}
    (h : Writes P s t) (hs : I s) : I t := by
  induction h with
  | refl => exact hs
  | tail _ hw ih => obtain ⟨p, hp, hw⟩ := hw; exact hI p hp _ _ hw ih

/-- What no write of the kinds in `P` changes, no sequence of them changes. -/
theorem Writes.frame {P : List Part} {α : Sort _} (π : State → α) (hπ : ∀ p ∈ P, ∀ s t, Write p s t → π t = π s) {s t : State}
    (h : Writes P s t) : π t = π s :=
  h.keeps (I := fun u => π u = π s) (fun p hp _ _ hw hs => (hπ p hp _ _ hw).trans hs) rfl

/-! SUPPORT. The hold-reason sets (R76), and what each write of a channel's record keeps. -/


/-! ### Hold-reason sets (R76) -/

theorem HoldSet.ext_has {h g : HoldSet} (hh : ∀ r, h.has r = g.has r) : h = g := by
  cases h; cases g
  simp only [HoldSet.mk.injEq]
  exact ⟨hh .noGrant, hh .headerWait, hh .noPump, hh .settling, hh .lineupDropped, hh .sourceLow, hh .blind, hh .pauseB, hh .pauseS⟩

@[simp] theorem HoldSet.has_empty (r : HoldReason) : HoldSet.empty.has r = false := by cases r <;> rfl

@[simp] theorem HoldSet.has_put (h : HoldSet) (r q : HoldReason) (v : Bool) :
    (h.put r v).has q = if q = r then v else h.has q := by cases r <;> cases q <;> rfl

theorem HoldSet.has_plus (h : HoldSet) (rs : List HoldReason) (q : HoldReason) :
    (h.plus rs).has q = (h.has q || decide (q ∈ rs)) := by
  induction rs generalizing h with
  | nil => simp [HoldSet.plus]
  | cons r rs ih =>
    have hstep : h.plus (r :: rs) = (h.put r true).plus rs := rfl
    rw [hstep, ih, HoldSet.has_put]
    by_cases hq : q = r <;> simp [hq]

theorem HoldSet.has_minus (h : HoldSet) (rs : List HoldReason) (q : HoldReason) :
    (h.minus rs).has q = (h.has q && !decide (q ∈ rs)) := by
  induction rs generalizing h with
  | nil => simp [HoldSet.minus]
  | cons r rs ih =>
    have hstep : h.minus (r :: rs) = (h.put r false).minus rs := rfl
    rw [hstep, ih, HoldSet.has_put]
    by_cases hq : q = r <;> simp [hq]

theorem HoldSet.isEmpty_iff (h : HoldSet) : h.isEmpty = true ↔ h = HoldSet.empty := by simp [HoldSet.isEmpty]

theorem HoldSet.ne_empty_of_has {h : HoldSet} {r : HoldReason} (hr : h.has r = true) : h ≠ HoldSet.empty := by
  rintro rfl; simp at hr

theorem HoldSet.exists_has_of_ne_empty {h : HoldSet} (hne : h ≠ HoldSet.empty) : ∃ r, h.has r = true := by
  by_contra hno
  exact hne (HoldSet.ext_has fun r => by simpa using fun hr => hno ⟨r, hr⟩)

theorem HoldSet.minus_empty (rs : List HoldReason) : HoldSet.empty.minus rs = HoldSet.empty :=
  HoldSet.ext_has fun r => by simp [HoldSet.has_minus]

/-- A reason added that changes the set leaves it with one. -/
theorem HoldSet.plus_ne_empty {h : HoldSet} {rs : List HoldReason} (hne : h ≠ h.plus rs) : h.plus rs ≠ HoldSet.empty := by
  intro he
  refine hne (HoldSet.ext_has fun r => ?_)
  have hr := congrArg (·.has r) he
  simp only [HoldSet.has_plus, HoldSet.has_empty, Bool.or_eq_false_iff] at hr
  simp [HoldSet.has_plus, hr]

theorem HoldSet.plus_ne_empty_of_ne_empty {h : HoldSet} (rs : List HoldReason) (hne : h ≠ HoldSet.empty) :
    h.plus rs ≠ HoldSet.empty := by
  obtain ⟨r, hr⟩ := HoldSet.exists_has_of_ne_empty hne
  exact HoldSet.ne_empty_of_has (r := r) (by simp [HoldSet.has_plus, hr])

theorem HoldSet.KeepsPauses.refl (h : HoldSet) : h.KeepsPauses h := ⟨id, id⟩

theorem HoldSet.keepsPauses_plus (h : HoldSet) (rs : List HoldReason) : h.KeepsPauses (h.plus rs) := by
  have hp (r : HoldReason) (hr : h.has r = true) : (h.plus rs).has r = true := by simp [HoldSet.has_plus, hr]
  exact ⟨hp .pauseB, hp .pauseS⟩

theorem HoldSet.keepsPauses_minus (h : HoldSet) {rs : List HoldReason} (hB : .pauseB ∉ rs) (hS : .pauseS ∉ rs) :
    h.KeepsPauses (h.minus rs) := by
  have hp (r : HoldReason) (hrs : r ∉ rs) (hr : h.has r = true) : (h.minus rs).has r = true := by
    simp [HoldSet.has_minus, hr, hrs]
  exact ⟨hp .pauseB hB, hp .pauseS hS⟩

theorem HoldSet.keepsPauses_put (h : HoldSet) {r : HoldReason} (v : Bool) (hB : r ≠ .pauseB) (hS : r ≠ .pauseS) :
    h.KeepsPauses (h.put r v) := by
  cases r with
  | pauseB => exact absurd rfl hB
  | pauseS => exact absurd rfl hS
  | noGrant | headerWait | noPump | settling | lineupDropped | sourceLow | blind => exact ⟨id, id⟩

/-! ### A channel's state, command and grant -/

/-- A channel that is not FLOWING holds no grant and, HELD, has a reason (R76, R110). -/
theorem Channel.flowsByGrant_iff (k : Channel) : k.FlowsByGrant ↔
    (k.state = .flowing → 0 < k.grant ∧ k.holds = HoldSet.empty) ∧ (k.state ≠ .flowing → k.grant = 0)
      ∧ (k.state = .held → k.holds ≠ HoldSet.empty) := by
  unfold Channel.FlowsByGrant
  constructor
  · rintro ⟨hg, hf, hh⟩
    exact ⟨fun h => ⟨hg.mpr h, hf h⟩, fun h => Nat.eq_zero_of_not_pos fun hp => h (hg.mp hp), hh⟩
  · rintro ⟨hf, hz, hh⟩
    refine ⟨⟨fun hp => ?_, fun h => (hf h).1⟩, fun h => (hf h).2, hh⟩
    by_contra hn
    exact hp.ne' (hz hn)

/-- A state in which a channel neither flows nor is held. -/
def ChState.resting (x : ChState) : Prop := x ≠ .flowing ∧ x ≠ .held

theorem Channel.flowsByGrant_of_resting {k : Channel} (hs : k.state.resting) (hg : k.grant = 0) : k.FlowsByGrant := by
  rw [Channel.flowsByGrant_iff]
  exact ⟨fun h => absurd h hs.1, fun _ => hg, fun h => absurd h hs.2⟩

/-- Fields no rule of grants, commands or authorisations reads. -/
theorem Channel.Moves.of_same {k l : Channel} (hs : l.state = k.state) (hc : l.command = k.command) (hh : l.holds = k.holds)
    (hg : l.grant = k.grant) : k.Moves l := by
  refine ⟨fun h => by rw [hc, hs, h], fun h => ?_, hg.le⟩
  unfold Channel.FlowsByGrant
  rw [hs, hh, hg]; exact h

/-- A channel put at rest with its grant 0 and the command of its state. -/
theorem Channel.Moves.of_resting {k l : Channel} (hc : l.command = l.state.command) (hs : l.state.resting) (hg : l.grant = 0) :
    k.Moves l :=
  ⟨fun _ => hc, fun _ => Channel.flowsByGrant_of_resting hs hg, hg.trans_le (Nat.zero_le _)⟩

theorem Channel.StaysShut.of_same {k l : Channel} (hs : l.state = k.state) (ha : l.authorised = k.authorised) : k.StaysShut l :=
  ⟨fun h => by rw [hs, h], fun h => by rw [ha, h]⟩

theorem Channel.StaysShut.of_shut {k l : Channel} (hs : l.state.command = .toClose) (ha : k.authorised = false → l.authorised = false) :
    k.StaysShut l := ⟨fun _ => hs, ha⟩

theorem Channel.Step.of_same {k l : Channel} (hs : l.state = k.state) (hc : l.command = k.command) (hh : l.holds = k.holds)
    (hg : l.grant = k.grant) (ha : l.authorised = k.authorised) (hi : l.inputs = k.inputs) (hm : l.meter.counts = k.meter.counts)
    (hl : l.lastStop = k.lastStop) : k.Step l :=
  { Channel.Moves.of_same hs hc hh hg, Channel.StaysShut.of_same hs ha with
    inputs := hi, counts := hm, lastStop := hl, pauses := by rw [hh]; exact .refl _ }

/-! ### The writes of a hold set (R76) -/

theorem Channel.holdWith_eq (k : Channel) (rs : List HoldReason) : k.holdWith rs =
    if k.holds = k.holds.plus rs then k
    else if k.state = .flowing then
      { k with state := .held, command := .toOpen, grant := 0, holds := k.holds.plus rs, meter := { k.meter with stallTimer := none } }
    else { k with holds := k.holds.plus rs } := rfl

theorem Channel.step_holdWith (k : Channel) (rs : List HoldReason) : k.Step (k.holdWith rs) := by
  rw [Channel.holdWith_eq]
  split
  · exact .of_same rfl rfl rfl rfl rfl rfl rfl rfl
  case isFalse hne =>
    split
    case isTrue hf =>
      refine { command := fun _ => rfl, flows := fun _ => ?_, grant := Nat.zero_le _, shut := fun h => ?_, auth := id, inputs := rfl,
               counts := rfl, lastStop := rfl, pauses := HoldSet.keepsPauses_plus _ _ }
      · rw [Channel.flowsByGrant_iff]
        exact ⟨(fun h => nomatch h), fun _ => rfl, fun _ => HoldSet.plus_ne_empty hne⟩
      · rw [hf] at h; cases h
    case isFalse hf =>
      refine { command := id, flows := fun h => ?_, grant := le_rfl, shut := id, auth := id, inputs := rfl, counts := rfl, lastStop := rfl,
               pauses := HoldSet.keepsPauses_plus _ _ }
      rw [Channel.flowsByGrant_iff] at h ⊢
      exact ⟨fun hs => absurd hs hf, h.2.1, fun hs => HoldSet.plus_ne_empty_of_ne_empty rs (h.2.2 hs)⟩

theorem Channel.holdsWithout_eq (k : Channel) (rs : List HoldReason) : k.holdsWithout rs =
    if k.state = .held ∧ k.grant = 0 ∧ k.holds.minus rs = HoldSet.empty then (k.holds.minus rs).put .noGrant true
    else k.holds.minus rs := by
  simp only [Channel.holdsWithout, Bool.and_eq_true, decide_eq_true_eq, HoldSet.isEmpty_iff, and_assoc]

/-- A HELD channel keeps a reason whatever is taken from its set (R76). -/
theorem Channel.moves_holdsWithout (k : Channel) (rs : List HoldReason) : k.Moves { k with holds := k.holdsWithout rs } := by
  refine ⟨id, fun h => ?_, le_rfl⟩
  rw [Channel.flowsByGrant_iff] at h ⊢
  obtain ⟨hf, hz, -⟩ := h
  refine ⟨fun hs => ⟨(hf hs).1, ?_⟩, hz, fun hs => ?_⟩
  · have hne : ¬ (k.state = .held ∧ k.grant = 0 ∧ k.holds.minus rs = HoldSet.empty) := fun h => by
      have hs : k.state = .flowing := hs
      rw [hs] at h; cases h.1
    simp only [Channel.holdsWithout_eq, if_neg hne]
    rw [(hf hs).2, HoldSet.minus_empty]
  · have hs : k.state = .held := hs
    have hg : k.grant = 0 := hz (show k.state ≠ .flowing by rw [hs]; decide)
    simp only [Channel.holdsWithout_eq, hs, hg, true_and]
    split
    · exact HoldSet.ne_empty_of_has (r := .noGrant) (by simp)
    case isFalse hne => exact hne

theorem Channel.step_holdsWithout (k : Channel) {rs : List HoldReason} (hB : .pauseB ∉ rs) (hS : .pauseS ∉ rs) :
    k.Step { k with holds := k.holdsWithout rs } := by
  refine { k.moves_holdsWithout rs with shut := id, auth := id, inputs := rfl, counts := rfl, lastStop := rfl, pauses := ?_ }
  have hm := k.holds.keepsPauses_minus hB hS
  simp only [Channel.holdsWithout_eq]
  split
  · exact ⟨fun h => hm.pauseB h, fun h => hm.pauseS h⟩
  · exact hm

/-! ### The writes of a close, a fault and a grant -/

theorem Channel.step_closing (k : Channel) {rs : List HoldReason} (expiry : Nat) (hB : .pauseB ∉ rs) (hS : .pauseS ∉ rs) :
    k.Step (k.closing rs expiry) :=
  { Channel.Moves.of_resting (l := k.closing rs expiry) rfl ⟨by simp [Channel.closing], by simp [Channel.closing]⟩ rfl with
    shut := fun _ => rfl, auth := id, inputs := rfl, counts := rfl, lastStop := rfl, pauses := k.holds.keepsPauses_minus hB hS }

theorem Channel.step_faulted (k : Channel) : k.Step k.faulted :=
  { Channel.Moves.of_resting (l := k.faulted) rfl ⟨by simp [Channel.faulted], by simp [Channel.faulted]⟩ rfl with
    shut := fun _ => rfl, auth := id, inputs := rfl, counts := rfl, lastStop := rfl
    pauses := k.holds.keepsPauses_minus (by decide) (by decide) }

theorem Channel.step_initialised (k : Channel) : k.Step k.initialised :=
  { Channel.Moves.of_resting (l := k.initialised) rfl ⟨by simp [Channel.initialised], by simp [Channel.initialised]⟩ rfl with
    shut := fun _ => rfl, auth := fun _ => rfl, inputs := rfl, counts := rfl, lastStop := rfl, pauses := ⟨id, id⟩ }

/-! SUPPORT. What a sequence of writes leaves unchanged, by the kinds of its writes: one lemma per item of the state. -/


/-- What no step of a fold changes, the fold does not change. -/
theorem foldl_frame {α : Type} {β : Sort _} (π : State → β) {f : State → α → State} (hf : ∀ s a, π (f s a) = π s)
    (xs : List α) (s : State) : π (xs.foldl f s) = π s := by
  induction xs generalizing s with
  | nil => rfl
  | cons x xs ih => exact (ih _).trans (hf s x)

/-- The channels' records with every grant of R110 given are the only change. -/
theorem giveAll_eq (s : State) : giveAll s = { s with channels := (giveAll s).channels } := by
  have hstep (x : State) (c : Chan) (g : Nat) : giveGrant c g x = { x with channels := (giveGrant c g x).channels } := rfl
  have hfold (cs : List Chan) (x : State) : cs.foldl (fun x c => giveGrant c (s.newGrant c) x) x
      = { x with channels := (cs.foldl (fun x c => giveGrant c (s.newGrant c) x) x).channels } := by
    induction cs generalizing x with
    | nil => rfl
    | cons c cs ih => rw [List.foldl_cons, ih, hstep x c (s.newGrant c)]
  exact hfold chans s

theorem promote_eq (c : Chan) (s : State) : (promote c s).1 = { s with plan := (promote c s).1.plan } := by
  unfold promote
  split
  · split <;> rfl
  · rfl

/-- The items of the state a kind of write can be of; `many` where it is of several. -/
inductive Item where
  | ports | channels | tanks | plan | header | trip | queue | store | evals | cursor | config | now | powered | pending | freeCount
  | many
  deriving DecidableEq

/-- The item a kind of write is of. -/
def Part.item : Part → Item
  | .notices | .ended | .line | .flags | .silence | .sent | .sending => .ports
  | .chans | .stops | .grants | .opens | .zero | .count | .inputs | .rates | .authorise | .unpauseB | .unpauseS | .lift => .channels
  | .tanks | .reset | .declare => .tanks
  | .figures | .promote | .finish | .late | .recount | .blank | .fresh | .cancel => .plan
  | .header | .headTrip | .hinputs => .header
  | .trip | .settle | .trips | .loops | .cautionDefaults => .trip
  | .withdrawals | .enqueue => .queue
  | .storeDefaults | .store | .copy => .store
  | .evals => .evals
  | .cursor => .cursor
  | .config => .config
  | .clock => .now
  | .supply => .powered
  | .pending => .pending
  | .freeCount => .freeCount
  | .ending | .shutdown | .pulse | .amend | .clear | .emptied | .init | .defaults => .many

/-- `t` is `s` but for one item. -/
def Item.Only (s t : State) : Item → Prop
  | .ports => t = { s with portB := t.portB, portS := t.portS }
  | .channels => t = { s with channels := t.channels }
  | .tanks => t = { s with tanks := t.tanks }
  | .plan => t = { s with plan := t.plan }
  | .header => t = { s with header := t.header }
  | .trip => t = { s with trip := t.trip }
  | .queue => t = { s with queue := t.queue }
  | .store => t = { s with store := t.store }
  | .evals => t = { s with evals := t.evals }
  | .cursor => t = { s with cursor := t.cursor }
  | .config => t = { s with config := t.config }
  | .now => t = { s with now := t.now }
  | .powered => t = { s with powered := t.powered }
  | .pending => t = { s with pending := t.pending }
  | .freeCount => t = { s with freeCount := t.freeCount }
  | .many => True

/-- A write changes the item of its kind only. -/
theorem Write.only {p : Part} {s t : State} (h : Write p s t) : p.item.Only s t := by
  cases h with
  | line | flags | silence | sent => exact modPort_eq_withPorts ..
  | grants => exact giveAll_eq _
  | promote => exact promote_eq _ _
  | ending | shutdown | pulse | amend | clear | emptied | init | defaults => trivial
  | _ => rfl

/-- Item `i` is as it was. -/
def Item.Same (s t : State) : Item → Prop
  | .ports => t.portB = s.portB ∧ t.portS = s.portS
  | .channels => t.channels = s.channels
  | .tanks => t.tanks = s.tanks
  | .plan => t.plan = s.plan
  | .header => t.header = s.header
  | .trip => t.trip = s.trip
  | .queue => t.queue = s.queue
  | .store => t.store = s.store
  | .evals => t.evals = s.evals
  | .cursor => t.cursor = s.cursor
  | .config => t.config = s.config
  | .now => t.now = s.now
  | .powered => t.powered = s.powered
  | .pending => t.pending = s.pending
  | .freeCount => t.freeCount = s.freeCount
  | .many => True

theorem Item.Only.same {s t : State} {i j : Item} (h : i.Only s t) (hij : i ≠ j) (hi : i ≠ .many) : j.Same s t := by
  cases i with
  | many => exact absurd rfl hi
  | _ => simp only [Item.Only] at h; rw [h]; cases j <;> first | exact absurd rfl hij | exact rfl | exact ⟨rfl, rfl⟩ | trivial

section
variable {P : List Part} {s t : State}

/-- An item no kind in `P` writes is as it was. -/
theorem Writes.leaves (h : Writes P s t) (i : Item) (hP : ∀ p ∈ P, p.item ≠ i ∧ p.item ≠ .many) : i.Same s t := by
  induction h with
  | refl => cases i <;> first | exact rfl | exact ⟨rfl, rfl⟩ | trivial
  | tail _ hw ih =>
    obtain ⟨p, hp, hw⟩ := hw
    have hsame := hw.only.same (hP p hp).1 (hP p hp).2
    cases i with
    | ports => exact ⟨hsame.1.trans ih.1, hsame.2.trans ih.2⟩
    | many => trivial
    | _ => exact Eq.trans hsame ih

theorem Writes.plan_eq (h : Writes P s t) (hP : ∀ p ∈ P, p.item ≠ .plan ∧ p.item ≠ .many := by decide) :
    t.plan = s.plan := h.leaves .plan hP
theorem Writes.tanks_eq (h : Writes P s t) (hP : ∀ p ∈ P, p.item ≠ .tanks ∧ p.item ≠ .many := by decide) :
    t.tanks = s.tanks := h.leaves .tanks hP
theorem Writes.channels_eq (h : Writes P s t) (hP : ∀ p ∈ P, p.item ≠ .channels ∧ p.item ≠ .many := by decide) :
    t.channels = s.channels := h.leaves .channels hP
theorem Writes.header_eq (h : Writes P s t) (hP : ∀ p ∈ P, p.item ≠ .header ∧ p.item ≠ .many := by decide) :
    t.header = s.header := h.leaves .header hP
theorem Writes.trip_eq (h : Writes P s t) (hP : ∀ p ∈ P, p.item ≠ .trip ∧ p.item ≠ .many := by decide) :
    t.trip = s.trip := h.leaves .trip hP
theorem Writes.queue_eq (h : Writes P s t) (hP : ∀ p ∈ P, p.item ≠ .queue ∧ p.item ≠ .many := by decide) :
    t.queue = s.queue := h.leaves .queue hP
theorem Writes.store_eq (h : Writes P s t) (hP : ∀ p ∈ P, p.item ≠ .store ∧ p.item ≠ .many := by decide) :
    t.store = s.store := h.leaves .store hP
theorem Writes.evals_eq (h : Writes P s t) (hP : ∀ p ∈ P, p.item ≠ .evals ∧ p.item ≠ .many := by decide) :
    t.evals = s.evals := h.leaves .evals hP
theorem Writes.cursor_eq (h : Writes P s t) (hP : ∀ p ∈ P, p.item ≠ .cursor ∧ p.item ≠ .many := by decide) :
    t.cursor = s.cursor := h.leaves .cursor hP
theorem Writes.config_eq (h : Writes P s t) (hP : ∀ p ∈ P, p.item ≠ .config ∧ p.item ≠ .many := by decide) :
    t.config = s.config := h.leaves .config hP
theorem Writes.now_eq (h : Writes P s t) (hP : ∀ p ∈ P, p.item ≠ .now ∧ p.item ≠ .many := by decide) :
    t.now = s.now := h.leaves .now hP
theorem Writes.powered_eq (h : Writes P s t) (hP : ∀ p ∈ P, p.item ≠ .powered ∧ p.item ≠ .many := by decide) :
    t.powered = s.powered := h.leaves .powered hP
theorem Writes.freeCount_eq (h : Writes P s t) (hP : ∀ p ∈ P, p.item ≠ .freeCount ∧ p.item ≠ .many := by decide) :
    t.freeCount = s.freeCount := h.leaves .freeCount hP
theorem Writes.entry_eq (h : Writes P s t) (hP : ∀ p ∈ P, p.item ≠ .plan ∧ p.item ≠ .many := by decide) :
    t.entry = s.entry := by funext i; rw [State.entry, h.plan_eq hP]; rfl
theorem Writes.chan_eq (h : Writes P s t) (hP : ∀ p ∈ P, p.item ≠ .channels ∧ p.item ≠ .many := by decide) :
    t.chan = s.chan := by funext c; rw [State.chan, h.channels_eq hP]; rfl
theorem Writes.tank_eq (h : Writes P s t) (hP : ∀ p ∈ P, p.item ≠ .tanks ∧ p.item ≠ .many := by decide) :
    t.tank = s.tank := by funext u; rw [State.tank, h.tanks_eq hP]; rfl
theorem Writes.chanConfig_eq (h : Writes P s t) (hP : ∀ p ∈ P, p.item ≠ .config ∧ p.item ≠ .many := by decide) :
    t.chanConfig = s.chanConfig := by funext c; rw [State.chanConfig, h.config_eq hP]; rfl
theorem Writes.port_eq (h : Writes P s t) (hP : ∀ p ∈ P, p.item ≠ .ports ∧ p.item ≠ .many := by decide) (q : Side) :
    t.port q = s.port q := by cases q; exacts [(h.leaves .ports hP).1, (h.leaves .ports hP).2]

end

/-! SUPPORT. Each shared operation as a sequence of writes: notices, holds, cautions, the header and the grants. -/


/-! ### Notices (R172) -/

theorem raise_writes (n : Notice) (s : State) : Writes [.notices] s (raise n s) := (Write.notice n s).writes

theorem noteEntry_writes (ev i s) : Writes [.notices] s (noteEntry ev i s) := by
  unfold noteEntry; split
  · exact raise_writes ..
  · exact .refl s

theorem noteChan_writes (ev c s) : Writes [.notices] s (noteChan ev c s) := raise_writes ..
theorem noteHeader_writes (ev s) : Writes [.notices] s (noteHeader ev s) := raise_writes ..
theorem noteTrip_writes (ev s) : Writes [.notices] s (noteTrip ev s) := raise_writes ..
theorem noteProposal_writes (ev p s) : Writes [.notices] s (noteProposal ev p s) := raise_writes ..
theorem noteTank_writes (ev t s) : Writes [.notices] s (noteTank ev t s) := raise_writes ..
theorem noteLevel_writes (t r s) : Writes [.notices] s (noteLevel t r s) := raise_writes ..
theorem noteAlarm_writes (t s) : Writes [.notices] s (noteAlarm t s) := raise_writes ..
theorem noteCaution_writes (k a s) : Writes [.notices] s (noteCaution k a s) := raise_writes ..

theorem noteHoldsChange_writes (b c s) : Writes [.notices] s (noteHoldsChange b c s) := by
  unfold noteHoldsChange; split
  · exact .refl s
  · exact noteChan_writes ..

theorem noteStateChange_writes (b c s) : Writes [.notices] s (noteStateChange b c s) := by
  unfold noteStateChange; split
  · exact .refl s
  · exact noteChan_writes ..

theorem noteRegrant_writes (b c s) : Writes [.notices] s (noteRegrant b c s) :=
  (noteHoldsChange_writes ..).then (noteStateChange_writes ..)

theorem noteLevelChange_writes (t b o r s) : Writes [.notices] s (noteLevelChange t b o r s) := by
  unfold noteLevelChange; simp only; split
  · exact noteLevel_writes ..
  · exact .refl s

/-! ### A channel's record (R76) -/

theorem modChan_writes {c : Chan} {f : Channel → Channel} {s : State} (h : (s.chan c).Step (f (s.chan c))) :
    Writes [.chans] s (s.modChan c f) := (Write.chan c _ s h).writes

theorem noteMoved_writes (b c s) : Writes [.notices] s (noteStateChange b c (noteHoldsChange b c s)) :=
  noteRegrant_writes b c s

/-- A write of a channel's record with its two notices is that write, whatever its kind, and notices. -/
theorem updateChan_writes_of {p : Part} {P : List Part} {c : Chan} {f : Channel → Channel} {s : State}
    (h : Write p s (s.modChan c f)) (hp : p ∈ P := by decide) (hn : .notices ∈ P := by decide) : Writes P s (updateChan c f s) :=
  (h.writes hp).then (noteRegrant_writes s c _) (List.Subset.refl P) (by simpa using hn)

theorem updateChan_writes {c : Chan} {f : Channel → Channel} {s : State} (h : (s.chan c).Step (f (s.chan c))) :
    Writes [.chans, .notices] s (updateChan c f s) := updateChan_writes_of (Write.chan c _ s h)

theorem moveChan_writes {c : Chan} {f : Channel → Channel} {s : State} (h : (s.chan c).Step (f (s.chan c))) :
    Writes [.chans, .notices] s (moveChan c f s) :=
  (modChan_writes h).then ((noteStateChange_writes s c _).then (noteHoldsChange_writes ..) (R := [.notices]))

theorem addHolds_writes (c rs s) : Writes [.chans, .notices] s (addHolds c rs s) := updateChan_writes (Channel.step_holdWith ..)

theorem removeHolds_writes (c s) {rs : List HoldReason} (hB : .pauseB ∉ rs := by decide) (hS : .pauseS ∉ rs := by decide) :
    Writes [.chans, .notices] s (removeHolds c rs s) := updateChan_writes (Channel.step_holdsWithout _ hB hS)

/-! ### Annunciation (R158 to R161) -/

theorem Trip.Step.of_horn (t : Trip) (h : HornClass) (m : Option HornClass) : t.Step { t with horn := h, mute := m } where
  firstOut := rfl
  later := rfl
  more := rfl
  unproven := rfl
  loopB := rfl
  loopS := rfl
  state := rfl
  defaults := Iff.rfl

theorem modTrip_writes {f : Trip → Trip} {s : State} (h : s.trip.Step (f s.trip))
    (hh : (f s.trip).horn = s.trip.horn ∨ (f s.trip).horn = (s.modTrip f).hornClass) : Writes [.trip] s (s.modTrip f) :=
  (Write.trip _ s h hh).writes

theorem judgeHorn_writes (a s) : Writes [.trip, .notices] s (judgeHorn a s) := by
  unfold judgeHorn; simp only; split
  · exact .refl s
  · exact (modTrip_writes (.of_horn ..) (.inr rfl)).then (noteTrip_writes ..)

/-- Cautions added or removed that are not CONFIG_DEFAULTS (R159). -/
theorem Trip.Step.of_cautions (t : Trip) {cs : List CautionEntry}
    (h : (∃ e ∈ cs, e.caution = .configDefaults) ↔ ∃ e ∈ t.cautions, e.caution = .configDefaults) :
    t.Step { t with cautions := cs } where
  firstOut := rfl
  later := rfl
  more := rfl
  unproven := rfl
  loopB := rfl
  loopS := rfl
  state := rfl
  defaults := h

theorem same_configDefaults {k : Caution} (hk : k ≠ .configDefaults) : Caution.same .configDefaults k = false := by
  cases k with
  | configDefaults => exact absurd rfl hk
  | _ => rfl

theorem cautionOn_writes {k : Caution} (hk : k ≠ .configDefaults) (s) : Writes [.trip, .notices] s (cautionOn k s) := by
  unfold cautionOn; split
  · exact .refl s
  · refine Writes.then (Q := [.trip, .notices]) (modTrip_writes (.of_cautions _ ?_) (.inl rfl))
      ((noteCaution_writes ..).then (judgeHorn_writes ..))
    simp [or_and_right, exists_or, hk]

theorem cautionOff_writes {k : Caution} (hk : k ≠ .configDefaults) (s) : Writes [.trip, .notices] s (cautionOff k s) := by
  unfold cautionOff; split
  · refine Writes.then (Q := [.trip, .notices]) (modTrip_writes (.of_cautions _ ?_) (.inl rfl))
      ((noteCaution_writes ..).then (judgeHorn_writes ..))
    constructor
    · rintro ⟨e, he, hc⟩; exact ⟨e, List.mem_of_mem_filter he, hc⟩
    · rintro ⟨e, he, hc⟩; exact ⟨e, List.mem_filter.mpr ⟨he, by rw [hc, same_configDefaults hk]; rfl⟩, hc⟩
  · exact .refl s

theorem setCaution_writes {k : Caution} (hk : k ≠ .configDefaults) (v s) : Writes [.trip, .notices] s (setCaution k v s) := by
  unfold setCaution; split
  · exact cautionOn_writes hk s
  · exact cautionOff_writes hk s

theorem setStrain_writes (c v s) : Writes [.chans, .trip, .notices] s (setStrain c v s) := by
  unfold setStrain; split
  · exact .refl s
  · exact (modChan_writes (.of_same rfl rfl rfl rfl rfl rfl rfl rfl)).then (setCaution_writes (by simp) ..)

theorem setHighSoon_writes (c v s) : Writes [.chans, .trip, .notices] s (setHighSoon c v s) := by
  unfold setHighSoon; split
  · exact .refl s
  · exact (modChan_writes (.of_same rfl rfl rfl rfl rfl rfl rfl rfl)).then (setCaution_writes (by simp) ..)

theorem setUnmetered_writes (c t v s) : Writes [.chans, .trip, .notices] s (setUnmetered c t v s) := by
  unfold setUnmetered; split
  · exact .refl s
  · exact (modChan_writes (.of_same rfl rfl rfl rfl rfl rfl rfl rfl)).then (setCaution_writes (by simp) ..)

theorem Tank.Step.of_same {k l : Tank} (hw : l.window = k.window) (hs : l.suspect = k.suspect) (ht : l.stale = k.stale)
    (hi : l.staleTimer = k.staleTimer) (hd : l.declared = k.declared) : k.Step l :=
  ⟨fun h => by unfold Tank.WindowOk; rw [hw, hs, ht, hi]; exact h, hd⟩

theorem modTank_writes {t : TankNo} {f : Tank → Tank} {s : State} (h : (s.tank t).Step (f (s.tank t))) :
    Writes [.tanks] s (s.modTank t f) := (Write.tank t _ s h).writes

theorem setGaugeStep_writes (t v s) : Writes [.tanks, .trip, .notices] s (setGaugeStep t v s) := by
  unfold setGaugeStep; split
  · exact .refl s
  · exact (modTank_writes (.of_same rfl rfl rfl rfl rfl)).then (setCaution_writes (by simp) ..)

/-! ### The priority lists (R112, R113) -/

theorem State.HeaderStep.of_state {s : State} {h : Header} (hs : h.state = s.header.state) (hr : h.returnState = s.header.returnState)
    (hp : h.primeTimer = s.header.primeTimer) (hw : h.waitTimer = s.header.waitTimer) (hd : h.dp = s.header.dp)
    (hpr : h.pumpRunning = s.header.pumpRunning) : s.HeaderStep h where
  timers ht := by unfold Header.TimersOk; rw [hs, hr, hp, hw]; exact ht
  tripped _ ht := by rw [hs]; exact ht
  grants hg hn := hg.2.1 (by rw [← hs]; exact hn)
  dp := hd
  pumpRunning := hpr

theorem modHeader_writes {f : Header → Header} {s : State} (h : s.HeaderStep (f s.header)) : Writes [.header] s (s.modHeader f) :=
  (Write.header _ s h).writes

theorem putLists_writes (h l s) : Writes [.header, .notices] s (putLists h l s) := by
  unfold putLists; split
  · exact .refl s
  · exact (modHeader_writes (.of_state rfl rfl rfl rfl rfl rfl)).then (noteHeader_writes ..)

theorem rotate_writes (c s) : Writes [.header, .notices] s (rotate c s) := by
  unfold rotate; split <;> exact putLists_writes ..

theorem moveGroup_writes (c g s) : Writes [.header, .notices] s (moveGroup c g s) := by
  unfold moveGroup; simp only; split <;> exact putLists_writes ..

/-! ### The grants (R108 to R111) -/

theorem regrant_writes (z s) : Writes [.grants, .evals, .notices] s (regrant z s) := by
  have htold (z : Bool) (u : State) : Writes [.notices] u (if z then noteHeader .grants u else u) := by
    split
    · exact noteHeader_writes ..
    · exact .refl u
  exact ((Write.grants s).writes (P := [.grants])).then
    ((htold _ _).then ((Writes.foldl (P := [.notices]) (fun x c => noteRegrant_writes s c x) chans _).then ((Write.evals _ _).writes (P := [.evals]))
      (R := [.evals, .notices])) (R := [.evals, .notices]))

theorem addHold_writes (c r s) : Writes [.chans, .grants, .evals, .notices] s (addHold c r s) := by
  unfold addHold; split
  · exact .refl s
  · exact (addHolds_writes ..).then (regrant_writes ..)

theorem removeHold_writes (c s) {r : HoldReason} (hB : r ≠ .pauseB := by decide) (hS : r ≠ .pauseS := by decide) :
    Writes [.chans, .grants, .evals, .notices] s (removeHold c r s) := by
  unfold removeHold; split
  · exact (removeHolds_writes c s (by simpa using hB.symm) (by simpa using hS.symm)).then (regrant_writes ..)
  · exact .refl s

/-! ### The header state (R100 to R105) -/

theorem changeHeader_writes {f : Header → Header} {s : State} (h : s.HeaderStep (f s.header)) :
    Writes [.header, .notices] s (changeHeader f s) := by
  unfold changeHeader; simp only; split
  · exact (modHeader_writes h).mono
  · exact (modHeader_writes h).then (noteHeader_writes ..)

theorem holdCallers_writes (rs s) : Writes [.chans, .notices] s (holdCallers rs s) := by
  refine Writes.foldl (fun x c => ?_) _ _
  split
  · exact addHolds_writes ..
  · exact .refl x

theorem freeCallers_writes (s) {rs : List HoldReason} (hB : .pauseB ∉ rs := by decide) (hS : .pauseS ∉ rs := by decide) :
    Writes [.chans, .notices] s (freeCallers rs s) := by
  refine Writes.foldl (fun x c => ?_) _ _
  split
  · exact removeHolds_writes c x hB hS
  · exact .refl x

theorem zeroGrants_writes (s) : Writes [.chans, .notices] s (zeroGrants s) := by
  refine Writes.foldl (fun x c => ?_) _ _
  split
  · exact addHolds_writes ..
  case isFalse hf =>
    split
    · exact .refl x
    case isFalse hg =>
      refine (modChan_writes (c := c) (f := fun k => { k with grant := 0 }) ?_).mono
      refine { command := id, flows := fun h => ?_, grant := Nat.zero_le _, shut := id, auth := id, inputs := rfl, counts := rfl,
               lastStop := rfl, pauses := .refl _ }
      exact absurd ((Channel.flowsByGrant_iff _).mp h |>.2.1 hf) hg

/-- A header state that is neither SERVING nor TRIPPED taken with its own timers. -/
theorem State.HeaderStep.of_leave {s : State} {h : Header} (hs : s.header.TimersOk → s.header.state ≠ .tripped)
    (hg : s.GrantsOk → ∀ c, (s.chan c).grant = 0) (ht : s.header.TimersOk → h.TimersOk) (hn : h.state ≠ .tripped)
    (hd : h.dp = s.header.dp) (hp : h.pumpRunning = s.header.pumpRunning) : s.HeaderStep h where
  timers := ht
  tripped hti hht := by
    have hns : ¬ (s.trip.state ≠ .normal) := fun hc => hs hti (hht.mpr hc)
    exact iff_of_false hn hns
  grants h _ := hg h
  dp := hd
  pumpRunning := hp

theorem grants_zero_of_not_serving {s : State} (hs : s.header.state ≠ .serving) (h : s.GrantsOk) (c : Chan) : (s.chan c).grant = 0 :=
  h.2.1 hs c

theorem grants_zero_of_none_calling {s : State} (hs : s.anyCalling = false) (h : s.GrantsOk) (c : Chan) : (s.chan c).grant = 0 := by
  refine ((Channel.flowsByGrant_iff _).mp (h.2.2 c)).2.1 fun hf => ?_
  have hc : (s.chan c).calling = false := by
    have hall : ∀ d, (s.chan d).calling = false := by
      simpa [State.anyCalling, chans, Fin.forall_fin_succ] using hs
    exact hall c
  simp [Channel.calling, hf] at hc

theorem startPriming_writes {s : State} (hs : s.header.TimersOk → s.header.state ≠ .tripped) (hn : s.header.state ≠ .serving) :
    Writes [.chans, .header, .notices] s (startPriming s) := by
  have hstep {h : Header} (ht : h.TimersOk) (hst : h.state ≠ .tripped) (hd : h.dp = s.header.dp)
      (hp : h.pumpRunning = s.header.pumpRunning) : s.HeaderStep h :=
    .of_leave hs (grants_zero_of_not_serving hn) (fun _ => ht) hst hd hp
  unfold startPriming; split
  · exact (changeHeader_writes (hstep (by simp [Header.TimersOk]) (by simp) rfl rfl)).then (holdCallers_writes ..)
  · exact (changeHeader_writes (hstep (by simp [Header.TimersOk]) (by simp) rfl rfl)).then (holdCallers_writes ..)

theorem enterServing_writes {s : State} (hs : s.header.TimersOk → s.header.state ≠ .tripped) :
    Writes [.chans, .header, .notices] s (enterServing s) := by
  refine Writes.then (changeHeader_writes ?_) (freeCallers_writes _)
  refine { timers := fun _ => by simp [Header.TimersOk], tripped := fun hti hht => ?_, grants := fun _ h => absurd rfl h,
           dp := rfl, pumpRunning := rfl }
  exact iff_of_false (by simp) fun hc => hs hti (hht.mpr hc)

theorem headerCall_writes (c s) : Writes [.chans, .header, .notices] s (headerCall c s) := by
  unfold headerCall; split
  case h_1 h => exact startPriming_writes (fun _ => by rw [h]; decide) (by rw [h]; decide)
  case h_2 => exact (addHolds_writes ..).mono
  case h_3 => exact (addHolds_writes ..).mono
  case h_4 h => exact enterServing_writes fun _ => by rw [h]; decide
  all_goals exact .refl s

theorem restState_ne (p : HeaderPolicy) : restState p ≠ .tripped ∧ restState p ≠ .priming ∧ restState p ≠ .waiting := by
  cases p <;> decide

/-- The header leaves a state without timers of its own as no channel calls. -/
theorem headerUncall_writes (s) : Writes [.header, .notices] s (headerUncall s) := by
  unfold headerUncall; split
  · exact .refl s
  case isFalse hc =>
    have hzero := grants_zero_of_none_calling (s := s) (by simpa using hc)
    split
    case h_1 h =>
      exact changeHeader_writes (.of_leave (fun _ => by rw [h]; decide) hzero (fun _ => by simp [Header.TimersOk]) (by simp) rfl rfl)
    case h_2 h =>
      exact changeHeader_writes (.of_leave (fun _ => by rw [h]; decide) hzero (fun _ => by simp [Header.TimersOk]) (by simp) rfl rfl)
    case h_3 h =>
      obtain ⟨hn, hp, hw⟩ := restState_ne s.config.header.policy
      refine changeHeader_writes (.of_leave (fun _ => by rw [h]; decide) hzero (fun ht => ?_) hn rfl rfl)
      simp only [Header.TimersOk, h] at ht
      simp [Header.TimersOk, hp, hw, ht]
    all_goals exact .refl s

theorem restHeader_writes {s : State} {st : HeaderState} (hs : s.header.TimersOk → s.header.state ≠ .tripped)
    (hg : s.GrantsOk → ∀ c, (s.chan c).grant = 0) (hst : st ≠ .tripped ∧ st ≠ .priming ∧ st ≠ .waiting) :
    Writes [.header, .notices] s (restHeader st s) :=
  changeHeader_writes (.of_leave hs hg (fun _ => by simp [Header.TimersOk, hst]) hst.1 rfl rfl)

theorem changeHeader_header (f : Header → Header) (s : State) : (changeHeader f s).header = f s.header := by
  unfold changeHeader; simp only; split <;> rfl

/-- The part as the pump's loss leaves it before its callers prime afresh (R103). -/
def unprimed (s : State) : State := holdCallers [.noPump] (freeCallers [.headerWait] (restHeader .idle s))

theorem repriming_eq (s : State) : repriming s = if (unprimed s).anyCalling then startPriming (unprimed s) else unprimed s := rfl

theorem repriming_writes {s : State} (hs : s.header.TimersOk → s.header.state ≠ .tripped) (hg : s.GrantsOk → ∀ c, (s.chan c).grant = 0) :
    Writes [.chans, .header, .notices] s (repriming s) := by
  have hidle := restHeader_writes (st := .idle) hs hg (by decide)
  have hcallers : Writes [.chans, .notices] (restHeader .idle s) (unprimed s) :=
    (freeCallers_writes _).then (holdCallers_writes ..)
  have hst : (unprimed s).header.state = .idle := by rw [hcallers.header_eq, restHeader, changeHeader_header]
  have hunprimed := hidle.then hcallers (R := [.chans, .header, .notices])
  rw [repriming_eq]
  split
  · exact hunprimed.then (startPriming_writes (fun _ => by rw [hst]; decide) (by rw [hst]; decide))
  · exact hunprimed

/-! SUPPORT. The plan's entries and the grants read, and what sequences of writes keep of them. -/


/-! ### The grants given (R111) -/

/-- A channel given a new grant (R111 step 1): `giveGrant`'s own part. -/
def Channel.granted (k : Channel) (g stall : Nat) : Channel :=
  match k.state with
  | .flowing =>
    if g = 0 then
      { k with state := .held, command := .toOpen, grant := 0, holds := k.holds.put .noGrant true,
               meter := { k.meter with stallTimer := none } }
    else { k with grant := g }
  | .held =>
    if g = 0 then { k with grant := 0, holds := if k.holds.isEmpty then k.holds.put .noGrant true else k.holds }
    else
      { k with state := .flowing, command := .toOpen, grant := g, holds := k.holds.put .noGrant false,
               meter := { k.meter with stallTimer := some stall } }
  | .masked | .idle | .opening | .closing | .fault => { k with grant := 0 }

theorem giveGrant_eq (c : Chan) (g : Nat) (s : State) :
    giveGrant c g s = s.modChan c fun k => k.granted g (s.expiry s.config.device.stallTime) := rfl

theorem mem_chans (c : Chan) : c ∈ chans := by revert c; decide

/-- Every channel has its new grant; the time of the stall timer is one for all. -/
theorem chan_giveAll (s : State) (d : Chan) :
    (giveAll s).chan d = (s.chan d).granted (s.newGrant d) (s.expiry s.config.device.stallTime) := by
  have hlater (cs : List Chan) (hd : d ∉ cs) (x : State) :
      (cs.foldl (fun x c => giveGrant c (s.newGrant c) x) x).chan d = x.chan d := by
    induction cs generalizing x with
    | nil => rfl
    | cons c cs ih =>
      rw [List.mem_cons, not_or] at hd
      rw [List.foldl_cons, ih hd.2, giveGrant_eq, chan_modChan, if_neg (Ne.symm hd.1)]
  have hfold (cs : List Chan) (hd : d ∈ cs) (hn : cs.Nodup) (x : State) (hx : x.chan d = s.chan d)
      (he : x.expiry x.config.device.stallTime = s.expiry s.config.device.stallTime) :
      (cs.foldl (fun x c => giveGrant c (s.newGrant c) x) x).chan d
        = (s.chan d).granted (s.newGrant d) (s.expiry s.config.device.stallTime) := by
    induction cs generalizing x with
    | nil => cases hd
    | cons c cs ih =>
      rw [List.nodup_cons] at hn
      rw [List.foldl_cons]
      by_cases hc : d = c
      · subst hc
        rw [hlater cs hn.1, giveGrant_eq, chan_modChan, if_pos rfl, hx, he]
      · refine ih ((List.mem_cons.mp hd).resolve_left hc) hn.2 _ ?_ he
        rw [giveGrant_eq, chan_modChan, if_neg (Ne.symm hc), hx]
  exact hfold chans (mem_chans d) (by decide) s rfl rfl

theorem Channel.granted_inputs (k : Channel) (g n : Nat) : (k.granted g n).inputs = k.inputs := by
  unfold Channel.granted; repeat' split
  all_goals rfl

theorem Channel.granted_counts (k : Channel) (g n : Nat) : (k.granted g n).meter.counts = k.meter.counts := by
  unfold Channel.granted; repeat' split
  all_goals rfl

theorem Channel.granted_command (k : Channel) (g n : Nat) : (k.granted g n).state.command = k.state.command := by
  unfold Channel.granted
  split
  case h_1 h => split <;> simp [h, ChState.command]
  case h_2 h => split <;> simp [h, ChState.command]
  all_goals rfl

theorem Channel.granted_authorised (k : Channel) (g n : Nat) : (k.granted g n).authorised = k.authorised := by
  unfold Channel.granted; repeat' split
  all_goals rfl

theorem Channel.granted_pauses (k : Channel) (g n : Nat) : k.holds.KeepsPauses (k.granted g n).holds := by
  unfold Channel.granted
  split
  · split
    · exact HoldSet.keepsPauses_put _ (r := .noGrant) _ (by decide) (by decide)
    · exact .refl _
  · split
    · split
      · exact HoldSet.keepsPauses_put _ (r := .noGrant) _ (by decide) (by decide)
      · exact .refl _
    · exact HoldSet.keepsPauses_put _ (r := .noGrant) _ (by decide) (by decide)
  all_goals exact .refl _

theorem Channel.granted_follows (k : Channel) (g n : Nat) (h : k.command = k.state.command) :
    (k.granted g n).command = (k.granted g n).state.command := by
  unfold Channel.granted
  repeat' split
  all_goals first | rfl | exact h

/-! ### The current entry (R3) -/

theorem mem_entryIds (i : EntryId) : i ∈ entryIds := by revert i; decide

theorem entryIds_sorted : entryIds.Pairwise (· < ·) := by decide

/-- Entry `i` of the plan is one of channel `c` that is not terminal. -/
def State.LiveAt (s : State) (c : Chan) (i : EntryId) : Prop := ∃ e, s.entry i = some e ∧ e.live c = true

/-- `State.LiveAt` as `State.currentId` tests it. -/
def State.liveAt (s : State) (c : Chan) (i : EntryId) : Bool :=
  match s.entry i with
  | some e => e.live c
  | none => false

theorem liveAt_iff (s : State) (c : Chan) (i : EntryId) : s.liveAt c i = true ↔ s.LiveAt c i := by
  unfold State.liveAt State.LiveAt
  cases s.entry i <;> simp

theorem currentId_eq_find (s : State) (c : Chan) : s.currentId c = entryIds.find? (s.liveAt c) := rfl

theorem Entry.live_iff (e : Entry) (c : Chan) : e.live c = true ↔ e.chan = c ∧ e.state.terminal = false := by
  simp [Entry.live]

/-- The current entry is the earliest non-terminal one (R3). -/
theorem currentId_eq_some_iff {s : State} {c : Chan} {i : EntryId} :
    s.currentId c = some i ↔ s.LiveAt c i ∧ ∀ j, j < i → ¬ s.LiveAt c j := by
  rw [currentId_eq_find, List.find?_eq_some_iff_append]
  constructor
  · rintro ⟨hi, as, bs, hids, has⟩
    refine ⟨(liveAt_iff ..).mp hi, fun j hj hl => ?_⟩
    have hsorted := hids ▸ entryIds_sorted
    rw [List.pairwise_append] at hsorted
    have hmem : j ∈ as := by
      rcases List.mem_append.mp (hids ▸ mem_entryIds j : j ∈ as ++ i :: bs) with h | h
      · exact h
      · rcases List.mem_cons.mp h with rfl | h
        · exact absurd hj (lt_irrefl _)
        · exact absurd hj (lt_asymm (List.rel_of_pairwise_cons hsorted.2.1 h))
    have hfalse := has j hmem
    rw [(liveAt_iff ..).mpr hl] at hfalse
    cases hfalse
  · rintro ⟨hi, hlt⟩
    obtain ⟨as, bs, hids⟩ := List.append_of_mem (mem_entryIds i)
    refine ⟨(liveAt_iff ..).mpr hi, as, bs, hids, fun j hj => ?_⟩
    have hsorted := hids ▸ entryIds_sorted
    rw [List.pairwise_append] at hsorted
    have hnot := hlt j (hsorted.2.2 j hj i (List.mem_cons_self ..))
    rw [← liveAt_iff, Bool.not_eq_true] at hnot
    rw [hnot]; rfl

theorem currentId_eq_none_iff {s : State} {c : Chan} : s.currentId c = none ↔ ∀ j, ¬ s.LiveAt c j := by
  rw [currentId_eq_find, List.find?_eq_none]
  exact ⟨fun h j hl => h j (mem_entryIds j) ((liveAt_iff ..).mpr hl), fun h j _ hl => h j ((liveAt_iff ..).mp hl)⟩

theorem current_eq_some_iff {s : State} {c : Chan} {i : EntryId} {e : Entry} :
    s.current c = some (i, e) ↔ s.currentId c = some i ∧ s.entry i = some e := by
  unfold State.current
  cases hc : s.currentId c with
  | none => simp
  | some j =>
    simp only [Option.some.injEq]
    cases he : s.entry j with
    | none =>
      obtain ⟨⟨e', he', -⟩, -⟩ := currentId_eq_some_iff.mp hc
      rw [he] at he'; cases he'
    | some f =>
      simp only [Option.some.injEq, Prod.mk.injEq]
      constructor
      · rintro ⟨rfl, rfl⟩; exact ⟨rfl, he⟩
      · rintro ⟨rfl, h⟩; rw [he] at h; cases h; exact ⟨rfl, rfl⟩

theorem current_isNone_iff {s : State} {c : Chan} : (s.current c).isNone = true ↔ s.currentId c = none := by
  rw [Option.isNone_iff_eq_none]
  constructor
  · intro h
    cases hc : s.currentId c with
    | none => rfl
    | some i =>
      obtain ⟨⟨e, he, -⟩, -⟩ := currentId_eq_some_iff.mp hc
      rw [current_eq_some_iff.mpr ⟨hc, he⟩] at h; cases h
  · intro h; simp only [State.current, h]

theorem current_live {s : State} {c : Chan} {i : EntryId} {e : Entry} (h : s.current c = some (i, e)) :
    s.entry i = some e ∧ e.chan = c ∧ e.state.terminal = false := by
  obtain ⟨hc, he⟩ := current_eq_some_iff.mp h
  obtain ⟨⟨f, hf, hl⟩, -⟩ := currentId_eq_some_iff.mp hc
  rw [he] at hf; cases hf
  exact ⟨he, (Entry.live_iff ..).mp hl⟩

theorem activeEntry_eq_some_iff {s : State} {c : Chan} {i : EntryId} {e : Entry} :
    s.activeEntry c = some (i, e) ↔ s.current c = some (i, e) ∧ e.state = .active := by
  unfold State.activeEntry
  cases hc : s.current c with
  | none => simp
  | some p =>
    obtain ⟨j, f⟩ := p
    simp only [Option.some.injEq, Prod.mk.injEq]
    split
    case isTrue h =>
      simp only [Option.some.injEq, Prod.mk.injEq]
      exact ⟨fun ⟨hj, hf⟩ => ⟨⟨hj, hf⟩, hf ▸ h⟩, fun h => h.1⟩
    case isFalse h => simp only [reduceCtorEq, false_iff]; rintro ⟨⟨rfl, rfl⟩, ha⟩; exact h ha

theorem activeEntry_live {s : State} {c : Chan} {i : EntryId} {e : Entry} (h : s.activeEntry c = some (i, e)) :
    s.entry i = some e ∧ e.chan = c ∧ e.state = .active :=
  have ⟨hc, ha⟩ := activeEntry_eq_some_iff.mp h
  have ⟨he, hch, _⟩ := current_live hc
  ⟨he, hch, ha⟩

/-- What is worked from the entries alone depends on the plan alone. -/
theorem currentId_congr {s t : State} (h : t.entry = s.entry) : t.currentId = s.currentId := by
  funext c; unfold State.currentId; rw [h]

theorem current_congr {s t : State} (h : t.entry = s.entry) : t.current = s.current := by
  funext c; unfold State.current; rw [h, currentId_congr h]

theorem activeEntry_congr {s t : State} (h : t.entry = s.entry) : t.activeEntry = s.activeEntry := by
  funext c; unfold State.activeEntry; rw [current_congr h]

theorem activeChan_congr {s t : State} (h : t.entry = s.entry) : t.activeChan = s.activeChan := by
  funext u; unfold State.activeChan; rw [activeEntry_congr h]

theorem servingChan_congr {s t : State} (h : t.entry = s.entry) : t.servingChan = s.servingChan := by
  funext u; unfold State.servingChan; rw [current_congr h]

/-! ### The entry in a slot -/

theorem setEntry_self (s : State) (i : EntryId) : s.setEntry i (s.entry i) = s := by
  simp [State.setEntry, State.entry, Vector.get_eq_getElem]

/-- The slot holds no terminal entry. -/
def State.Live (s : State) (i : EntryId) : Prop := ∀ e, s.entry i = some e → e.state.terminal = false

theorem State.Live.of_entry {s : State} {i : EntryId} {e : Entry} (he : s.entry i = some e) (hl : e.state.terminal = false) : s.Live i := by
  intro f hf; rw [he] at hf; cases hf; exact hl

theorem modEntry_writes {i : EntryId} {f : Entry → Entry} {s : State}
    (h : ∀ e, s.entry i = some e → e.Step (s.chan e.chan).meter.total (f e)) : Writes [.figures] s (s.modEntry i f) := by
  cases he : s.entry i with
  | none =>
    have hself : s.modEntry i f = s := by
      rw [State.modEntry, he, Option.map_none, ← he, setEntry_self]
    rw [hself]; exact .refl s
  | some e =>
    rw [State.modEntry, he]
    exact (Write.entry i e (f e) s he (h e he)).writes

theorem Entry.Step.of_same {n : Nat} {e f : Entry} (hl : e.state.terminal = false) (hc : f.chan = e.chan) (ht : f.tank = e.tank)
    (hm : f.mode = e.mode) (hd : f.delivered = e.delivered) (hs : f.state = e.state) (hb : f.baseline = e.baseline)
    (hg : f.stage = e.stage) : e.Step n f where
  live := hl
  chan := hc
  tank := ht
  mode := hm
  delivered := hd
  state := .inl hs
  baseline := .inl hb
  stage a ha := ⟨a, hg.trans ha, le_rfl⟩

theorem Entry.Step.terminal {n : Nat} {e f : Entry} (h : e.Step n f) : f.state.terminal = false := by
  rcases h.state with hs | hs
  · rw [hs, h.live]
  · exact hs.2.2

theorem entry_of_item {s t : State} {p : Part} (hw : Write p s t) (h1 : p.item ≠ .plan) (h2 : p.item ≠ .many) : t.entry = s.entry :=
  (hw.writes (P := [p]) (by simp)).entry_eq (by simpa using ⟨h1, h2⟩)

/-- Figures written and items but the plan leave a slot without a terminal entry so. -/
theorem Writes.live {P : List Part} {s t : State} (h : Writes P s t) {i : EntryId} (hl : s.Live i)
    (hP : ∀ p ∈ P, p = .figures ∨ p.item ≠ .plan ∧ p.item ≠ .many := by decide) : t.Live i := by
  refine h.keeps (I := fun u => u.Live i) (fun p hp s t hw hl => ?_) hl
  rcases hP p hp with rfl | ⟨h1, h2⟩
  · cases hw with
    | entry j e f s he hstep =>
      intro g hg
      rw [entry_setEntry] at hg
      split at hg
      · cases hg; exact hstep.terminal
      · exact hl g hg
  · intro g hg
    exact hl g (by rw [← hg, entry_of_item hw h1 h2])

/-! SUPPORT. Each shared operation as a sequence of writes: closes, ends, stops, shutdowns, evaluations and starts. -/


/-! ### Closing (R81, R82) -/

theorem closeValve_writes (c s) : Writes [.chans, .notices] s (closeValve c s) := by
  unfold closeValve; split
  · exact updateChan_writes (Channel.step_closing _ _ (by decide) (by decide))
  · exact updateChan_writes (Channel.step_closing _ _ (by decide) (by decide))
  · exact moveChan_writes (Channel.step_closing _ _ (by decide) (by decide))
  all_goals exact .refl s

/-- The kinds of a close: the channel, the calling set it leaves and the regrant. -/
abbrev closeParts : List Part := [.chans, .notices, .header, .grants, .evals]

/-- A channel's own part with its leaving of the calling set and the regrant (R81, R84). -/
theorem leaveCallers_writes {s u : State} (h : Writes [.chans, .notices] s u) (b z : Bool) :
    Writes closeParts s (regrant z (if b then headerUncall u else u)) := by
  cases b with
  | true => exact h.then ((headerUncall_writes u).then (regrant_writes z _) (R := closeParts))
  | false => exact h.then (regrant_writes z u)

theorem closeChannel_writes (c s) : Writes closeParts s (closeChannel c s) := by
  unfold closeChannel; simp only; split
  · exact leaveCallers_writes (closeValve_writes c s) _ _
  · exact .refl s

/-! ### End pending (R10, R69) -/

theorem clearSlug_writes {i : EntryId} {s : State} (hl : s.Live i) : Writes [.figures, .chans, .notices] s (clearSlug i s) := by
  have hslug : Writes [.figures] s (s.modEntry i fun e => { e with slug := some { phase := .idle, size := none, base := none } }) :=
    modEntry_writes fun e he => .of_same (hl e he) rfl rfl rfl rfl rfl rfl rfl
  unfold clearSlug; split
  · split
    · simp only; split
      · exact hslug.then (removeHolds_writes _ _)
      · exact hslug.mono
    · exact .refl s
  · exact .refl s

/-- The kinds of an end set: the entry and its channel's SETTLING. -/
abbrev markParts : List Part := [.figures, .chans, .notices]

theorem markEnd_writes (i r s) : Writes markParts s (markEnd i r s) := by
  unfold markEnd; split
  case h_1 e he =>
    split
    case isTrue hc =>
      have hl : s.Live i := .of_entry he (by
        simp only [Bool.and_eq_true, Bool.or_eq_true, beq_iff_eq] at hc
        rcases hc.2 with h | h <;> rw [h] <;> rfl)
      have hend : Writes [.figures] s (s.modEntry i fun e => { e with endPending := some r }) :=
        modEntry_writes fun e he => .of_same (hl e he) rfl rfl rfl rfl rfl rfl rfl
      have hset := hend.then (noteEntry_writes .endPending i _) (R := [.figures, .notices])
      exact hset.then (clearSlug_writes (hset.live hl))
    case isFalse => exact .refl s
  case h_2 => exact .refl s

theorem step_unauthorise (k : Channel) : k.Step { k with authorised := false } :=
  { Channel.Moves.of_same (k := k) (l := { k with authorised := false }) rfl rfl rfl rfl with
    shut := id, auth := fun _ => rfl, inputs := rfl, counts := rfl, lastStop := rfl, pauses := .refl _ }

theorem setAuth_false_writes (c s) : Writes [.chans, .notices] s (setAuth c false s) := by
  unfold setAuth; split
  · exact .refl s
  · exact (modChan_writes (step_unauthorise _)).then (noteChan_writes ..)

/-- The kinds of an entry's leaving ACTIVE. -/
abbrev leaveParts : List Part := [.chans, .tanks, .trip, .notices]

theorem leaveActive_writes (c t s) : Writes leaveParts s (leaveActive c t s) :=
  ((setHighSoon_writes c false s).then (setUnmetered_writes c t false _) (R := leaveParts)).then
    ((modTank_writes (.of_same rfl rfl rfl rfl rfl)).then (removeHolds_writes c _) (R := leaveParts))

/-- The kinds of an end applied: what is kept by them only together is the current entry's state (`finish`, then `promote`). -/
abbrev applyParts : List Part :=
  [.finish, .promote, .chans, .tanks, .trip, .header, .grants, .evals, .ended, .notices]

theorem promote_writes (c s) : Writes [.promote] s (promote c s).1 := (Write.promote c s).writes

theorem finish_writes {i : EntryId} {e : Entry} {s : State} (r : EndReason) (he : s.entry i = some e) (hl : e.state.terminal = false) :
    Writes [.finish] s (s.modEntry i fun e => e.finish r s.now) := by
  rw [State.modEntry, he]; exact (Write.finish i r e s he hl).writes

/-- What follows step 1 of R14, from the state `s2` in which the entry has left ACTIVE. -/
def afterFinish (c : Chan) (i : EntryId) (r : EndReason) (delivered : Nat) (s2 : State) : State :=
  let next := promote c s2
  let s3 := if terminalState r delivered = .cancelled then next.1 else rotate c next.1
  let s4 := setEnded c (regrant false s3)
  let s5 := if (s4.current c).isNone then setAuth c false s4 else s4
  let s6 := noteEntry .state i s5
  match next.2 with
  | some j => noteEntry .state j s6
  | none => s6

theorem applyEnd_eq {c : Chan} {i : EntryId} {e : Entry} {r : EndReason} {s : State} (he : s.entry i = some e)
    (hr : e.endPending = some r) : applyEnd c i s = afterFinish c i r e.delivered
      (if e.state = .active then leaveActive c e.tank (s.modEntry i fun e => e.finish r s.now)
        else s.modEntry i fun e => e.finish r s.now) := by
  simp only [applyEnd, he, hr]; rfl

/-- What follows the next entry's promotion. -/
theorem afterPromote_writes (c i r n s) :
    Writes [.chans, .header, .grants, .evals, .ended, .notices] (promote c s).1 (afterFinish c i r n s) := by
  have hrotate (u : State) : Writes [.header, .notices] u (if terminalState r n = .cancelled then u else rotate c u) :=
    Writes.ite (.refl u) (rotate_writes ..)
  have hauth (u : State) : Writes [.chans, .notices] u (if (u.current c).isNone then setAuth c false u else u) :=
    Writes.ite (setAuth_false_writes ..) (.refl u)
  have htold (o : Option EntryId) (u : State) :
      Writes [.notices] u (match o with | some j => noteEntry .state j u | none => u) := by
    cases o with
    | some j => exact noteEntry_writes ..
    | none => exact .refl u
  have hend (u : State) : Writes [.ended] u (setEnded c u) := (Write.ended c u).writes
  exact (hrotate _).then ((regrant_writes false _).then ((hend _).then ((hauth _).then
    ((noteEntry_writes .state i _).then (htold (promote c s).2 _) (R := [.notices]))
    (R := [.chans, .notices])) (R := [.ended, .chans, .notices])) (R := [.grants, .evals, .ended, .chans, .notices]))

theorem afterFinish_writes (c i r n s) :
    Writes [.promote, .chans, .header, .grants, .evals, .ended, .notices] s (afterFinish c i r n s) :=
  (promote_writes c s).then (afterPromote_writes c i r n s)

theorem applyEnd_writes {c : Chan} {i : EntryId} {e : Entry} {s : State} (he : s.entry i = some e) (hl : e.state.terminal = false) :
    Writes applyParts s (applyEnd c i s) := by
  cases hr : e.endPending with
  | none => simp only [applyEnd, he, hr]; exact .refl s
  | some r =>
    rw [applyEnd_eq he hr]
    refine Writes.then (P := [.finish, .chans, .tanks, .trip, .notices]) ?_ (afterFinish_writes ..)
    split
    · exact (finish_writes r he hl).then (leaveActive_writes ..)
    · exact (finish_writes r he hl).mono

theorem settleEnd_writes (c s) : Writes applyParts s (settleEnd c s) := by
  unfold settleEnd; split
  case h_1 i e hc =>
    obtain ⟨he, -, hl⟩ := current_live hc
    split
    · exact applyEnd_writes he hl
    · exact .refl s
  case h_2 => exact .refl s

theorem ending_writes (c s) : Writes [.ending] s (settleEnd c s) := (Write.ending c s).writes

theorem settleSet_writes (b c s) : Writes [.ending] s (settleSet b c s) := by
  unfold settleSet; split
  · exact .refl s
  · exact ending_writes c s

/-- The kinds of an end cause: the end set, the close and the end applied. -/
abbrev endParts : List Part := [.figures, .chans, .header, .grants, .evals, .ending, .notices]

theorem endCurrent_writes (c i r s) : Writes endParts s (endCurrent c i r s) := by
  unfold endCurrent; split
  case h_1 e he =>
    split
    · exact .refl s
    · refine ((markEnd_writes i r s).then (Q := [.chans, .header, .grants, .evals, .ending, .notices]) ?_)
      refine Writes.then (P := closeParts) ?_ (ending_writes ..)
      split
      · exact closeChannel_writes ..
      · exact .refl _
  case h_2 => exact .refl s

/-- The kinds of an entry's return to AWAIT. -/
abbrev returnParts : List Part := [.figures, .chans, .tanks, .trip, .notices]

theorem returnToAwait_writes (c s) : Writes returnParts s (returnToAwait c s) := by
  unfold returnToAwait; split
  case h_1 i e hc =>
    obtain ⟨he, -, ha⟩ := activeEntry_live hc
    have hawait : Writes [.figures] s (s.modEntry i fun e => { e with state := .await }) := by
      refine modEntry_writes fun f hf => ?_
      rw [he] at hf; cases hf
      exact { live := by rw [ha]; rfl, chan := rfl, tank := rfl, mode := rfl, delivered := rfl
              state := .inr ⟨by simp [ha], by simp, rfl⟩, baseline := .inl rfl, stage := fun a hg => ⟨a, hg, le_rfl⟩ }
    have hl := hawait.live (.of_entry he (by rw [ha]; rfl))
    exact (hawait.then (clearSlug_writes hl) (R := markParts)).then
      ((leaveActive_writes ..).then (noteEntry_writes ..) (R := leaveParts))
  case h_2 => exact .refl s

/-! ### Withdrawal, the trip record and shutdowns (R140, R148, R152, R153) -/

theorem withdrawWhere_writes (p k s) : Writes [.withdrawals, .notices] s (withdrawWhere p k s) :=
  ((Write.withdraw (fun q => !p q) s).writes (P := [.withdrawals])).then
    (Writes.foldl (P := [.notices]) (fun x q => noteProposal_writes (.withdrawn k) q x) _ _)

/-- The record holds a cause already, whatever its origin (R153). -/
def Trip.records (t : Trip) (k : ShutdownCause) : Bool :=
  match t.firstOut with
  | some f => f.cause == k || t.later.any fun x => x.cause == k
  | none => t.later.any fun x => x.cause == k

theorem Trip.offer_eq (t : Trip) (e : CauseEntry) : t.offer e =
    if t.records e.cause then (t, .held)
    else if t.firstOut.isNone then ({ t with firstOut := some e }, .added)
    else if t.later.length < 7 then ({ t with later := t.later ++ [e] }, .added)
    else ({ t with more := true }, .more) := rfl

/-- What R153 makes of the record: nothing, a first-out, a later cause, or the mark that there were more. -/
theorem Trip.offer_cases (t : Trip) (e : CauseEntry) :
    (t.records e.cause = true ∧ (t.offer e).1 = t) ∨ (t.firstOut = none ∧ (t.offer e).1 = { t with firstOut := some e })
      ∨ (t.firstOut ≠ none ∧ t.later.length < 7 ∧ (t.offer e).1 = { t with later := t.later ++ [e] })
      ∨ (t.firstOut ≠ none ∧ (t.offer e).1 = { t with more := true }) := by
  rw [Trip.offer_eq]
  split
  case isTrue h => exact .inl ⟨h, rfl⟩
  case isFalse =>
    split
    case isTrue h => exact .inr (.inl ⟨Option.isNone_iff_eq_none.mp h, rfl⟩)
    case isFalse h =>
      rw [Option.isNone_iff_eq_none] at h
      split
      case isTrue h7 => exact .inr (.inr (.inl ⟨h, h7, rfl⟩))
      case isFalse => exact .inr (.inr (.inr ⟨h, rfl⟩))

theorem Trip.Grows.trans {t x y : Trip} (h : t.Grows x) (g : x.Grows y) : t.Grows y where
  firstOut e he := by
    obtain ⟨h1, h2⟩ := h.firstOut e he
    obtain ⟨g1, g2⟩ := g.firstOut e h1
    exact ⟨g1, h2.trans g2⟩
  room hr := g.room (h.room hr)
  more hm := g.more (h.more hm)
  normal hn := g.normal (h.normal hn)

theorem Trip.Takes.trans {t x y : Trip} (h : t.Takes x) (g : x.Takes y) : t.Takes y :=
  ⟨h.toGrows.trans g.toGrows, g.cautions.trans h.cautions, g.loopB.trans h.loopB, g.loopS.trans h.loopS⟩

/-- A record as it was, with the part not NORMAL again. -/
theorem Trip.Grows.of_same {t x : Trip} (hf : x.firstOut = t.firstOut) (hl : x.later = t.later) (hm : x.more = t.more)
    (hn : t.state ≠ .normal → x.state ≠ .normal) : t.Grows x :=
  ⟨fun e he => ⟨hf.trans he, by rw [hl]⟩, fun h => by rw [hl]; exact h, fun h => hm.trans h, hn⟩

theorem Trip.takes_offer (t : Trip) (e : CauseEntry) : t.Takes (t.offer e).1 := by
  rcases t.offer_cases e with ⟨_, h⟩ | ⟨hn, h⟩ | ⟨_, h7, h⟩ | ⟨_, h⟩ <;> rw [h]
  · exact ⟨.of_same rfl rfl rfl id, rfl, rfl, rfl⟩
  · exact ⟨⟨fun e he => absurd he (by rw [hn]; simp), id, id, id⟩, rfl, rfl, rfl⟩
  · exact ⟨⟨fun e he => ⟨he, List.prefix_append ..⟩, fun _ => by simp; omega, id, id⟩, rfl, rfl, rfl⟩
  · exact ⟨⟨fun e he => ⟨he, List.prefix_rfl⟩, id, fun _ => rfl, id⟩, rfl, rfl, rfl⟩

theorem Trip.mark_eq (t : Trip) (k : ShutdownCause) : t.mark k = { t with unproven := (t.mark k).unproven } := by
  cases k <;> rfl

theorem Trip.takes_mark (t : Trip) (k : ShutdownCause) : t.Takes (t.mark k) := by
  rw [Trip.mark_eq]
  exact ⟨.of_same rfl rfl rfl id, rfl, rfl, rfl⟩

theorem judgeSettled_writes (s) : Writes [.settle, .notices] s (judgeSettled s) := by
  unfold judgeSettled; split
  case isTrue h => exact ((Write.settle s h.1).writes (P := [.settle])).then (noteTrip_writes ..)
  case isFalse => exact .refl s

theorem shutChannel_writes (c s) : Writes returnParts s (shutChannel c s) :=
  ((closeValve_writes c s).then (setAuth_false_writes c _) (R := [.chans, .notices])).then (returnToAwait_writes ..)

theorem tripHeader_writes (s) : Writes [.zero, .headTrip, .notices] s (tripHeader s) := by
  have hzero : Writes [.zero] s (chans.foldl (fun x c => x.modChan c fun k => { k with grant := 0 }) s) :=
    Writes.foldl (fun x c => (Write.zero c x).writes) _ _
  have hhead (u : State) : Writes [.headTrip, .notices] u (changeHeader (fun h =>
      { h with state := .tripped, returnState := none, primeTimer := none, waitTimer := none }) u) := by
    unfold changeHeader; simp only; split
    · exact (Write.headTrip u).writes
    · exact ((Write.headTrip u).writes (P := [.headTrip])).then (noteHeader_writes ..)
  have htold (z : Bool) (u : State) : Writes [.notices] u (if z then noteHeader .grants u else u) := by
    split
    · exact noteHeader_writes ..
    · exact .refl u
  exact hzero.then ((hhead _).then (htold _ _) (R := [.headTrip, .notices]))

/-- The kinds of a shutdown: what is kept by them only together is written by `trips`, `zero` and `headTrip`. -/
abbrev shutParts : List Part :=
  [.trips, .zero, .headTrip, .figures, .chans, .tanks, .trip, .settle, .grants, .evals, .withdrawals, .notices]

theorem shutdownEffects_writes (e f b s) : Writes shutParts s (shutdownEffects e f b s) := by
  have hshut (u : State) : Writes returnParts u (chans.foldl (fun x c => shutChannel c x) u) :=
    Writes.foldl (fun x c => shutChannel_writes c x) _ _
  have htold (u : State) : Writes [.notices] u (if b then noteTrip .state u else u) := by
    split
    · exact noteTrip_writes ..
    · exact .refl u
  unfold shutdownEffects
  exact (tripHeader_writes s).then ((hshut _).then ((regrant_writes ..).then ((withdrawWhere_writes ..).then
    ((judgeHorn_writes ..).then ((raise_writes ..).then ((htold _).then (judgeSettled_writes _)
    (R := [.settle, .notices])) (R := [.settle, .notices])) (R := [.trip, .settle, .notices]))
    (R := [.withdrawals, .trip, .settle, .notices])) (R := [.grants, .evals, .withdrawals, .trip, .settle, .notices]))
    (R := shutParts))

theorem modTrip_takes_writes {f : Trip → Trip} {s : State} (h : s.trip.Takes (f s.trip)) : Writes [.trips] s (s.modTrip f) :=
  (Write.trips _ s h).writes

theorem Trip.takes_cause (t : Trip) (e : CauseEntry) (k : ShutdownCause) : t.Takes ((t.offer e).1.mark k) :=
  (t.takes_offer e).trans (Trip.takes_mark _ k)

theorem shutdownTripped_writes (k o s) : Writes shutParts s (shutdownTripped k o s) :=
  (modTrip_takes_writes (Trip.takes_cause ..)).then (shutdownEffects_writes ..)

theorem unprovenAtTrip_writes (c s) : Writes shutParts s (unprovenAtTrip c s) := by
  unfold unprovenAtTrip; split
  · exact shutdownTripped_writes ..
  · exact .refl s

theorem shutdown_writes (k o s) : Writes shutParts s (shutdown k o s) := by
  have htripping (u : State) : Writes [.trips] u (u.modTrip fun t => { t with state := .tripping }) :=
    modTrip_takes_writes ⟨.of_same rfl rfl rfl fun _ => by simp, rfl, rfl, rfl⟩
  have hfold (u : State) : Writes shutParts u (chans.foldl (fun x c => unprovenAtTrip c x) u) :=
    Writes.foldl (fun x c => unprovenAtTrip_writes c x) _ _
  have hcause := modTrip_takes_writes (s := s) (f := fun _ =>
    (s.trip.offer { cause := k, origin := o, stamp := s.now }).1.mark k) (Trip.takes_cause ..)
  unfold shutdown; simp only; split
  · exact hcause.then ((htripping _).then ((hfold _).then (shutdownEffects_writes ..) (R := shutParts)) (R := shutParts))
  · exact hcause.then (shutdownEffects_writes ..)

theorem shut_writes (k o s) : Writes [.shutdown] s (shutdown k o s) := (Write.shutdown k o s).writes

/-! ### Channel stops and valve faults (R84, R89) -/

theorem goFault_writes (c s) : Writes closeParts s (goFault c s) :=
  leaveCallers_writes (moveChan_writes (Channel.step_faulted _)) _ _

/-- The kinds of a channel stop. -/
abbrev stopParts : List Part :=
  [.stops, .figures, .chans, .tanks, .trip, .header, .grants, .evals, .withdrawals, .ending, .notices]

theorem channelStop_writes (k o t c s) : Writes stopParts s (channelStop k o t c s) := by
  have hstop (x : LastStop) : Writes [.stops] s (s.modChan c fun k => { k with lastStop := some x }) := (Write.stops c (some x) s).writes
  have hvalve (u : State) : Writes closeParts u (if k = .valveStuck then goFault c u else closeChannel c u) := by
    split
    · exact goFault_writes ..
    · exact closeChannel_writes ..
  have hentry (u : State) : Writes stopParts u (if k = .levelHi then
      match u.current c with
      | some (i, _) => endCurrent c i .levelHi u
      | none => u
    else returnToAwait c u) := by
    split
    · split
      · exact (endCurrent_writes ..).mono
      · exact .refl u
    · exact (returnToAwait_writes ..).mono
  unfold channelStop
  exact (hstop _).then ((hvalve _).then ((setAuth_false_writes ..).then ((withdrawWhere_writes ..).then ((hentry _).then
    ((judgeHorn_writes ..).then (noteChan_writes ..) (R := [.trip, .notices])) (R := stopParts))
    (R := stopParts)) (R := stopParts)) (R := stopParts))

/-- The kinds of a valve fault: a channel stop, or with the part TRIPPING a shutdown. -/
abbrev faultParts : List Part := .shutdown :: stopParts

theorem valveFault_writes (c s) : Writes faultParts s (valveFault c s) := by
  unfold valveFault; split
  · exact .refl s
  · split
    · exact (shut_writes ..).then (goFault_writes ..)
    · exact (channelStop_writes ..).mono

/-! ### Evaluations (R54) -/

theorem setAbove_writes (t v s) : Writes [.tanks, .notices] s (setAbove t v s) := by
  unfold setAbove; split
  · exact .refl s
  · exact (modTank_writes (.of_same rfl rfl rfl rfl rfl)).then (noteTank_writes ..)

theorem judgeAbove_writes (t s) : Writes [.tanks, .notices] s (judgeAbove t s) := by
  unfold judgeAbove; split
  · exact setAbove_writes ..
  · exact .refl s

theorem Stage.rank_le_final (a : Stage) : a.rank ≤ Stage.final.rank := by cases a <;> decide

theorem Stage.rank_le_lower (a b : Stage) : a.rank ≤ (a.lower b).rank ∧ b.rank ≤ (a.lower b).rank := by
  cases a <;> cases b <;> decide

theorem stage_writes {i : EntryId} {st : Stage} {s : State} (hl : s.Live i)
    (hg : ∀ e a, s.entry i = some e → e.stage = some a → a.rank ≤ st.rank) :
    Writes [.figures] s (s.modEntry i fun e => { e with stage := some st }) :=
  modEntry_writes fun e he =>
    { live := hl e he, chan := rfl, tank := rfl, mode := rfl, delivered := rfl, state := .inl rfl, baseline := .inl rfl
      stage := fun a ha => ⟨st, rfl, hg e a he ha⟩ }

theorem lowerStage_writes {i : EntryId} {st : Stage} {s : State} (hl : s.Live i)
    (hg : ∀ e a, s.entry i = some e → e.stage = some a → a.rank ≤ st.rank) :
    Writes [.figures, .notices] s (lowerStage i st s) := (stage_writes hl hg).then (noteEntry_writes ..)

/-- The kinds of a stage's fall with its effects: the entry, its close and its end set. -/
abbrev stageParts : List Part := [.figures, .chans, .header, .grants, .evals, .notices]

theorem finalStage_writes {c : Chan} {i : EntryId} {s : State} (hl : s.Live i) : Writes stageParts s (finalStage c i s) :=
  have hmark := markEnd_writes i .levelFinal s
  hmark.then ((clearSlug_writes (hmark.live hl)).then (closeChannel_writes ..) (R := stageParts))

theorem sizeSlug_writes {c : Chan} {i : EntryId} {v : Nat} {m : Int} {s : State} (hl : s.Live i) :
    Writes stageParts s (sizeSlug c i v m s) := by
  have hlow := lowerStage_writes (st := .final) hl fun _ a _ _ => a.rank_le_final
  have hslug (f : Entry → SlugRecord) : Writes [.figures] s (s.modEntry i fun e => { e with slug := some (f e) }) :=
    modEntry_writes fun e he => .of_same (hl e he) rfl rfl rfl rfl rfl rfl rfl
  unfold sizeSlug; split
  · refine Writes.ite (Writes.ite ?_ ?_) (.refl s)
    · exact (hslug fun e => { phase := .delivering, size := some (slugSize v m), base := some e.delivered }).mono
    · exact hlow.then (finalStage_writes (hlow.live hl))
  · exact .refl s

theorem applyStage_writes {k : EvalKind} {c : Chan} {i : EntryId} {h : LevelHalf} {d : TankDecl} {s : State} (hl : s.Live i) :
    Writes stageParts s (applyStage k c i h d s) := by
  unfold applyStage; split
  case h_2 => exact .refl s
  case h_1 e he =>
    simp only
    split
    case h_1 hnone =>
      have hset : Writes [.figures] s (s.modEntry i fun e => { e with stage := some h.computed }) :=
        stage_writes hl fun f a hf ha => by rw [he] at hf; cases hf; rw [hnone] at ha; cases ha
      have hl1 := hset.live hl
      repeat' split
      · exact hset.then (finalStage_writes hl1)
      · exact hset.then (sizeSlug_writes hl1)
      · exact hset.mono
    case h_2 held hheld =>
      have hfall (b : Bool) : Writes [.figures, .notices] s (if b then lowerStage i (held.lower h.computed) s else s) := by
        split
        · refine lowerStage_writes hl fun f a hf ha => ?_
          rw [he] at hf; cases hf
          rw [hheld] at ha; cases ha
          exact (Stage.rank_le_lower held h.computed).1
        · exact .refl s
      have hcap (b b' : Bool) (u : State) (hu : Writes [.figures, .notices] s u) :
          Writes [.figures, .grants, .evals, .notices] s (if b && b' then regrant false u else u) := by
        split
        · exact hu.then (regrant_writes ..)
        · exact hu.mono
      split
      · split
        · exact (hfall _).then (finalStage_writes ((hfall _).live hl))
        · exact (hfall _).mono
      · have h2 := hcap (decide (held.lower h.computed ≠ held))
          (stageCap d.toppingRate (some held) != stageCap d.toppingRate (some (held.lower h.computed))) _
          (hfall (decide (held.lower h.computed ≠ held)))
        split
        · exact h2.then (sizeSlug_writes (h2.live hl))
        · exact h2.mono

theorem endSettling_writes {c : Chan} {i : EntryId} {v : Nat} {m : Int} {s : State} (hl : s.Live i) :
    Writes stageParts s (endSettling c i v m s) := by
  unfold endSettling; split
  · split
    · exact .refl s
    · have hslug := clearSlug_writes hl
      exact hslug.then ((sizeSlug_writes (hslug.live hl)).then (regrant_writes ..) (R := stageParts))
  · exact .refl s

theorem meterHalf_writes (c i a s) : Writes stageParts s (meterHalf c i a s) := by
  unfold meterHalf; split
  · split
    · exact (markEnd_writes ..).then (closeChannel_writes ..)
    · exact .refl s
  · exact .refl s

theorem writeMargin_writes {i : EntryId} {q a : Nat} {h : Option LevelHalf} {s : State} (hl : s.Live i) :
    Writes [.figures] s (writeMargin i q a h s) :=
  modEntry_writes fun e he => .of_same (hl e he) rfl rfl rfl rfl rfl rfl rfl

/-- The kinds of an evaluation but for the end it may apply. -/
abbrev judgeParts : List Part := [.figures, .chans, .tanks, .trip, .header, .grants, .evals, .notices]

/-- The kinds of an evaluation. -/
abbrev evalParts : List Part := .ending :: judgeParts

/-- Steps 2 to 4 of R54, where the level half ran. -/
def levelEffects (kind : EvalKind) (c : Chan) (i : EntryId) (t : TankNo) (h : LevelHalf) (d : TankDecl) (s : State) : State :=
  let s2 := applyStage kind c i h d (setHighSoon c h.t.soon (judgeAbove t s))
  if kind = .settlingEnd then endSettling c i d.slugVolume h.m s2 else s2

theorem levelEffects_writes {k : EvalKind} {c : Chan} {i : EntryId} {t : TankNo} {h : LevelHalf} {d : TankDecl} {s : State}
    (hl : s.Live i) : Writes judgeParts s (levelEffects k c i t h d s) := by
  have hfig : Writes [.chans, .tanks, .trip, .notices] s (setHighSoon c h.t.soon (judgeAbove t s)) :=
    (judgeAbove_writes ..).then (setHighSoon_writes ..)
  have hstage := hfig.then (applyStage_writes (k := k) (c := c) (h := h) (d := d) (hfig.live hl)) (R := judgeParts)
  unfold levelEffects; simp only; split
  · exact hstage.then (endSettling_writes (hstage.live hl))
  · exact hstage

/-- The level half's figures where it runs and the tank gives them (R53, R54 step 2). -/
def State.evalHalf (s : State) (c : Chan) (e : Entry) (kind : EvalKind) : Option LevelHalf :=
  let aClose := closureAllowance (s.marginRate c e kind) (s.chanConfig c).strokeTime
  if s.levelHalfRuns e kind then (s.tank e.tank).levelHalf (s.marginRate c e kind) aClose (s.chanConfig c).hoseDrain else none

/-- Steps 2 to 4 of R54. -/
def levelSteps (kind : EvalKind) (c : Chan) (i : EntryId) (e : Entry) (s : State) : State :=
  match s.evalHalf c e kind, (s.tank e.tank).decl with
  | some h, some d => levelEffects kind c i e.tank h d s
  | _, _ => s

/-- Steps 2 to 6 of R54: an evaluation but for the end it may apply. -/
def judgeMargin (kind : EvalKind) (c : Chan) (i : EntryId) (e : Entry) (s : State) : State :=
  let q := s.marginRate c e kind
  let aClose := closureAllowance q (s.chanConfig c).strokeTime
  writeMargin i q aClose (s.evalHalf c e kind) (meterHalf c i aClose (levelSteps kind c i e s))

theorem evaluate_eq {k : EvalKind} {c : Chan} {i : EntryId} {e : Entry} {s : State} (h : s.activeEntry c = some (i, e)) :
    evaluate k c s = settleSet e.endPending c (judgeMargin k c i e s) := by
  simp only [evaluate, h]; rfl

theorem evaluate_none {k : EvalKind} {c : Chan} {s : State} (h : s.activeEntry c = none) : evaluate k c s = s := by
  simp only [evaluate, h]

theorem judgeMargin_writes {k : EvalKind} {c : Chan} {i : EntryId} {e : Entry} {s : State} (hl : s.Live i) :
    Writes judgeParts s (judgeMargin k c i e s) := by
  have hlevel : Writes judgeParts s (levelSteps k c i e s) := by
    unfold levelSteps; split
    · exact levelEffects_writes hl
    · exact .refl s
  have hmeter (a : Nat) := hlevel.then (meterHalf_writes c i a _) (R := judgeParts)
  exact (hmeter _).then (writeMargin_writes ((hmeter _).live hl))

theorem evaluate_writes (k c s) : Writes evalParts s (evaluate k c s) := by
  cases h : s.activeEntry c with
  | none => rw [evaluate_none h]; exact .refl s
  | some p =>
    obtain ⟨i, e⟩ := p
    obtain ⟨he, -, ha⟩ := activeEntry_live h
    rw [evaluate_eq h]
    exact (judgeMargin_writes (.of_entry he (by rw [ha]; rfl))).then (settleSet_writes ..)

theorem runEvals_writes (n s) : Writes evalParts s (runEvals n s) := by
  induction n generalizing s with
  | zero => exact .refl s
  | succ n ih =>
    unfold runEvals; split
    · exact .refl s
    case h_2 c rest _ =>
      exact ((Write.evals rest s).writes (P := [.evals])).then ((evaluate_writes ..).then (ih _) (R := evalParts))

/-! SUPPORT. Starts, readings and pulses as sequences of writes. -/


/-! ### Starts (R78, R79) -/

/-- No write but an opening or an addition to the kinds commands an untouched valve open (R147). -/
theorem Writes.shut {P : List Part} {s t : State} (h : Writes P s t) {c : Chan} (hs : (s.chan c).state.command = .toClose)
    (hP : ∀ p ∈ P, p = .chans ∨ p = .grants ∨ p.item ≠ .channels ∧ p.item ≠ .many := by decide) :
    (t.chan c).state.command = .toClose := by
  refine h.keeps (I := fun u => (u.chan c).state.command = .toClose) (fun p hp s t hw hs => ?_) hs
  rcases hP p hp with rfl | rfl | ⟨h1, h2⟩
  · cases hw with
    | chan d k s hk =>
      simp only [chan_setChan]
      split
      case isTrue hd => rw [← hd] at hs; exact hk.shut hs
      case isFalse => exact hs
  · cases hw
    rw [chan_giveAll, Channel.granted_command, hs]
  · rw [(hw.writes (P := [p]) (by simp)).chan_eq (by simpa using ⟨h1, h2⟩), hs]

theorem Trip.Step.refl (t : Trip) : t.Step t := ⟨⟨rfl, rfl, rfl, rfl, rfl, rfl⟩, rfl, Iff.rfl⟩

theorem Trip.Step.trans {t x y : Trip} (h : t.Step x) (g : x.Step y) : t.Step y where
  firstOut := g.firstOut.trans h.firstOut
  later := g.later.trans h.later
  more := g.more.trans h.more
  unproven := g.unproven.trans h.unproven
  loopB := g.loopB.trans h.loopB
  loopS := g.loopS.trans h.loopS
  state := g.state.trans h.state
  defaults := g.defaults.trans h.defaults

/-- The record, the trip state and CONFIG_DEFAULTS stay through writes of these kinds. -/
theorem Writes.trip_step {P : List Part} {s t : State} (h : Writes P s t)
    (hP : ∀ p ∈ P, p = .trip ∨ p.item ≠ .trip ∧ p.item ≠ .many := by decide) : s.trip.Step t.trip := by
  refine h.keeps (I := fun u => s.trip.Step u.trip) (fun p hp _ _ hw hs => ?_) (.refl _)
  rcases hP p hp with rfl | ⟨h1, h2⟩
  · cases hw with
    | trip x s hx _ => exact hs.trans hx
  · rw [(hw.writes (P := [p]) (by simp)).trip_eq (by simpa using ⟨h1, h2⟩)]; exact hs

/-- The trip state is NORMAL after writes of these kinds just where it was (R147). -/
theorem Writes.normal_iff {P : List Part} {s t : State} (h : Writes P s t)
    (hP : ∀ p ∈ P, p = .trip ∨ p.item ≠ .trip ∧ p.item ≠ .many := by decide) :
    t.trip.state = .normal ↔ s.trip.state = .normal := by rw [(h.trip_step hP).state]

/-- An end applied within an evaluation, its inner writes said. -/
theorem evaluate_innerWrites (k c s) : Writes (applyParts ++ judgeParts) s (evaluate k c s) := by
  cases h : s.activeEntry c with
  | none => rw [evaluate_none h]; exact .refl s
  | some p =>
    obtain ⟨i, e⟩ := p
    obtain ⟨he, -, ha⟩ := activeEntry_live h
    rw [evaluate_eq h]
    refine (judgeMargin_writes (k := k) (c := c) (e := e) (.of_entry he (by rw [ha]; rfl))).then (Q := applyParts) ?_
    exact Writes.ite (.refl _) (settleEnd_writes ..)

theorem activated_writes {i : EntryId} {e : Entry} {s : State} (he : s.entry i = some e) (ha : e.state = .await) :
    Writes [.figures] s (s.modEntry i fun e => e.activated s) := by
  refine modEntry_writes fun f hf => ?_
  rw [he] at hf; cases hf
  refine { live := by rw [ha]; rfl, chan := rfl, tank := rfl, mode := rfl, delivered := rfl
           state := .inr ⟨by simp [ha], by simp [Entry.activated], rfl⟩, baseline := ?_, stage := fun a hg => ⟨a, hg, le_rfl⟩ }
  cases hb : e.baseline with
  | none => exact .inr ⟨by simp [ha], rfl, (s.chanConfig e.chan).kFactor, by simp [Entry.activated, hb]⟩
  | some b => exact .inl (by simp [Entry.activated, hb])

theorem Channel.Moves.of_still {k l : Channel} (hk : k.state ≠ .flowing) (hc : l.command = l.state.command)
    (hs : l.state ≠ .flowing ∧ l.state ≠ .held) (hg : l.grant = k.grant) : k.Moves l where
  command _ := hc
  flows h := Channel.flowsByGrant_of_resting hs (hg.trans (((Channel.flowsByGrant_iff _).mp h).2.1 hk))
  grant := hg.le

theorem ne_flowing_of_shut {x : ChState} (h : x.command = .toClose) : x ≠ .flowing := by rintro rfl; cases h

theorem openValve_writes {c : Chan} {s : State} (hn : s.trip.state = .normal) (hs : (s.chan c).state.command = .toClose) :
    Writes [.opens, .notices] s (openValve c s) := by
  have hopen (x y : Nat) : Write .opens s (s.modChan c fun k =>
      { k with state := .opening, command := .toOpen, openingStarted := some x, strokeTimer := some y, hose := .hoseFull }) :=
    .opens c _ s hn (.of_still (ne_flowing_of_shut hs) rfl ⟨by simp, by simp⟩ rfl) ⟨rfl, rfl, rfl⟩ (.refl _) rfl
  have hmove := updateChan_writes_of (P := [.opens, .notices]) (hopen s.now (s.expiry (strokeTimeout (s.chanConfig c).strokeTime)))
  exact Writes.ite (hmove.then (noteChan_writes ..)) hmove

theorem sourceLowHold_writes (c s) : Writes [.chans, .grants, .evals, .notices] s (sourceLowHold c s) :=
  (modChan_writes (.of_same rfl rfl rfl rfl rfl rfl rfl rfl)).then (addHold_writes ..)

/-- The watches that begin as a valve opens (R91, R93). -/
theorem beginWatches_writes (c s) : Writes [.chans, .grants, .evals, .notices] s (beginSourceWatch c (beginPressureWatch c s)) := by
  have hpressure : Writes [.chans] s (beginPressureWatch c s) :=
    Writes.ite (modChan_writes (.of_same rfl rfl rfl rfl rfl rfl rfl rfl)) (.refl s)
  exact hpressure.then (Writes.ite (sourceLowHold_writes ..) (.refl _))

/-- The kinds of a start. -/
abbrev startParts : List Part := [.opens, .ending, .figures, .chans, .tanks, .trip, .header, .grants, .evals, .notices]

/-- The kinds of a command's consequences. -/
abbrev flowParts : List Part :=
  [.opens, .shutdown, .ending, .withdrawals, .stops, .figures, .chans, .tanks, .trip, .header, .grants, .evals, .notices]

theorem takeStart_writes {c : Chan} {i : EntryId} {e : Entry} {s : State} (he : s.entry i = some e) (ha : e.state = .await)
    (hn : s.trip.state = .normal) (hs : (s.chan c).state.command = .toClose) : Writes startParts s (takeStart c i s) := by
  have hact := activated_writes he ha
  have hinner : Writes (applyParts ++ judgeParts) s (activate c i s) := hact.then (evaluate_innerWrites ..)
  have hflow : Writes startParts s (activate c i s) := hact.then (evaluate_writes ..)
  unfold takeStart; simp only; split
  · refine Writes.ite ?_ hflow
    have hnote := noteEntry_writes .state i (activate c i s)
    have hopen := openValve_writes (hnote.normal_iff.mpr (hinner.normal_iff.mpr hn)) (hnote.shut (hinner.shut hs))
    exact hflow.then (hnote.then (hopen.then (beginWatches_writes ..) (R := startParts)) (R := startParts))
  · exact hflow

/-- The conditions of R78 read as facts. -/
theorem canStart_cases {s : State} {c : Chan} (h : s.canStart c = true) : ∃ i e, s.current c = some (i, e) ∧ (s.chan c).state = .idle
    ∧ (s.chan c).authorised = true ∧ e.state = .await ∧ e.lineup = .ready ∧ e.endPending = none
    ∧ (s.tank e.tank).levelState.settled = true ∧ s.trip.state = .normal := by
  unfold State.canStart at h
  split at h
  case h_1 i e hc =>
    simp only [Bool.and_eq_true, beq_iff_eq, Option.isNone_iff_eq_none] at h
    obtain ⟨⟨⟨⟨⟨⟨h1, h2⟩, h3⟩, h4⟩, h5⟩, h6⟩, h7⟩ := h
    exact ⟨i, e, hc, h1, h2, h3, h4, h5, h6, h7⟩
  case h_2 => cases h

theorem judgeStart_of_can {s : State} {c : Chan} {i : EntryId} {e : Entry} (h : s.canStart c = true) (hc : s.current c = some (i, e)) :
    judgeStart c s = takeStart c i s := by
  simp only [judgeStart, h, if_true, (current_eq_some_iff.mp hc).1]

theorem judgeStart_of_cannot {s : State} {c : Chan} (h : s.canStart c = false) : judgeStart c s = s := by
  simp only [judgeStart, h, Bool.false_eq_true, if_false]

theorem judgeStart_writes (c s) : Writes startParts s (judgeStart c s) := by
  cases h : s.canStart c with
  | false => rw [judgeStart_of_cannot h]; exact .refl s
  | true =>
    obtain ⟨i, e, hc, hi, -, ha, -, -, -, hn⟩ := canStart_cases h
    rw [judgeStart_of_can h hc]
    exact takeStart_writes (current_live hc).1 ha hn (by rw [hi]; rfl)

/-! ### Readings (R35 to R49) -/

theorem modTank_modTank (t : TankNo) (f g : Tank → Tank) (s : State) : (s.modTank t f).modTank t g = s.modTank t (g ∘ f) := by
  simp [State.modTank, State.setTank, State.tank, Vector.get_eq_getElem]

/-- A record without readings, not stale and with its stale timer stopped. -/
theorem Tank.windowOk_of_flushed {k : Tank} (hw : k.window = []) (hs : k.stale = false) (ht : k.staleTimer = none) : k.WindowOk := by
  simp [Tank.WindowOk, hw, hs, ht]

theorem flushTank_writes {t : TankNo} {f : Tank → Tank} (s : State) (hd : (f (s.tank t)).declared = (s.tank t).declared) :
    Writes [.tanks, .notices] s (flushWindow t (s.modTank t f)) := by
  have hflush : Writes [.tanks] s (s.modTank t ((fun k => { k with window := [], stale := false, staleTimer := none }) ∘ f)) :=
    modTank_writes ⟨fun _ => Tank.windowOk_of_flushed rfl rfl rfl, hd⟩
  unfold flushWindow
  rw [modTank_modTank]
  exact hflush.then (setAbove_writes ..)

theorem modTank_id (t : TankNo) (s : State) : s.modTank t id = s := by
  simp [State.modTank, State.setTank, State.tank, Vector.get_eq_getElem]

theorem flushWindow_writes (t s) : Writes [.tanks, .notices] s (flushWindow t s) := by
  have h := flushTank_writes (t := t) (f := id) s rfl
  rwa [modTank_id] at h

theorem takeSuspect_writes (t o s) : Writes [.tanks, .notices] s (takeSuspect t o s) := flushTank_writes s rfl

theorem addReading_levels {w : List Reading} {r : Reading} (hw : ∀ x ∈ w, x.level ≤ 30000) (hr : r.level ≤ 30000) :
    ∀ x ∈ addReading w r, x.level ≤ 30000 := by
  intro x hx
  simp only [addReading, List.mem_append, List.mem_singleton] at hx
  rcases hx with hx | rfl
  · split at hx
    · exact hw x hx
    · exact hw x (List.mem_of_mem_drop hx)
  · exact hr

/-- A reading taken keeps the window's bounds (R39). -/
theorem Tank.step_takeIn {k : Tank} {level now timer : Nat} (hl : level ≤ 30000) : k.Step
    { k with window := addReading k.window { level := level, stamp := now }, suspect := none, stale := false,
             staleTimer := some timer, stepRef := some level } where
  window h := by
    obtain ⟨-, hlev, -⟩ := h
    refine ⟨addReading_length .., addReading_levels hlev hl, by simp, ?_, by simp⟩
    have hne : addReading k.window { level := level, stamp := now } ≠ [] := by simp [addReading]
    simp [hne]
  declared := rfl

theorem judgeReading_writes (t level q s) : Writes [.tanks, .trip, .notices] s (judgeReading t level q s) := by
  unfold judgeReading
  split
  · exact (takeSuspect_writes ..).mono
  case isFalse hl =>
    split
    · exact (takeSuspect_writes ..).mono
    · refine Writes.ite ?_ ((takeSuspect_writes ..).then (setGaugeStep_writes ..))
      have htake := modTank_writes (s := s) (t := t) (f := fun k =>
        { k with window := addReading k.window { level := level, stamp := s.now }, suspect := none, stale := false,
                 staleTimer := some (s.expiry s.config.device.staleTime), stepRef := some level })
        (Tank.step_takeIn (Nat.le_of_not_lt hl))
      exact Writes.ite (htake.then (setGaugeStep_writes ..)) htake.mono

theorem Tank.step_judgeOwn (k : Tank) : k.Step k.judgeOwn := by
  unfold Tank.judgeOwn
  split
  · exact .of_same rfl rfl rfl rfl rfl
  · exact .of_same rfl rfl rfl rfl rfl

theorem judgeHihi_writes (t b s) : Writes flowParts s (judgeHihi t b s) :=
  Writes.ite (shut_writes ..).mono (.refl s)

theorem judgeHi_writes (t f s) : Writes flowParts s (judgeHi t f s) := by
  have hmark (i : EntryId) (u : State) : Writes [.tanks] u (u.modTank t fun k => { k with hiStopMark := some i }) :=
    modTank_writes (.of_same rfl rfl rfl rfl rfl)
  unfold judgeHi
  split
  · split
    · exact Writes.ite ((channelStop_writes ..).then (hmark ..)) (.refl s)
    · exact .refl s
  · exact .refl s

theorem judgeBlind_writes (t s) : Writes [.chans, .tanks, .grants, .evals, .notices] s (judgeBlind t s) := by
  have htimer (x : Option Nat) : Writes [.tanks] s (s.modTank t fun k => { k with blindTimer := x }) :=
    modTank_writes (.of_same rfl rfl rfl rfl rfl)
  unfold judgeBlind
  split
  · exact Writes.ite ((htimer none).then (removeHold_writes ..))
      (Writes.ite (.refl s) ((htimer _).then (addHold_writes ..)))
  · exact .refl s

theorem compareVolumes_writes {c : Chan} {i : EntryId} {e : Entry} {v : Nat} {s : State} (hl : s.Live i) :
    Writes flowParts s (compareVolumes c i e v s) := by
  have hrecon (f : Entry → Option ReconRecord) (n : Nat) :
      Writes [.figures] s (s.modEntry i fun e => { e with recon := f e, strikes := n }) :=
    modEntry_writes fun e he => .of_same (hl e he) rfl rfl rfl rfl rfl rfl rfl
  have hgain (f : Entry → Option ReconRecord) (n : Nat) (g : Bool) := (hrecon f n).then (setUnmetered_writes c e.tank g _) (R := flowParts)
  exact Writes.ite ((hgain _ _ _).then (channelStop_writes ..)) (hgain _ _ _)

theorem reconcile_writes (t s) : Writes flowParts s (reconcile t s) := by
  unfold reconcile
  split
  case h_2 => exact .refl s
  case h_1 c hc =>
    split
    case h_2 => exact .refl s
    case h_1 i e v he hv =>
      obtain ⟨hi, -, ha⟩ := activeEntry_live he
      have habove := judgeAbove_writes t s
      have hl : (judgeAbove t s).Live i := habove.live (.of_entry hi (by rw [ha]; rfl))
      have hbase (x : Nat) : Writes [.figures] (judgeAbove t s) ((judgeAbove t s).modEntry i fun e => e.rebase x v) :=
        modEntry_writes fun e he => .of_same (hl e he) rfl rfl rfl rfl rfl rfl rfl
      refine Writes.ite ?_ (.refl s)
      split
      · exact habove.then ((hbase _).then (setUnmetered_writes ..) (R := flowParts))
      · exact habove.then (compareVolumes_writes hl)
      · exact habove.mono

theorem evaluateReading_writes (t s) : Writes flowParts s (evaluateReading t s) := by
  unfold evaluateReading
  split
  · split
    · exact Writes.ite (evaluate_writes ..).mono (.refl s)
    · exact .refl s
  · exact .refl s

theorem startAfterLevel_writes (t b s) : Writes flowParts s (startAfterLevel t b s) := by
  refine Writes.ite (.refl s) ?_
  split
  · exact (judgeStart_writes ..).mono
  · exact .refl s

/-- A reading taken, judged and its alarm items worked (R43, steps 1 to 3). -/
theorem readIn_writes (t level q hi hihi s) : Writes [.tanks, .trip, .notices] s
    (judgeAbove t ((judgeReading t level q (s.modTank t fun k => { k with shipHi := hi, shipHihi := hihi })).modTank t
      Tank.judgeOwn)) := by
  have hflags : Writes [.tanks] s (s.modTank t fun k => { k with shipHi := hi, shipHihi := hihi }) :=
    modTank_writes (.of_same rfl rfl rfl rfl rfl)
  exact hflags.then ((judgeReading_writes ..).then ((modTank_writes (Tank.step_judgeOwn _)).then (judgeAbove_writes ..)
    (R := [.tanks, .notices])) (R := [.tanks, .trip, .notices]))

theorem acceptReading_writes (t level q hi hihi s) : Writes flowParts s (acceptReading t level q hi hihi s) := by
  have hnotes (b : LevelState) (o : Option Origin) (r : Option (Nat × Quality)) (a : Bool × Bool × Bool × Bool) (u : State) :
      Writes [.notices] u (if ((noteLevelChange t b o r u).tank t).alarms = a then noteLevelChange t b o r u
        else noteAlarm t (noteLevelChange t b o r u)) :=
    Writes.ite (noteLevelChange_writes ..) ((noteLevelChange_writes ..).then (noteAlarm_writes ..))
  unfold acceptReading
  exact (readIn_writes ..).then ((judgeHihi_writes ..).then ((judgeHi_writes ..).then ((judgeBlind_writes ..).then
    ((evaluateReading_writes ..).then ((reconcile_writes ..).then ((hnotes ..).then (startAfterLevel_writes ..)
    (R := flowParts)) (R := flowParts)) (R := flowParts)) (R := flowParts)) (R := flowParts)) (R := flowParts))

theorem takeStale_writes (t s) : Writes flowParts s (takeStale t s) := by
  unfold takeStale; simp only; split
  case isFalse => exact .refl s
  case isTrue hdue =>
    have hsome : (s.tank t).staleTimer.isSome = true := by
      cases h : (s.tank t).staleTimer with
      | none => rw [h] at hdue; cases hdue
      | some x => rfl
    have hstale : Writes [.tanks] s (s.modTank t fun k => { k with stale := true, staleTimer := none }) := by
      refine modTank_writes ⟨fun h => ?_, rfl⟩
      obtain ⟨h8, hlev, hsus, htim, -⟩ := h
      obtain ⟨hne, hfresh⟩ := htim.mp hsome
      exact ⟨h8, hlev, fun h => absurd (hsus h).1 hne, by simp, fun _ => hne⟩
    exact hstale.then ((noteLevelChange_writes ..).then ((judgeBlind_writes ..).then (startAfterLevel_writes ..)
      (R := flowParts)) (R := flowParts))

theorem takeBlind_writes (t s) : Writes flowParts s (takeBlind t s) := by
  have htimer : Writes [.tanks] s (s.modTank t fun k => { k with blindTimer := none }) :=
    modTank_writes (.of_same rfl rfl rfl rfl rfl)
  refine Writes.ite ?_ (.refl s)
  simp only; split
  · exact htimer.then (channelStop_writes ..)
  · exact htimer.mono

/-! SUPPORT. Pulses, strokes, field watches and the header's events as sequences of writes. -/


/-! ### Pulses (R116, R117) -/

theorem Entry.recount_eq (e : Entry) (n : Nat) : e.recount n = { e with delivered := (e.recount n).delivered } := by
  unfold Entry.recount; split <;> rfl

theorem countPulse_writes {c : Chan} {s : State} (h : (s.chan c).meter.saturated = false) :
    Writes [.count, .chans, .trip, .notices] s (countPulse c s) := by
  have hcount := (Write.count c s h).writes (P := [.count])
  have hstall (x : Option Nat) (u : State) : Writes [.chans] u (u.modMeter c fun m => { m with stallTimer := x }) :=
    modChan_writes (.of_same rfl rfl rfl rfl rfl rfl rfl rfl)
  have hfull : Writes [.count, .trip, .notices] s (if ((s.modMeter c Meter.count).chan c).meter.saturated
      then cautionOn (.meterFull c) (s.modMeter c Meter.count) else s.modMeter c Meter.count) :=
    Writes.ite (hcount.then (cautionOn_writes (by simp) _)) hcount.mono
  exact Writes.ite (hfull.then (hstall ..)) hfull.mono

/-- The kinds of a pulse counted and handed to the current entry's delivered volume. -/
abbrev countParts : List Part := [.count, .recount, .chans, .trip, .notices]

theorem countAndRecount_writes {c : Chan} {s : State} (h : (s.chan c).meter.saturated = false) :
    Writes countParts s (countAndRecount c s) := by
  have hcount := countPulse_writes h
  unfold countAndRecount; simp only; split
  case h_2 => exact hcount.mono
  case h_1 i e hc =>
    split
    case isFalse => exact hcount.mono
    case isTrue hb =>
      obtain ⟨he, -, hl⟩ := current_live hc
      refine hcount.then (Q := [.recount]) ?_
      rw [State.modEntry, he]
      exact (Write.recount i e _ _ he hl hb).writes

/-- What a pulse brings to the current entry (R60, R67, R11): step 4 of R116 past the delivered volume. -/
def afterRecount (c : Chan) (i : EntryId) (active : Bool) (s : State) : State :=
  testAllotment c i (if active then testSlug c i (workMargin c i s) else s)

theorem takePulse_eq {c : Chan} {s : State} (h : (s.chan c).meter.saturated = false) : takePulse c s =
    match (countPulse c s).current c with
    | some (i, e) =>
      if e.baseline.isSome then afterRecount c i (decide (e.state = .active)) (countAndRecount c s) else countAndRecount c s
    | none => countAndRecount c s := by
  simp only [takePulse, h, Bool.false_eq_true, if_false, handPulse, countAndRecount]
  cases hc : (countPulse c s).current c with
  | none => rfl
  | some p =>
    obtain ⟨i, e⟩ := p
    cases hb : e.baseline.isSome
    · simp [hb]
    · simp [hb, afterRecount]

theorem takePulse_saturated {c : Chan} {s : State} (h : (s.chan c).meter.saturated = true) : takePulse c s = s := by
  simp [takePulse, h]

theorem reworkMargin_writes {i : EntryId} {s : State} (hl : s.Live i) : Writes [.figures] s (s.modEntry i Entry.reworkMargin) := by
  refine modEntry_writes fun e he => ?_
  unfold Entry.reworkMargin
  split <;> exact .of_same (hl e he) rfl rfl rfl rfl rfl rfl rfl

/-- R60's end on the margin in the record, once that is worked again. -/
theorem endSpent_writes (c i s) : Writes endParts s
    (match s.entry i with
      | some e => if e.marginSpent then endCurrent c i .allotment s else s
      | none => s) := by
  split
  · exact Writes.ite (endCurrent_writes ..) (.refl _)
  · exact .refl _

theorem workMargin_writes {c : Chan} {i : EntryId} {s : State} (hl : s.Live i) : Writes endParts s (workMargin c i s) :=
  (reworkMargin_writes hl).then (endSpent_writes ..)

/-- No slug is being delivered for the entry in the slot. -/
def State.NoSlug (s : State) (i : EntryId) : Prop := ∀ e, s.entry i = some e → e.slugDone = false

theorem Entry.slugDone_congr {e f : Entry} (hs : f.slug = e.slug) (hd : f.delivered = e.delivered) : f.slugDone = e.slugDone := by
  unfold Entry.slugDone; rw [hs, hd]

theorem entry_modEntry_self {s : State} {i : EntryId} {f : Entry → Entry} : (s.modEntry i f).entry i = (s.entry i).map f := by
  simp [State.modEntry]

/-- An end applied changes no slug record and no delivered volume (R14). -/
theorem settleEnd_noSlug {c : Chan} {i : EntryId} {s : State} (h : s.NoSlug i) : (settleEnd c s).NoSlug i := by
  refine (settleEnd_writes c s).keeps (I := fun u => u.NoSlug i) (fun p hp s t hw h => ?_) h
  have hplan : ∀ p ∈ applyParts, p = .finish ∨ p = .promote ∨ p.item ≠ .plan ∧ p.item ≠ .many := by decide
  rcases hplan p hp with rfl | rfl | ⟨h1, h2⟩
  · cases hw with
    | finish j r e s he hl =>
      intro f hf
      rw [entry_setEntry] at hf
      split at hf
      case isTrue hj =>
        subst hj
        cases hf
        rw [← h e he]; exact Entry.slugDone_congr rfl rfl
      case isFalse => exact h f hf
  · cases hw with
    | promote d s =>
      intro f hf
      unfold promote at hf
      split at hf
      case h_2 => exact h f hf
      case h_1 j e hc =>
        split at hf
        case isFalse => exact h f hf
        case isTrue =>
          rw [State.modEntry, (current_live hc).1] at hf
          simp only [entry_setEntry, Option.map_some] at hf
          split at hf
          case isTrue hj =>
            subst hj
            cases hf
            rw [← h e (current_live hc).1]; exact Entry.slugDone_congr rfl rfl
          case isFalse => exact h f hf
  · intro f hf
    exact h f (by rw [← hf, entry_of_item hw h1 h2])

theorem clearSlug_noSlug (i : EntryId) (s : State) : (clearSlug i s).NoSlug i := by
  unfold clearSlug
  split
  case h_2 hn => intro f hf; rw [hn] at hf; cases hf
  case h_1 e he =>
    split
    case h_2 hs => intro f hf; rw [he] at hf; cases hf; simp [Entry.slugDone, hs]
    case h_1 r hs =>
      have hmod : (s.modEntry i fun e => { e with slug := some { phase := .idle, size := none, base := none } }).NoSlug i := by
        intro f hf
        rw [entry_modEntry_self, he] at hf
        cases hf; rfl
      simp only; split
      · intro f hf
        rw [(removeHolds_writes e.chan _).entry_eq] at hf
        exact hmod f hf
      · exact hmod

/-- An end cause leaves the entry as it was or with no slug in hand, and leaves it not terminal where it leaves it alone (R10, R69). -/
theorem endCurrent_noSlug (c : Chan) (i : EntryId) (r : EndReason) (s : State) :
    endCurrent c i r s = s ∨ (endCurrent c i r s).NoSlug i ∨ ∀ e, s.entry i = some e → e.state ≠ .active := by
  unfold endCurrent
  split
  case h_2 => exact .inl rfl
  case h_1 e he =>
    by_cases ha : e.state = .active
    case neg => exact .inr (.inr fun f hf => by rw [he] at hf; cases hf; exact ha)
    split
    case isTrue => exact .inl rfl
    case isFalse hp =>
      refine .inr (.inl (settleEnd_noSlug ?_))
      have hmark : (markEnd i r s).NoSlug i := by
        have hset : markEnd i r s = clearSlug i (noteEntry .endPending i (s.modEntry i fun e => { e with endPending := some r })) := by
          simp only [markEnd, he]
          rw [if_pos (by simp [ha, Option.not_isSome_iff_eq_none.mp hp])]
        rw [hset]; exact clearSlug_noSlug i _
      intro f hf
      rw [(closeChannel_writes c (markEnd i r s)).entry_eq] at hf
      exact hmark f hf

theorem endSlug_writes {c : Chan} {i : EntryId} {t : TankNo} {s : State} (hl : s.Live i) : Writes flowParts s (endSlug c i t s) := by
  have hslug : Writes [.figures] s (s.modEntry i fun e => { e with slug := e.slug.map fun r => { r with phase := .settling } }) :=
    modEntry_writes fun e he => .of_same (hl e he) rfl rfl rfl rfl rfl rfl rfl
  unfold endSlug
  exact hslug.then ((addHold_writes ..).then ((flushWindow_writes ..).then ((noteLevelChange_writes ..).then (judgeBlind_writes ..)
    (R := flowParts)) (R := flowParts)) (R := flowParts))

theorem testSlug_writes {c : Chan} {i : EntryId} {s : State} (h : s.Live i ∨ s.NoSlug i) : Writes flowParts s (testSlug c i s) := by
  unfold testSlug; split
  case h_2 => exact .refl s
  case h_1 e he =>
    split
    case isFalse => exact .refl s
    case isTrue hd =>
      rcases h with h | h
      · exact endSlug_writes h
      · rw [h e he] at hd; cases hd

theorem testAllotment_writes (c i s) : Writes endParts s (testAllotment c i s) := by
  unfold testAllotment; split
  · exact Writes.ite (endCurrent_writes ..) (.refl s)
  · exact .refl s

/-- After R60's end on an ACTIVE entry the slug test changes that entry only while it is not terminal. -/
theorem workMargin_slug {c : Chan} {i : EntryId} {e : Entry} {s : State} (he : s.entry i = some e) (ha : e.state = .active) :
    (workMargin c i s).Live i ∨ (workMargin c i s).NoSlug i := by
  have hl : (s.modEntry i Entry.reworkMargin).Live i :=
    (reworkMargin_writes (.of_entry he (by rw [ha]; rfl))).live (.of_entry he (by rw [ha]; rfl))
  have hact (f : Entry) (hf : (s.modEntry i Entry.reworkMargin).entry i = some f) : f.state = .active := by
    rw [entry_modEntry_self, he] at hf
    cases hf
    unfold Entry.reworkMargin; split <;> exact ha
  unfold workMargin; simp only; split
  case h_2 => exact .inl hl
  case h_1 f hf =>
    split
    case isFalse => exact .inl hl
    case isTrue =>
      rcases endCurrent_noSlug c i .allotment (s.modEntry i Entry.reworkMargin) with h | h | h
      · rw [h]; exact .inl hl
      · exact .inr h
      · exact absurd (hact f hf) (h f hf)

theorem afterRecount_writes {c : Chan} {i : EntryId} {e : Entry} {b : Bool} {s : State} (he : s.entry i = some e)
    (ha : b = true → e.state = .active) : Writes flowParts s (afterRecount c i b s) := by
  have hactive : Writes flowParts s (if b then testSlug c i (workMargin c i s) else s) := by
    split
    case isFalse => exact .refl s
    case isTrue hb =>
      have hact := ha hb
      exact (workMargin_writes (.of_entry he (by rw [hact]; rfl))).then (testSlug_writes (workMargin_slug he hact))
  exact hactive.then (testAllotment_writes ..)

/-- The current entry after its delivered volume has been worked again. -/
theorem entry_countAndRecount {c : Chan} {i : EntryId} {e : Entry} {s : State} (hc : (countPulse c s).current c = some (i, e))
    (hb : e.baseline.isSome = true) :
    (countAndRecount c s).entry i = some (e.recount ((countPulse c s).chan c).meter.total) := by
  simp only [countAndRecount, hc, hb, if_true]
  rw [entry_modEntry_self, (current_live hc).1]; rfl

/-- The kinds of a pulse. -/
abbrev pulseParts : List Part := .pulse :: flowParts

theorem takePulse_writes (c s) : Writes pulseParts s (takePulse c s) := by
  cases h : (s.chan c).meter.saturated with
  | true => rw [takePulse_saturated h]; exact .refl s
  | false =>
    have hpulse := (Write.pulse c s h).writes (P := pulseParts)
    rw [takePulse_eq h]
    split
    case h_2 => exact hpulse
    case h_1 i e hc =>
      split
      case isFalse => exact hpulse
      case isTrue hb =>
        refine hpulse.then (afterRecount_writes (entry_countAndRecount hc hb) fun ha => ?_)
        rw [Entry.recount_eq]; exact of_decide_eq_true ha

theorem takeRefresh_writes (c s) : Writes (.rates :: evalParts) s (takeRefresh c s) := by
  have hrate : Writes [.rates] s (s.modMeter c fun m => m.refresh (s.chanConfig c).kFactor) :=
    (Write.rates c (fun m => m.refresh (s.chanConfig c).kFactor) s fun _ => ⟨rfl, rfl⟩).writes
  exact Writes.ite (hrate.then (evaluate_writes ..)) (.refl s)

theorem takeStall_writes (c s) : Writes flowParts s (takeStall c s) :=
  Writes.ite (channelStop_writes ..).mono (.refl s)

/-! ### Limit switches and strokes (R75, R80, R83, R84) -/

theorem reachOpen_writes {c : Chan} {s : State} (h : (s.chan c).state = .opening) : Writes flowParts s (reachOpen c s) := by
  have hheld (k : Channel) (hk : k.state = .opening) : k.Step
      { k with state := .held, command := .toOpen, strokeTimer := none, openingStarted := none,
               holds := k.holds.put .noGrant true } := by
    refine { command := fun _ => rfl, flows := fun hf => ?_, grant := le_rfl, shut := fun hs => ?_, auth := id, inputs := rfl,
             counts := rfl, lastStop := rfl, pauses := HoldSet.keepsPauses_put _ (r := .noGrant) _ (by decide) (by decide) }
    · rw [Channel.flowsByGrant_iff] at hf ⊢
      exact ⟨(fun h => nomatch h), fun _ => hf.2.1 (by rw [hk]; decide), fun _ => HoldSet.ne_empty_of_has (r := .noGrant) (by simp)⟩
    · rw [hk] at hs; cases hs
  exact (moveChan_writes (hheld _ h)).then ((headerCall_writes ..).then (regrant_writes ..) (R := flowParts))

/-- A channel of one state put IDLE, CLOSING or MASKED, closed and with its grant as it was. -/
theorem Channel.step_rest {k l : Channel} (hk : k.state ≠ .flowing) (hc : l.command = .toClose) (hl : l.state.command = .toClose)
    (hg : l.grant = k.grant) (ha : l.authorised = k.authorised) (hi : l.inputs = k.inputs) (hm : l.meter.counts = k.meter.counts)
    (hh : l.holds = k.holds) (hs : l.lastStop = k.lastStop) : k.Step l :=
  { Channel.Moves.of_still (k := k) (l := l) hk (by rw [hc, hl])
      ⟨ne_flowing_of_shut hl, by rintro h; rw [h] at hl; cases hl⟩ hg with
    shut := fun _ => hl, auth := fun h => by rw [ha, h], inputs := hi, counts := hm, lastStop := hs
    pauses := by rw [hh]; exact .refl _ }

theorem reachClosed_writes {c : Chan} {s : State} (h : (s.chan c).state = .closing) : Writes flowParts s (reachClosed c s) := by
  have hidle : Writes [.chans] s (s.modChan c fun k => { k with state := .idle, command := .toClose, strokeTimer := none }) :=
    modChan_writes (Channel.step_rest (by rw [h]; decide) rfl rfl rfl rfl rfl rfl rfl rfl)
  exact hidle.then ((ending_writes ..).then ((noteChan_writes ..).then (judgeStart_writes ..) (R := flowParts)) (R := flowParts))

theorem leaveClosed_writes {c : Chan} {s : State} (h : (s.chan c).state = .idle) : Writes flowParts s (leaveClosed c s) :=
  (updateChan_writes (Channel.step_rest (by rw [h]; decide) rfl rfl rfl rfl rfl rfl rfl rfl)).mono

theorem strokeTimer_writes (c x s) : Writes [.chans] s (s.modChan c fun k => { k with strokeTimer := x }) :=
  modChan_writes (.of_same rfl rfl rfl rfl rfl rfl rfl rfl)

theorem closedReached_writes (c s) : Writes flowParts s (closedReached c s) := by
  have hfault : Writes flowParts s (valveFault c s) := (valveFault_writes c s).mono
  have hend (u : State) : Writes [.ending] u (settleEnd c u) := ending_writes c u
  unfold closedReached
  split
  case h_1 => exact (hend s).mono
  case h_2 => exact hfault
  case h_3 => exact hfault
  case h_4 => exact Writes.ite hfault ((strokeTimer_writes ..).then (hend _))
  case h_5 h => exact Writes.ite hfault (reachClosed_writes h)
  all_goals exact Writes.ite hfault (.refl s)

theorem closedLost_writes (c s) : Writes flowParts s (closedLost c s) := by
  unfold closedLost
  split
  case h_1 => exact (strokeTimer_writes ..).mono
  case h_2 h => exact leaveClosed_writes h
  all_goals exact .refl s

theorem openReached_writes (c s) : Writes flowParts s (openReached c s) := by
  have hfault : Writes flowParts s (valveFault c s) := (valveFault_writes c s).mono
  unfold openReached
  split
  case h_1 => exact .refl s
  case h_2 h => exact Writes.ite hfault (reachOpen_writes h)
  all_goals exact Writes.ite hfault (.refl s)

theorem openLost_writes (c s) : Writes flowParts s (openLost c s) := by
  have hfault : Writes flowParts s (valveFault c s) := (valveFault_writes c s).mono
  unfold openLost
  split
  case h_3 => exact (ending_writes c s).mono
  case h_1 => exact hfault
  case h_2 => exact hfault
  all_goals exact .refl s

/-- An input recorded that no rule of states, grants or authorisations reads. -/
theorem inputs_writes {c : Chan} {f : Channel → Channel} {s : State} (hs : (f (s.chan c)).state = (s.chan c).state)
    (hc : (f (s.chan c)).command = (s.chan c).command) (hh : (f (s.chan c)).holds = (s.chan c).holds)
    (hg : (f (s.chan c)).grant = (s.chan c).grant) (ha : (f (s.chan c)).authorised = (s.chan c).authorised)
    (hm : (f (s.chan c)).meter = (s.chan c).meter) (hl : (f (s.chan c)).lastStop = (s.chan c).lastStop) : Writes [.inputs] s (s.modChan c f) :=
  (Write.inputs c _ s (.of_same hs hc hh hg) (.of_same hs ha) (by rw [hm]) hl (by rw [hh]; exact .refl _)).writes

/-- The kinds of a field event at a channel. -/
abbrev fieldParts : List Part := .inputs :: .settle :: flowParts

theorem takeClosedLimit_writes (c v s) : Writes fieldParts s (takeClosedLimit c v s) := by
  have hinput : Writes [.inputs] s (s.modChan c fun k => { k with closedLimit := v }) := inputs_writes rfl rfl rfl rfl rfl rfl rfl
  have hmoved (u : State) : Writes flowParts u (if v then closedReached c u else closedLost c u) :=
    Writes.ite (closedReached_writes ..) (closedLost_writes ..)
  exact Writes.ite (.refl s) (hinput.then ((hmoved _).then (judgeSettled_writes _) (R := .settle :: flowParts)))

theorem takeOpenLimit_writes (c v s) : Writes fieldParts s (takeOpenLimit c v s) := by
  have hinput : Writes [.inputs] s (s.modChan c fun k => { k with openLimit := v }) := inputs_writes rfl rfl rfl rfl rfl rfl rfl
  have hmoved (u : State) : Writes flowParts u (if v then openReached c u else openLost c u) :=
    Writes.ite (openReached_writes ..) (openLost_writes ..)
  exact Writes.ite (.refl s) (hinput.then ((hmoved _).then (judgeSettled_writes _) (R := .settle :: flowParts)))

theorem takeStroke_writes (c s) : Writes flowParts s (takeStroke c s) := Writes.ite (valveFault_writes ..).mono (.refl s)

/-! ### Field watches (R91 to R93) -/

theorem takePressure_writes (c v s) : Writes [.inputs] s (takePressure c v s) := by
  unfold takePressure
  exact inputs_writes rfl rfl rfl rfl rfl rfl rfl

theorem takeOverpressure_writes (c s) : Writes flowParts s (takeOverpressure c s) := Writes.ite (channelStop_writes ..).mono (.refl s)

theorem takeTension_writes (c v s) : Writes fieldParts s (takeTension c v s) := by
  have hread : Writes [.inputs] s (s.modChan c fun k => { k with tension := v }) := inputs_writes rfl rfl rfl rfl rfl rfl rfl
  have hwatch : Writes [.inputs] s (s.modChan c fun k =>
      { k with tension := v, strainTimer := k.dwellAfter v (s.chanConfig c).strainTrip (s.expiry s.config.device.strainDwell) }) :=
    inputs_writes rfl rfl rfl rfl rfl rfl rfl
  exact Writes.ite hread.mono (hwatch.then (setStrain_writes ..))

theorem takeStrainDwell_writes (c s) : Writes flowParts s (takeStrainDwell c s) := by
  have htimer : Writes [.chans] s (s.modChan c fun k => { k with strainTimer := none }) :=
    modChan_writes (.of_same rfl rfl rfl rfl rfl rfl rfl rfl)
  exact Writes.ite (htimer.then (shut_writes ..)) (.refl s)

theorem sourceLowOn_writes (c s) : Writes fieldParts s (sourceLowOn c s) := by
  have hread : Writes [.inputs] s (s.modChan c fun k => { k with sourceLow := true }) := inputs_writes rfl rfl rfl rfl rfl rfl rfl
  exact Writes.ite (.refl s) (Writes.ite (hread.then (sourceLowHold_writes ..)) hread.mono)

theorem sourceLowOff_writes (c s) : Writes fieldParts s (sourceLowOff c s) := by
  have hread : Writes [.inputs] s (s.modChan c fun k => { k with sourceLow := false, sourceLowTimer := none }) :=
    inputs_writes rfl rfl rfl rfl rfl rfl rfl
  exact Writes.ite (hread.then (removeHold_writes ..)) (.refl s)

theorem takeSourceEmpty_writes (c s) : Writes flowParts s (takeSourceEmpty c s) := Writes.ite (channelStop_writes ..).mono (.refl s)

/-! ### The header's events (R102, R103, R105) and the loops (R150) -/

theorem due_isSome {s : State} {o : Option Nat} (h : s.due o = true) : o.isSome = true := by
  cases o with
  | none => cases h
  | some x => rfl

theorem takePrime_writes (s) : Writes flowParts s (takePrime s) := by
  unfold takePrime; split
  case isFalse => exact .refl s
  case isTrue hdue =>
    have hserve : Writes [.chans, .header, .notices] s (enterServing s) := enterServing_writes fun ht => by
      rw [ht.1.mp (due_isSome hdue)]; decide
    exact Writes.ite (hserve.then (regrant_writes ..)) (shut_writes ..).mono

theorem takeWait_writes (s) : Writes flowParts s (takeWait s) := Writes.ite (shut_writes ..).mono (.refl s)

/-- One channel's part of `zeroGrants`. -/
def zeroGrant (s : State) (c : Chan) : State :=
  if (s.chan c).state = .flowing then addHolds c [.noGrant] s
  else if (s.chan c).grant = 0 then s else s.modChan c fun k => { k with grant := 0 }

theorem zeroGrants_eq (s : State) : zeroGrants s = chans.foldl zeroGrant s := rfl

/-- A channel's record past `zeroGrant`: no other is touched. -/
theorem chan_zeroGrant (s : State) (c d : Chan) : (zeroGrant s c).chan d =
    if c = d then (if (s.chan c).state = .flowing then (s.chan c).holdWith [.noGrant] else { s.chan c with grant := 0 })
    else s.chan d := by
  have hupdate (u : State) : ((noteStateChange s c (noteHoldsChange s c u))).chan d = u.chan d := by
    rw [(noteMoved_writes s c u).chan_eq]
  unfold zeroGrant
  by_cases hf : (s.chan c).state = .flowing
  · simp only [if_pos hf, addHolds, updateChan, hupdate, chan_modChan]
  · simp only [if_neg hf]
    by_cases hg : (s.chan c).grant = 0
    · simp only [if_pos hg]
      split
      case isTrue hd => rw [← hd, ← hg]
      case isFalse => rfl
    · simp only [if_neg hg, chan_modChan]

/-- With its channels flowing by their grants a part that has let every grant go holds none (R76, R103, R105). -/
theorem grants_zero_of_zeroGrants {s : State} (h : (zeroGrants s).GrantsOk) (c : Chan) : ((zeroGrants s).chan c).grant = 0 := by
  have hstep (k : Channel) : (k.holdWith [.noGrant]).state ≠ .flowing ∨ ¬ (k.holdWith [.noGrant]).FlowsByGrant ∨ k.state ≠ .flowing := by
    rw [Channel.holdWith_eq]
    split
    case isTrue hh =>
      by_cases hf : k.state = .flowing
      · refine .inr (.inl fun hk => HoldSet.ne_empty_of_has (r := .noGrant) ?_ (hk.2.1 hf))
        rw [hh]; simp [HoldSet.has_plus]
      · exact .inr (.inr hf)
    case isFalse => split <;> simp_all
  have hone (u : State) (d : Chan) : ((zeroGrant u d).chan d).FlowsByGrant → ((zeroGrant u d).chan d).grant = 0 := by
    rw [chan_zeroGrant, if_pos rfl]
    intro hk
    split at hk
    case isTrue hf =>
      rw [if_pos hf]
      refine ((Channel.flowsByGrant_iff _).mp hk).2.1 ?_
      rcases hstep (u.chan d) with h | h | h
      · exact h
      · exact absurd hk h
      · exact absurd hf h
    case isFalse hf => rw [if_neg hf]
  have hkept (cs : List Chan) (u : State) (hc : c ∉ cs) : (cs.foldl zeroGrant u).chan c = u.chan c := by
    induction cs generalizing u with
    | nil => rfl
    | cons d cs ih =>
      simp only [List.mem_cons, not_or] at hc
      rw [List.foldl_cons, ih _ hc.2, chan_zeroGrant, if_neg (Ne.symm hc.1)]
  have hfold (cs : List Chan) (u : State) (hn : cs.Nodup) (hc : c ∈ cs) (hk : ((cs.foldl zeroGrant u).chan c).FlowsByGrant) :
      ((cs.foldl zeroGrant u).chan c).grant = 0 := by
    induction cs generalizing u with
    | nil => cases hc
    | cons d cs ih =>
      rw [List.foldl_cons] at hk ⊢
      obtain ⟨hd, hn⟩ := List.nodup_cons.mp hn
      by_cases hcd : c = d
      · subst hcd
        rw [hkept cs _ hd] at hk ⊢
        exact hone u c hk
      · exact ih _ hn ((List.mem_cons.mp hc).resolve_left hcd) hk
  rw [zeroGrants_eq]
  exact hfold chans s (by decide) (mem_chans c) (h.2.2 c)

theorem header_zeroGrants (s : State) : (zeroGrants s).header = s.header := (zeroGrants_writes s).header_eq

/-- The header goes WAITING with every grant let go (R105). -/
theorem waiting_writes {h : HeaderState} {x : Nat} {s : State} (hs : s.header.state ≠ .tripped)
    (hg : s.GrantsOk → ∀ c, (s.chan c).grant = 0) : Writes [.header, .notices] s (changeHeader (fun y =>
      { y with state := .waiting, returnState := some h, primeTimer := none, waitTimer := some x }) s) :=
  changeHeader_writes (.of_leave (fun _ => hs) hg (fun _ => by simp [Header.TimersOk]) (by simp) rfl rfl)

theorem suspend_writes {h : HeaderState} {s : State} (hs : s.header.state ≠ .tripped) : Writes flowParts s (suspend h s) := by
  have hwait := waiting_writes (h := h) (x := s.expiry s.config.header.waitLimit) (s := zeroGrants s)
    (by rwa [header_zeroGrants]) grants_zero_of_zeroGrants
  unfold suspend
  exact (zeroGrants_writes s).then (hwait.then
    ((holdCallers_writes [.headerWait] _).then (regrant_writes s.anyGrant _) (R := flowParts)) (R := flowParts))

/-- The kinds of a header event. -/
abbrev pumpParts : List Part := .hinputs :: flowParts

theorem hinputs_writes (a b s) : Writes [.hinputs] s { s with header := { s.header with dp := a, pumpRunning := b } } :=
  (Write.hinputs a b s).writes

theorem dpOn_writes (s) : Writes pumpParts s (dpOn s) := by
  have hread : Writes [.hinputs] s (s.modHeader fun h => { h with dp := true }) := hinputs_writes true s.header.pumpRunning s
  refine Writes.ite (.refl s) ?_
  simp only; split
  case h_1 h => exact hread.then (suspend_writes (by rw [h]; decide))
  case h_2 h => exact hread.then (suspend_writes (by rw [h]; decide))
  case h_3 h => exact hread.then (suspend_writes (by rw [h]; decide))
  all_goals exact hread.mono

theorem resume_writes {r : HeaderState} {s : State} (hw : s.header.state = .waiting) : Writes [.chans, .header, .notices] s (resume r s) := by
  have hs : s.header.TimersOk → s.header.state ≠ .tripped := fun _ => by rw [hw]; decide
  have hn : s.header.state ≠ .serving := by rw [hw]; decide
  have hrest {st : HeaderState} (hst : st ≠ .tripped ∧ st ≠ .priming ∧ st ≠ .waiting) :
      Writes [.chans, .header, .notices] s (restHeader st s) :=
    (restHeader_writes hs (grants_zero_of_not_serving hn) hst).mono
  have hserve := Writes.ite (b := s.anyCalling = true) (enterServing_writes hs) (hrest (restState_ne s.config.header.policy))
  have hprime := Writes.ite (b := s.anyCalling = true) (startPriming_writes hs hn) (hrest (st := .idle) (by decide))
  have hafresh := Writes.ite (b := s.anyCalling = true) (repriming_writes hs (grants_zero_of_not_serving hn))
    (hrest (st := .idle) (by decide))
  exact Writes.ite hprime (Writes.ite hserve hafresh)

theorem dpOff_writes (s) : Writes pumpParts s (dpOff s) := by
  have hread : Writes [.hinputs] s (s.modHeader fun h => { h with dp := false }) := hinputs_writes false s.header.pumpRunning s
  refine Writes.ite ?_ (.refl s)
  simp only; split
  case h_1 hw _ => exact hread.then ((resume_writes hw).then (regrant_writes ..) (R := flowParts))
  case h_2 => exact hread.mono

theorem pumpLost_writes (s) : Writes pumpParts s (pumpLost s) := by
  have hread : Writes [.hinputs] s (s.modHeader fun h => { h with pumpRunning := false }) := hinputs_writes s.header.dp false s
  refine Writes.ite ?_ (.refl s)
  simp only; split
  case h_1 h =>
    have hz := repriming_writes (s := zeroGrants (s.modHeader fun h => { h with pumpRunning := false }))
      (fun _ => by rw [header_zeroGrants, h]; decide) grants_zero_of_zeroGrants
    exact hread.then ((zeroGrants_writes _).then (hz.then (regrant_writes ..) (R := flowParts)) (R := flowParts))
  case h_2 h =>
    have hidle := restHeader_writes (s := s.modHeader fun h => { h with pumpRunning := false }) (st := .idle)
      (fun _ => by rw [h]; decide) (grants_zero_of_not_serving (by rw [h]; decide)) (by decide)
    exact hread.then (hidle.then (regrant_writes ..) (R := flowParts))
  all_goals exact hread.mono

theorem pumpBack_writes (s) : Writes pumpParts s (pumpBack s) := (hinputs_writes s.header.dp true s).mono

theorem recordLoop_writes (l v s) : Writes [.loops] s (s.modTrip fun t => t.recordLoop l v) := by
  cases l with
  | barge => exact (Write.loops v s.trip.loopSOpen s).writes
  | ship => exact (Write.loops s.trip.loopBOpen v s).writes

/-- The kinds of a loop's event. -/
abbrev loopParts : List Part := [.loops, .shutdown, .notices]

theorem loopOpens_writes (l s) : Writes loopParts s (loopOpens l s) :=
  Writes.ite (.refl s) ((recordLoop_writes ..).then (shut_writes ..))

theorem loopCloses_writes (l s) : Writes loopParts s (loopCloses l s) :=
  Writes.ite ((recordLoop_writes ..).then (noteTrip_writes ..)) (.refl s)

/-! SUPPORT. Adoptions, requests, the ports and the supply as sequences of writes. -/


/-! ### Adoptions (R6 to R8, R77, R156, R180) -/

theorem entryOf_eq_some {n : Nat} {i : EntryId} (h : entryOf n = some i) : n = i.val := by
  unfold entryOf at h
  split at h
  · cases h; rfl
  · cases h

theorem adoptPlan_writes {c : Chan} {t : TankNo} {a r : Nat} {m : Mode} {s : State} (h : s.planReject c t = none) :
    Writes [.fresh, .notices] s (adoptPlan c t a r m s) := by
  unfold adoptPlan
  split
  case h_2 => exact .refl s
  case h_1 i hi =>
    exact ((Write.fresh c t m a (s.clampRate c r) i s h (entryOf_eq_some hi)).writes (P := [.fresh])).then (noteEntry_writes ..)

theorem late_writes (i s) : Writes [.late] s (s.modEntry i Entry.reworkMargin) := (Write.late i s).writes

/-- The kinds of an amendment. -/
abbrev amendParts : List Part := .late :: endParts

/-- An amendment ends an entry it leaves nothing to, and works an ACTIVE one's meter margin again (R7, R60). -/
theorem adoptAmend_cases {i : EntryId} {a r : Nat} {s : State} (h : s.entryReject i = none) :
    Writes endParts s (adoptAmend i a r s)
      ∨ ∃ u, Writes endParts s u ∧ Writes endParts (u.modEntry i Entry.reworkMargin) (adoptAmend i a r s) := by
  unfold adoptAmend
  split
  case h_2 => exact .inl (.refl s)
  case h_1 e he =>
    have hl : s.Live i := by
      intro f hf
      simp only [State.entryReject, hf] at h
      cases ht : f.state.terminal with
      | false => rfl
      | true => simp [ht] at h
    have hfig (x : Nat) : Writes [.figures, .notices] s
        (noteEntry .amended i (s.modEntry i fun e => { e with allotment := a, planRate := x })) :=
      (modEntry_writes (f := fun e => { e with allotment := a, planRate := x }) fun e he =>
        .of_same (hl e he) rfl rfl rfl rfl rfl rfl rfl).then (noteEntry_writes .amended i _)
    have hend (x : Nat) := (hfig x).then (testAllotment_writes e.chan i _) (R := endParts)
    have hgrant (x : Nat) (b : Prop) [Decidable b] : Writes endParts s (if b then _ else _) :=
      Writes.ite (hend x) ((hend x).then (regrant_writes false _))
    simp only
    split
    · exact .inr ⟨_, hgrant _ _, (endSpent_writes ..).mono⟩
    · exact .inl (hend _)

theorem adoptAmend_innerWrites {i : EntryId} {a r : Nat} {s : State} (h : s.entryReject i = none) :
    Writes amendParts s (adoptAmend i a r s) := by
  rcases adoptAmend_cases h with hw | ⟨u, hw, hlate⟩
  · exact hw.mono
  · exact hw.then ((late_writes i u).then hlate (R := amendParts))

theorem adoptAmend_writes {i : EntryId} {a r : Nat} {s : State} (h : s.entryReject i = none) :
    Writes [.amend] s (adoptAmend i a r s) := (Write.amend i a r s h).writes

theorem adoptCancel_writes (i s) : Writes (.cancel :: endParts) s (adoptCancel i s) := by
  unfold adoptCancel
  split
  case h_2 => exact .refl s
  case h_1 e he =>
    split
    case isTrue hq =>
      have hcancel : Writes [.cancel] s (s.modEntry i fun e => e.finish .cancel s.now) := by
        rw [State.modEntry, he]; exact (Write.cancel i e s he hq).writes
      exact hcancel.then (noteEntry_writes ..)
    case isFalse => exact (endCurrent_writes ..).mono

theorem adoptStart_writes {c : Chan} {s : State} (h : s.startReject c = none) :
    Writes (.authorise :: .stops :: startParts) s (adoptStart c s) := by
  have hn : s.trip.state = .normal := by
    unfold State.startReject at h
    split at h
    case isTrue hc => exact hc.2
    case isFalse => cases h
  have hauth : Writes [.authorise, .notices] s (setAuth c true s) :=
    Writes.ite (.refl s) (((Write.authorise c s hn).writes (P := [.authorise])).then (noteChan_writes ..))
  have hack (u : State) : Writes [.stops] u (u.modChan c fun k =>
      { k with lastStop := k.lastStop.map fun l => { l with acknowledged := true } }) := (Write.stops c _ u).writes
  exact hauth.then ((hack _).then ((judgeHorn_writes ..).then (judgeStart_writes ..) (R := startParts)) (R := .stops :: startParts))

/-- The kinds of a CLEAR. -/
abbrev clearParts : List Part := .clear :: startParts

theorem liftPauses_writes (c s) : Writes [.lift, .notices] s (liftPauses c s) :=
  updateChan_writes_of (Write.lift c _ s (Channel.moves_holdsWithout ..) (.of_same rfl rfl) ⟨rfl, rfl, rfl⟩)

/-- The inner kinds of the first steps of a CLEAR. -/
abbrev clearInnerParts : List Part := [.emptied, .lift, .grants, .evals, .notices]

theorem lifted_writes (s) : Writes [.lift, .notices] s (chans.foldl (fun x c => liftPauses c x) s) :=
  Writes.foldl (fun x c => liftPauses_writes c x) _ _

theorem clearLifted_writes {s : State} (hc : s.allClosed = true) (hf : s.trip.firstOut.isSome = true) :
    Writes clearInnerParts s (clearLifted s) :=
  ((Write.emptied s hc hf).writes (P := [.emptied])).then ((lifted_writes _).then (regrant_writes false _)
    (R := [.lift, .grants, .evals, .notices]))

/-- Steps 5 to 7 of R156, after the regrant. -/
def afterClear (s : State) : State :=
  chans.foldl (fun x c => judgeStart c x) (noteTrip .state (noteTrip .cleared (judgeHorn none s)))

theorem adoptClear_eq (s : State) : adoptClear s = afterClear (clearLifted s) := rfl

theorem afterClear_writes (s) : Writes startParts s (afterClear s) := by
  have hstart (u : State) : Writes startParts u (chans.foldl (fun x c => judgeStart c x) u) :=
    Writes.foldl (fun x c => judgeStart_writes c x) _ _
  exact (judgeHorn_writes ..).then ((noteTrip_writes ..).then ((noteTrip_writes ..).then (hstart _) (R := startParts))
    (R := startParts))

theorem clearReject_cases {s : State} {k : Nat} (h : s.clearReject k = none) : s.allClosed = true
    ∧ ∃ f, s.trip.firstOut = some f ∧ f.cause.code = k ∧ s.standing.any = false := by
  unfold State.clearReject at h
  split at h
  case h_2 => cases h
  case h_1 f hf =>
    split at h
    case isTrue => cases h
    case isFalse hk =>
      split at h
      case isTrue => cases h
      case isFalse hs =>
        split at h
        case isTrue => cases h
        case isFalse hc => exact ⟨by simpa using hc, f, hf, by simpa using hk, by simpa using hs⟩

theorem adoptClear_writes {s : State} {k : Nat} (h : s.clearReject k = none) :
    ∃ u, Write .clear s u ∧ Writes startParts u (adoptClear s) := by
  obtain ⟨hc, f, hf, -⟩ := clearReject_cases h
  rw [adoptClear_eq]
  exact ⟨_, Write.clear s hc (by rw [hf]; rfl), afterClear_writes _⟩

/-- The inner kinds of an INIT. -/
abbrev initParts : List Part := [.blank, .reset, .withdrawals, .chans, .tanks, .trip, .header, .notices]

theorem clearTank_writes (t s) : Writes initParts s (clearTank t s) := by
  have hreset (u : State) : Writes [.reset] u (u.setTank t Tank.blank) := (Write.reset t u).writes
  exact (setGaugeStep_writes t false s).then (hreset _)

theorem clearChannel_writes (c s) : Writes [.chans, .trip, .notices] s (clearChannel c s) :=
  (modChan_writes (Channel.step_initialised _)).then ((setHighSoon_writes ..).then ((setStrain_writes ..).then
    (setUnmetered_writes ..) (R := [.chans, .trip, .notices])) (R := [.chans, .trip, .notices]))

theorem noteCleared_writes (b c s) : Writes [.notices] s (noteCleared b c s) := by
  have hstate := Writes.ite (b := (b.chan c).state = (s.chan c).state) (.refl s) (noteChan_writes .state c s)
  have hholds := Writes.ite (b := (b.chan c).holds = (s.chan c).holds) hstate
    (hstate.then (noteChan_writes .holds c _) (R := [.notices]))
  have hauth := Writes.ite (b := (b.chan c).authorised = (s.chan c).authorised) hholds
    (hholds.then (noteChan_writes .auth c _) (R := [.notices]))
  exact Writes.ite hauth (hauth.then (noteChan_writes .hose c _))

/-- A channel that passes the INIT check commands its valve closed (R138). -/
theorem shut_of_initReject {s : State} (h : s.initReject = none) (c : Chan) : (s.chan c).state.command = .toClose := by
  have hall : (s.chan c).restful = true := by
    unfold State.initReject at h
    split at h
    case isTrue ha => exact List.all_eq_true.mp ha c (mem_chans c)
    case isFalse => cases h
  unfold Channel.restful at hall
  cases hst : (s.chan c).state <;> simp_all [ChState.command]

theorem Header.initialised_timersOk (h : Header) (x : TripState) (k : SiteConfig) : (h.initialised x k).TimersOk := by
  unfold Header.TimersOk Header.initialised
  split <;> simp

/-- The part as steps 1 and 2 of R180 leave it. -/
def initCleared (s : State) : State :=
  chans.foldl (fun x c => clearChannel c x) (tankNos.foldl (fun x t => clearTank t x)
    { withdrawWhere (fun _ => true) .init s with plan := Plan.blank })

theorem initCleared_writes (s) : Writes [.blank, .reset, .withdrawals, .chans, .tanks, .trip, .notices] s (initCleared s) := by
  have htanks (u : State) : Writes [.reset, .tanks, .trip, .notices] u (tankNos.foldl (fun x t => clearTank t x) u) := by
    refine Writes.foldl (fun x t => ?_) _ _
    have hreset (u : State) : Writes [.reset] u (u.setTank t Tank.blank) := (Write.reset t u).writes
    exact (setGaugeStep_writes t false x).then (hreset _)
  have hchans (u : State) : Writes [.chans, .trip, .notices] u (chans.foldl (fun x c => clearChannel c x) u) :=
    Writes.foldl (fun x c => clearChannel_writes c x) _ _
  have hblank (u : State) : Writes [.blank] u { u with plan := Plan.blank } := (Write.blank u).writes
  exact (withdrawWhere_writes ..).then ((hblank _).then ((htanks _).then (hchans _)
    (R := [.reset, .chans, .tanks, .trip, .notices])) (R := [.blank, .reset, .chans, .tanks, .trip, .notices]))

/-- Steps 3 and 4 of R180, from the part `s` before the INIT and `u` as step 2 left it. -/
def initNoted (s u : State) : State :=
  let s3 := u.modHeader fun h => h.initialised u.trip.state u.config
  let s4 := chans.foldl (fun x c => noteCleared s c x) s3
  let s5 := if s.header.state = s4.header.state then s4 else noteHeader .state s4
  if s.header.high = s5.header.high ∧ s.header.low = s5.header.low then s5 else noteHeader .order s5

theorem adoptInit_eq (s : State) : adoptInit s = initNoted s (initCleared s) := by
  unfold adoptInit initNoted initCleared
  with_reducible rfl

theorem initHeader_writes {u : State} (hs : ∀ c, (u.chan c).state.command = .toClose) :
    Writes [.header] u (u.modHeader fun h => h.initialised u.trip.state u.config) := by
  refine modHeader_writes ⟨fun _ => Header.initialised_timersOk .., fun _ _ => ?_, fun h _ c => ?_, rfl, rfl⟩
  · simp only [Header.initialised]
    split
    case isTrue h => simp [h]
    case isFalse h => simp [h]
  · exact ((Channel.flowsByGrant_iff _).mp (h.2.2 c)).2.1 (ne_flowing_of_shut (hs c))

theorem initNoted_writes {s u : State} (hs : ∀ c, (u.chan c).state.command = .toClose) :
    Writes [.header, .notices] u (initNoted s u) := by
  have hnotes (v : State) : Writes [.notices] v (chans.foldl (fun x c => noteCleared s c x) v) :=
    Writes.foldl (fun x c => noteCleared_writes s c x) _ _
  have hstate (v : State) := Writes.ite (b := s.header.state = v.header.state) (.refl v) (noteHeader_writes .state v)
  have horder (v : State) := Writes.ite (b := s.header.high = v.header.high ∧ s.header.low = v.header.low) (.refl v)
    (noteHeader_writes .order v)
  exact (initHeader_writes hs).then ((hnotes _).then ((hstate _).then (horder _) (R := [.notices])) (R := [.notices]))

theorem initCleared_shut {s : State} (h : s.initReject = none) (c : Chan) : ((initCleared s).chan c).state.command = .toClose := by
  exact (initCleared_writes s).shut (shut_of_initReject h c)

theorem adoptInit_innerWrites {s : State} (h : s.initReject = none) : Writes initParts s (adoptInit s) := by
  rw [adoptInit_eq]
  exact (initCleared_writes s).then (initNoted_writes (initCleared_shut h))

theorem adoptInit_writes {s : State} (h : s.initReject = none) : Writes [.init] s (adoptInit s) := (Write.init s h).writes

/-! ### PROPOSE and ENDORSE (R130 to R139) -/

/-- The kinds of a request that brings no CLEAR and no INIT about. -/
abbrev consentParts : List Part := [.enqueue, .fresh, .amend, .cancel, .authorise, .stops, .withdrawals] ++ startParts

theorem without_writes (id s) : Writes [.withdrawals] s { s with queue := s.queue.without id } :=
  (Write.withdraw (fun p => p.id != id) s).writes

theorem clearReject_raise (n : Notice) (k : Nat) (s : State) : (raise n s).clearReject k = s.clearReject k := by
  have hstanding : (raise n s).standing = s.standing := by
    have hlink (x : Port) : (x.offer n).link = x.link := congrArg Line.link (line_offer x n)
    simp only [State.standing, raise, hlink]
    rfl
  simp only [State.clearReject, hstanding]
  rfl

/-- What an adoption writes, by the proposal's kind (R137). -/
theorem adopt_writes (q : Proposal) (x : Side) (s : State) :
    Writes consentParts s (adopt q x s).1
      ∨ (q.body = .init ∧ Writes [.init, .withdrawals, .notices] s (adopt q x s).1)
      ∨ ∃ k u, q.body = .clear k ∧ s.clearReject k = none ∧ Writes [.withdrawals, .notices] s u ∧ u.queue = s.queue.without q.id
          ∧ ∃ v, Write .clear u v ∧ Writes startParts v (adopt q x s).1 := by
  have hout := without_writes q.id s
  unfold adopt
  simp only
  split
  case h_1 r _ => exact .inl (hout.then (noteProposal_writes ..))
  case h_2 hr =>
    have hnote := hout.then (noteProposal_writes (.adopted x) q _) (R := [.withdrawals, .notices])
    cases hb : q.body with
    | plan c t a r m => rw [hb] at hr; exact .inl (hnote.then (adoptPlan_writes hr))
    | amend i a r => rw [hb] at hr; exact .inl (hnote.then (adoptAmend_writes hr))
    | cancel i => exact .inl (hnote.then (adoptCancel_writes i _))
    | start c => rw [hb] at hr; exact .inl (hnote.then (adoptStart_writes hr))
    | clear k =>
      rw [hb] at hr
      have hadopt : (noteProposal (.adopted x) q { s with queue := s.queue.without q.id }).clearReject k = none := by
        rw [noteProposal, clearReject_raise]; exact hr
      exact .inr (.inr ⟨k, _, rfl, hr, hnote, rfl, by simpa only [carryOut] using adoptClear_writes hadopt⟩)
    | init => rw [hb] at hr; exact .inr (.inl ⟨rfl, hnote.then (adoptInit_writes hr)⟩)

/-! SUPPORT. Requests, the ports, the supply and every command as sequences of writes. -/


/-! ### PROPOSE and ENDORSE (R130 to R135) -/

/-- What a PROPOSE or an ENDORSE can do: no CLEAR and no INIT; or it adopts a pending INIT or CLEAR. -/
def ConsentOutcome (s t : State) : Prop :=
  Writes consentParts s t ∨ ∃ q ∈ s.queue.proposals,
    (q.body = .init ∧ Writes [.init, .withdrawals, .notices] s t)
      ∨ ∃ k u, q.body = .clear k ∧ s.clearReject k = none ∧ Writes [.withdrawals, .notices] s u ∧ u.queue = s.queue.without q.id
          ∧ ∃ v, Write .clear u v ∧ Writes startParts v t

/-- Every kind of a PROPOSE or an ENDORSE. -/
abbrev consentAllParts : List Part := .init :: .clear :: consentParts

theorem ConsentOutcome.writes {s t : State} (h : ConsentOutcome s t) : Writes consentAllParts s t := by
  rcases h with h | ⟨q, -, ⟨-, h⟩ | ⟨k, u, -, -, hu, -, v, hv, h⟩⟩
  · exact h.mono
  · exact h.mono
  · exact hu.then (hv.writes.then h (P := [.clear]) (R := clearParts))

theorem ConsentOutcome.refl (s : State) : ConsentOutcome s s := .inl (.refl s)

theorem adopt_outcome {q : Proposal} {s : State} (hq : q ∈ s.queue.proposals) (x : Side) : ConsentOutcome s (adopt q x s).1 := by
  rcases adopt_writes q x s with h | h | h
  · exact .inl h
  · exact .inr ⟨q, hq, .inl h⟩
  · exact .inr ⟨q, hq, .inr h⟩

theorem freeId_mem {used : List Nat} (k n : Nat) (h : freeId used k n ∈ used) : ∀ j < k, nextProposalId^[j] n ∈ used := by
  induction k generalizing n with
  | zero => intro j hj; exact absurd hj (Nat.not_lt_zero j)
  | succ k ih =>
    rw [freeId] at h
    split at h
    case isFalse hn => exact absurd h hn
    case isTrue hn =>
      intro j hj
      cases j with
      | zero => exact hn
      | succ j => rw [Function.iterate_succ_apply]; exact ih _ h j (by omega)

theorem nextProposalId_range {n : Nat} (h : 1 ≤ n ∧ n ≤ 255) : 1 ≤ nextProposalId n ∧ nextProposalId n ≤ 255 := by
  unfold nextProposalId; split <;> omega

theorem iterate_nextProposalId {n : Nat} (h : 1 ≤ n ∧ n ≤ 255) (j : Nat) : nextProposalId^[j] n = (n - 1 + j) % 255 + 1 := by
  induction j with
  | zero => simp only [Function.iterate_zero, id_eq, Nat.add_zero]; omega
  | succ j ih => rw [Function.iterate_succ_apply', ih, nextProposalId]; split <;> omega

theorem freeId_range {used : List Nat} (k : Nat) {n : Nat} (h : 1 ≤ n ∧ n ≤ 255) : 1 ≤ freeId used k n ∧ freeId used k n ≤ 255 := by
  induction k generalizing n with
  | zero => exact h
  | succ k ih =>
    rw [freeId]; split
    · exact ih (nextProposalId_range h)
    · exact h

/-- Nine tries find an id that at most eight proposals do not carry (R132). -/
theorem freeId_not_mem {used : List Nat} {n : Nat} (h : 1 ≤ n ∧ n ≤ 255) (hu : used.length ≤ 8) : freeId used 9 n ∉ used := by
  intro hmem
  have htried := freeId_mem 9 n hmem
  have hnodup : ((List.range 9).map fun j => nextProposalId^[j] n).Nodup := by
    refine List.Nodup.map_on (fun i hi j hj hij => ?_) List.nodup_range
    rw [List.mem_range] at hi hj
    rw [iterate_nextProposalId h, iterate_nextProposalId h] at hij
    omega
  have hsub : ((List.range 9).map fun j => nextProposalId^[j] n) ⊆ used := by
    intro x hx
    obtain ⟨j, hj, rfl⟩ := List.mem_map.mp hx
    exact htried j (List.mem_range.mp hj)
  have hlen := (hnodup.subperm hsub).length_le
  simp only [List.length_map, List.length_range] at hlen
  omega

/-- An accepted proposal keeps the queue's bounds (R131 row 4, R132). -/
theorem enqueue_bounded {q : ConsentQueue} {p : Proposal} (hb : (q.proposals.find? fun x => x.body == p.body) = none)
    (hr : ¬ (8 ≤ q.proposals.length ∨ 4 ≤ (q.ofSide p.side).length)) (hi : p.id = freeId (q.proposals.map Proposal.id) 9 q.nextId)
    (h : q.Bounded) : ConsentQueue.Bounded { proposals := q.proposals ++ [p], nextId := nextProposalId p.id } := by
  obtain ⟨-, hside, hbody, hid, hrange, hn⟩ := h
  simp only [not_or, Nat.not_le] at hr
  have hfree : p.id ∉ q.proposals.map Proposal.id := by
    rw [hi]; exact freeId_not_mem hn (by rw [List.length_map]; omega)
  have hp : 1 ≤ p.id ∧ p.id ≤ 255 := by rw [hi]; exact freeId_range 9 hn
  have hnew : p.body ∉ q.proposals.map Proposal.body := by
    rw [List.find?_eq_none] at hb
    intro hm
    obtain ⟨x, hx, hxb⟩ := List.mem_map.mp hm
    exact hb x hx (by simpa using hxb)
  refine ⟨by simp only [List.length_append, List.length_singleton]; omega, fun x => ?_, ?_, ?_, fun r hm => ?_, nextProposalId_range hp⟩
  · by_cases hx : p.side = x
    · subst hx
      have := hr.2
      simp only [ConsentQueue.ofSide] at this ⊢
      simp only [List.filter_append, List.length_append, List.filter_singleton, beq_self_eq_true, cond_true,
        List.length_singleton]
      omega
    · have := hside x
      simp only [ConsentQueue.ofSide] at this ⊢
      simpa [List.filter_append, hx] using this
  · rw [List.map_append]; exact List.nodup_append'.mpr ⟨hbody, by simp, by simpa using hnew⟩
  · rw [List.map_append]; exact List.nodup_append'.mpr ⟨hid, by simp, by simpa using hfree⟩
  · rcases List.mem_append.mp hm with hm | hm
    · exact hrange r hm
    · rw [List.mem_singleton.mp hm]; exact hp

theorem arrive_outcome (x : Side) (b : ProposalBody) (s : State) : ConsentOutcome s (arrive x b s).1 := by
  unfold arrive
  split
  case h_1 p hp =>
    split
    · exact .refl s
    · split
      · exact adopt_outcome (List.mem_of_find?_eq_some hp) x
      · exact .refl s
  case h_2 hb =>
    split
    · exact .refl s
    case isFalse hr =>
      refine .inl ((Write.enqueue _ s ?_).writes.then (noteProposal_writes ..) (P := [.enqueue]))
      exact enqueue_bounded (p := ⟨_, x, b, s.boundOf b, s.now, _⟩) hb hr rfl

theorem propose_outcome (x raw s) : ConsentOutcome s (propose x raw s).1 := by
  unfold propose
  split
  · split
    · exact arrive_outcome ..
    · exact .refl s
  · exact .refl s

theorem endorse_outcome (x id raw s) : ConsentOutcome s (endorse x id raw s).1 := by
  unfold endorse
  split
  · split
    · split
      case h_1 p hp =>
        repeat' split
        · exact .refl s
        · exact .refl s
        · exact adopt_outcome (List.mem_of_find?_eq_some hp) x
        · exact .refl s
      · exact .refl s
    · exact .refl s
  · exact .refl s

/-! ### The other requests (R168) -/

theorem doStatus_writes (p s) : Writes [.flags] s (doStatus p s).1 := (Write.flags p s).writes

theorem doReadEntry_state (n s) : (doReadEntry n s).1 = s := by
  unfold doReadEntry; repeat' split
  all_goals rfl

theorem doReadTank_state (n s) : (doReadTank n s).1 = s := by unfold doReadTank; split <;> rfl
theorem doReadChannel_state (n s) : (doReadChannel n s).1 = s := by unfold doReadChannel; split <;> rfl

theorem doStop_writes (p n s) : Writes (.shutdown :: stopParts) s (doStop p n s).1 := by
  unfold doStop; split
  · exact (shut_writes ..).mono
  · split
    · exact (channelStop_writes ..).mono
    · exact .refl s

theorem doPause_writes (p n s) : Writes [.chans, .grants, .evals, .notices] s (doPause p n s).1 := by
  unfold doPause; split
  · exact addHold_writes ..
  · exact .refl s

theorem Channel.keeps_pauseS (k : Channel) : k.holds.pauseS = true → (k.holdsWithout [.pauseB]).pauseS = true := by
  rw [Channel.holdsWithout_eq]; split <;> exact id

theorem Channel.keeps_pauseB (k : Channel) : k.holds.pauseB = true → (k.holdsWithout [.pauseS]).pauseB = true := by
  rw [Channel.holdsWithout_eq]; split <;> exact id

/-- The kinds of a CONTINUE, by its side (R94). -/
def continueParts : Side → List Part
  | .barge => [.unpauseB, .grants, .evals, .notices]
  | .ship => [.unpauseS, .grants, .evals, .notices]

theorem unpause_writes (p c s) : Writes (continueParts p) s (removeHold c (pauseOf p) s) := by
  unfold removeHold; split
  case isFalse => exact .refl s
  case isTrue =>
    cases p with
    | barge =>
      have hlift : Writes [.unpauseB, .notices] s (removeHolds c [.pauseB] s) :=
        updateChan_writes_of (Write.unpauseB c _ s (Channel.moves_holdsWithout ..) (.of_same rfl rfl) ⟨rfl, rfl, rfl⟩
          (Channel.keeps_pauseS _))
      exact hlift.then (regrant_writes ..)
    | ship =>
      have hlift : Writes [.unpauseS, .notices] s (removeHolds c [.pauseS] s) :=
        updateChan_writes_of (Write.unpauseS c _ s (Channel.moves_holdsWithout ..) (.of_same rfl rfl) ⟨rfl, rfl, rfl⟩
          (Channel.keeps_pauseB _))
      exact hlift.then (regrant_writes ..)

theorem doContinue_writes (p n s) : Writes (continueParts p) s (doContinue p n s).1 := by
  unfold doContinue; split
  · split
    · exact unpause_writes ..
    · exact .refl s
  · exact .refl s

theorem doSilence_writes (s) : Writes [.trip, .notices] s (doSilence s).1 := by
  have hmute : Writes [.trip] s (s.modTrip fun t => { t with mute := some t.horn }) :=
    modTrip_writes (.of_horn s.trip s.trip.horn (some s.trip.horn)) (.inl rfl)
  unfold doSilence; split
  · exact .refl s
  · exact hmute.then (noteTrip_writes ..)

theorem declareTank_writes (t d s) : Writes [.declare, .tanks, .trip, .notices] s (declareTank t d s) := by
  have hdecl : Writes [.declare] s (s.modTank t fun k => k.declare d) := by
    refine (Write.declare t _ s fun h => ?_).writes
    obtain ⟨h1, h2, -, h4⟩ := h
    exact ⟨h1, h2, (fun h => nomatch h), h4⟩
  exact hdecl.then ((flushWindow_writes ..).then ((setGaugeStep_writes ..).then ((noteLevelChange_writes ..).then (noteTank_writes ..)
    (R := [.notices])) (R := [.tanks, .trip, .notices])) (R := [.tanks, .trip, .notices]))

theorem doTankdef_writes (n d s) : Writes [.declare, .tanks, .trip, .notices] s (doTankdef n d s).1 := by
  unfold doTankdef; repeat' split
  all_goals first | exact .refl s | exact declareTank_writes ..

/-- A write of a tank's declaration or strapping that leaves window and marks. -/
theorem strap_writes {t : TankNo} {f : Tank → Tank} {s : State} (hw : ∀ k, (f k).window = k.window) (hs : ∀ k, (f k).suspect = k.suspect)
    (ht : ∀ k, (f k).stale = k.stale) (hi : ∀ k, (f k).staleTimer = k.staleTimer) : Writes [.declare] s (s.modTank t f) :=
  (Write.declare t _ s fun h => by unfold Tank.WindowOk; rw [hw, hs, ht, hi]; exact h).writes

theorem doStrapSeek_writes (n i s) : Writes [.cursor] s (doStrapSeek n i s).1 := by
  unfold doStrapSeek; repeat' split
  · exact (Write.cursor _ s).writes
  all_goals exact .refl s

theorem putPoints_writes (ps s) : Writes [.declare, .cursor, .tanks, .notices] s (putPoints ps s).1 := by
  have hput : Writes [.declare] s (s.modTank s.cursor.tank fun k =>
      { k with points := writePoints k.points s.cursor.index ps, strap := .unsealed }) :=
    strap_writes (fun _ => rfl) (fun _ => rfl) (fun _ => rfl) (fun _ => rfl)
  have hmove (x : Cursor) (u : State) : Writes [.cursor] u { u with cursor := x } := (Write.cursor x u).writes
  have habove (k : StrapState) (u : State) : Writes [.tanks, .notices] u (match k with
      | .sealed _ => setAbove s.cursor.tank false u
      | .empty | .unsealed => u) := by
    cases k with
    | sealed n => exact setAbove_writes ..
    | empty => exact .refl u
    | unsealed => exact .refl u
  have hdone := (hput.then (hmove { s.cursor with index := s.cursor.index + ps.length } _) (R := [.declare, .cursor])).then
    (habove (s.tank s.cursor.tank).strap _) (R := [.declare, .cursor, .tanks, .notices])
  exact Writes.ite hdone (hdone.then (noteTank_writes ..))

theorem doStrapPut_writes (n p0 p1 p2 p3 s) : Writes [.declare, .cursor, .tanks, .notices] s (doStrapPut n p0 p1 p2 p3 s).1 := by
  unfold doStrapPut; simp only; repeat' split
  all_goals first | exact .refl s | exact putPoints_writes ..

theorem sealTable_writes (t n s) : Writes [.declare, .tanks, .notices] s (sealTable t n s) := by
  have hseal : Writes [.declare] s (s.modTank t fun k => { k with strap := .sealed n }) :=
    strap_writes (fun _ => rfl) (fun _ => rfl) (fun _ => rfl) (fun _ => rfl)
  exact hseal.then ((setAbove_writes ..).then (noteTank_writes ..) (R := [.tanks, .notices]))

theorem doStrapSeal_writes (n w s) : Writes [.declare, .tanks, .notices] s (doStrapSeal n w s).1 := by
  unfold doStrapSeal; simp only; repeat' split
  all_goals first | exact .refl s | exact sealTable_writes ..

theorem doLevel_writes (n l q a b s) : Writes flowParts s (doLevel n l q a b s).1 := by
  unfold doLevel
  split
  case h_2 => exact .refl s
  case h_1 t _ =>
    split
    · simp only
      exact acceptReading_writes t l q a b s
    · exact .refl s

theorem lineupEffect_writes (e v s) : Writes flowParts s (lineupEffect e v s) := by
  unfold lineupEffect; repeat' split
  · exact (judgeStart_writes ..).mono
  · exact (addHold_writes ..).mono
  · exact (removeHold_writes ..).mono
  · exact (channelStop_writes ..).mono
  · exact (channelStop_writes ..).mono
  all_goals exact .refl s

theorem doLineup_writes (n v s) : Writes flowParts s (doLineup n v s).1 := by
  unfold doLineup
  split
  case h_2 => exact .refl s
  case h_1 i _ =>
    split
    case h_2 => exact .refl s
    case h_1 e he =>
      split
      case isFalse => exact .refl s
      case isTrue hc =>
        have hcur : s.current e.chan = some (i, e) := current_eq_some_iff.mpr ⟨by simpa [State.isCurrent] using hc, he⟩
        have hset : Writes [.figures] s (s.modEntry i fun e => { e with lineup := v }) :=
          modEntry_writes fun f hf => by
            rw [he] at hf; cases hf
            exact .of_same (current_live hcur).2.2 rfl rfl rfl rfl rfl rfl rfl
        exact (Writes.ite hset.mono (hset.then (noteEntry_writes .lineup i _))).then (lineupEffect_writes e v _)
          (P := [.figures, .notices])

theorem doEntryEnd_writes (n s) : Writes endParts s (doEntryEnd n s).1 := by
  unfold doEntryEnd; repeat' split
  · exact endCurrent_writes ..
  all_goals exact .refl s

/-- The kinds of a CHCONFIG. -/
abbrev configParts : List Part := [.config, .rates, .header, .notices]

theorem configure_writes (c k s) : Writes configParts s (configure c k s) := by
  have hput : Writes [.config] s { s with config := { s.config with channels := s.config.channels.set c k } } :=
    (Write.config { s.config with channels := s.config.channels.set c k } s (.inl rfl)).writes
  have hrate (u : State) : Writes [.rates] u (u.modMeter c fun m => { m with windowCount := 0 }) :=
    (Write.rates c (fun m => { m with windowCount := 0 }) u fun _ => ⟨rfl, rfl⟩).writes
  have hdone (b : Prop) [Decidable b] := (Writes.ite (b := b) (hput.mono (Q := [.config, .rates])) (hput.then (hrate _))).then
    (noteChan_writes .config c _) (R := configParts)
  exact Writes.ite (hdone _) ((hdone _).then (moveGroup_writes ..))

theorem doChconfig_writes (n k s) : Writes configParts s (doChconfig n k s).1 := by
  unfold doChconfig; repeat' split
  all_goals first | exact .refl s | exact configure_writes ..

theorem doHeaderconfig_writes (h d s) : Writes [.config, .notices] s (doHeaderconfig h d s).1 := by
  unfold doHeaderconfig; split
  · exact .refl s
  · split
    · exact .refl s
    case isFalse hi =>
      exact ((Write.config { s.config with header := h, device := d } s (.inr (not_not.mp hi))).writes (P := [.config])).then
        (noteHeader_writes ..)

theorem doPriority_writes (q s) : Writes [.config, .grants, .evals, .notices] s (doPriority q s).1 := by
  unfold doPriority; split
  · exact .refl s
  · exact ((Write.config { s.config with priority := q } s (.inl rfl)).writes (P := [.config])).then
      ((noteHeader_writes ..).then (regrant_writes ..) (R := [.grants, .evals, .notices]))

theorem doStore_writes (s) : Writes [.store] s (doStore s).1 := by
  unfold doStore; split
  · exact .refl s
  · exact (Write.store { s.store with inFlight := some { snapshot := s.config, accepted := s.now } } s rfl rfl).writes

theorem armIdle_writes {c : Chan} {s : State} (h : (s.chan c).state ≠ .flowing) : Writes [.chans, .notices] s (armIdle c s) :=
  updateChan_writes (Channel.step_rest h rfl rfl rfl rfl rfl rfl rfl rfl)

theorem startStrain_writes (c s) : Writes [.chans, .trip, .notices] s (startStrain c s) := by
  have htimer (x : Channel → Option Nat) : Writes [.chans] s (s.modChan c fun k => { k with strainTimer := x k }) :=
    modChan_writes (.of_same rfl rfl rfl rfl rfl rfl rfl rfl)
  unfold startStrain
  exact (htimer _).then (setStrain_writes ..)

theorem doArm_writes (n s) : Writes startParts s (doArm n s).1 := by
  unfold doArm
  split
  case h_2 => exact .refl s
  case h_1 c _ =>
    simp only; split
    case h_1 h =>
      split
      · have hidle := armIdle_writes (c := c) (s := s) (by rw [h]; decide)
        have hstrain := hidle.then (startStrain_writes c _) (R := [.chans, .trip, .notices])
        have hstart := hstrain.then (judgeStart_writes c (startStrain c (armIdle c s))) (R := startParts)
        simp only [doneWith]; exact hstart
      · exact .refl s
    case h_2 => exact .refl s
    case h_3 h =>
      split
      · have hidle := armIdle_writes (c := c) (s := s) (by rw [h]; decide)
        have hstart := hidle.then (judgeStart_writes c (armIdle c s)) (R := startParts)
        simp only [doneWith]; exact hstart
      · exact .refl s
    all_goals exact .refl s

theorem maskChannel_writes {c : Chan} {s : State} (h : (s.chan c).state ≠ .flowing) :
    Writes [.chans, .trip, .notices] s (maskChannel c s) := by
  have hmask := updateChan_writes (c := c) (s := s) (f := fun k => { k with state := .masked, command := .toClose, strainTimer := none })
    (Channel.step_rest h rfl rfl rfl rfl rfl rfl rfl rfl)
  exact hmask.then ((setAuth_false_writes ..).then (setStrain_writes ..) (R := [.chans, .trip, .notices]))

theorem doMask_writes (n s) : Writes [.chans, .trip, .notices] s (doMask n s).1 := by
  unfold doMask
  split
  case h_2 => exact .refl s
  case h_1 c _ =>
    simp only; split
    case h_1 => exact (setAuth_false_writes ..).mono
    case h_2 h =>
      have hmask := maskChannel_writes (c := c) (s := s) (by rw [h]; decide)
      simp only [doneWith]; exact hmask
    case h_3 h =>
      split
      · have hmask := maskChannel_writes (c := c) (s := s) (by rw [h]; decide)
        simp only [doneWith]; exact hmask
      · exact .refl s
    all_goals exact .refl s

theorem doHose_writes (n s) : Writes [.chans, .notices] s (doHose n s).1 := by
  have hdrain (c : Chan) : Writes [.chans] s (s.modChan c fun k => { k with hose := .drained }) :=
    modChan_writes (.of_same rfl rfl rfl rfl rfl rfl rfl rfl)
  unfold doHose
  split
  case h_2 => exact .refl s
  case h_1 c _ =>
    simp only; split
    · exact Writes.ite (.refl s) ((hdrain c).then (noteChan_writes ..))
    · exact .refl s

/-- The kinds of a request of side `p`, by its kind (R168). -/
def requestParts (p : Side) : RequestKind → List Part
  | .status => [.flags]
  | .readEntry | .readTank | .readChannel | .readTrip => []
  | .propose | .endorse => consentAllParts
  | .stop => .shutdown :: stopParts
  | .pause => [.chans, .grants, .evals, .notices]
  | .continue_ => continueParts p
  | .silence => [.trip, .notices]
  | .tankdef => [.declare, .tanks, .trip, .notices]
  | .strapSeek => [.cursor]
  | .strapPut => [.declare, .cursor, .tanks, .notices]
  | .strapSeal => [.declare, .tanks, .notices]
  | .level | .lineup => flowParts
  | .entryEnd => endParts
  | .chconfig => configParts
  | .headerconfig => [.config, .notices]
  | .priority => [.config, .grants, .evals, .notices]
  | .arm => startParts
  | .mask => [.chans, .trip, .notices]
  | .hose => [.chans, .notices]
  | .store => [.store]

theorem handle_writes (p : Side) (r : Request) (s : State) : Writes (requestParts p r.kind) s (handle p r s).1 := by
  cases r with
  | status => exact doStatus_writes p s
  | readEntry n => rw [handle, doReadEntry_state]; exact .refl s
  | readTank n => rw [handle, doReadTank_state]; exact .refl s
  | readChannel n => rw [handle, doReadChannel_state]; exact .refl s
  | readTrip => exact .refl s
  | propose b => exact (propose_outcome p b s).writes
  | endorse i b => exact (endorse_outcome p i b s).writes
  | stop n => exact doStop_writes p n s
  | pause n => exact doPause_writes p n s
  | continue_ n => exact doContinue_writes p n s
  | silence => exact doSilence_writes s
  | tankdef n d => exact doTankdef_writes n d s
  | strapSeek n i => exact doStrapSeek_writes n i s
  | strapPut n p0 p1 p2 p3 => exact doStrapPut_writes n p0 p1 p2 p3 s
  | strapSeal n w => exact doStrapSeal_writes n w s
  | level n l q a b => exact doLevel_writes n l q a b s
  | lineup n v => exact doLineup_writes n v s
  | entryEnd n => exact doEntryEnd_writes n s
  | chconfig n k => exact doChconfig_writes n k s
  | headerconfig h d => exact doHeaderconfig_writes h d s
  | priority q => exact doPriority_writes q s
  | arm n => exact doArm_writes n s
  | mask n => exact doMask_writes n s
  | hose n => exact doHose_writes n s
  | store => exact doStore_writes s

/-! SUPPORT. The ports, the supply and every command as sequences of writes; the inner writes of those said whole. -/


/-! ### The kind of a request body (R167) -/

theorem kind_of_map {α : Type} {o : Option α} {f : α → Request} {k : RequestKind} {r : Request} (h : o.map f = some r)
    (hf : ∀ a, (f a).kind = k) : r.kind = k := by
  obtain ⟨a, -, rfl⟩ := Option.map_eq_some_iff.mp h
  exact hf a

theorem kind_of_decode {k : RequestKind} {body : List Byte} {r : Request} (h : decodeRequest k body = some r) : r.kind = k := by
  cases body with
  | nil => cases h
  | cons b fs =>
    rw [decodeRequest] at h
    cases k <;> simp only [decodeFields] at h
    case propose => exact kind_of_map h fun _ => rfl
    case tankdef => unfold decodeTankdef at h; split at h <;> cases h; rfl
    case strapPut => unfold decodeStrapPut at h; split at h <;> cases h; rfl
    case chconfig => unfold decodeChconfig at h; split at h; exacts [kind_of_map h fun _ => rfl, nomatch h]
    case headerconfig => unfold decodeHeaderconfig at h; split at h; exacts [kind_of_map h fun _ => rfl, nomatch h]
    case endorse => split at h; exacts [kind_of_map h fun _ => rfl, nomatch h]
    case lineup => split at h; exacts [kind_of_map h fun _ => rfl, nomatch h]
    case priority => split at h; exacts [kind_of_map h fun _ => rfl, nomatch h]
    case level =>
      split at h
      · split at h <;> cases h; rfl
      · cases h
    all_goals split at h <;> cases h; rfl

/-! ### The inner kinds of the operations said whole -/

/-- The writes an operation said whole is made of. -/
def Part.raw : Part → List Part
  | .ending => applyParts
  | .shutdown => shutParts
  | .pulse => countParts
  | .amend => .late :: .figures :: applyParts
  | .clear => clearInnerParts
  | .init => initParts
  | .defaults => [.storeDefaults, .cautionDefaults, .trip, .notices]
  | p => [p]

/-- A sequence of writes, each a sequence of its own. -/
theorem Writes.expand {P Q : List Part} {s t : State} (h : Writes P s t) (hP : ∀ p ∈ P, ∀ s t, Write p s t → Writes Q s t) :
    Writes Q s t := by
  induction h with
  | refl => exact .refl _
  | tail _ hw ih =>
    obtain ⟨p, hp, hw⟩ := hw
    exact ih.then (hP p hp _ _ hw) (List.Subset.refl Q) (List.Subset.refl Q)

theorem setConfigDefaults_writes (v s) : Writes [.storeDefaults, .cautionDefaults, .trip, .notices] s (setConfigDefaults v s) := by
  have hstore : Writes [.storeDefaults] s { s with store := { s.store with configDefaults := v } } := (Write.storeDefaults v s).writes
  have hcautions (cs : List CautionEntry) (u : State) : Writes [.cautionDefaults] u (u.modTrip fun t => { t with cautions := cs }) :=
    (Write.cautionDefaults { u.trip with cautions := cs } u ⟨rfl, rfl, rfl, rfl, rfl, rfl⟩ rfl).writes
  have hshown (cs : List CautionEntry) (b : Bool) (a : Option HornClass) (u : State) : Writes [.cautionDefaults, .trip, .notices] u
      (judgeHorn a (noteCaution .configDefaults b (u.modTrip fun t => { t with cautions := cs }))) :=
    (hcautions cs u).then ((noteCaution_writes ..).then (judgeHorn_writes ..) (R := [.trip, .notices]))
  have hset (u : State) : Writes [.cautionDefaults, .trip, .notices] u (setCaution .configDefaults v u) :=
    Writes.ite (Writes.ite (.refl u) (hshown _ _ _ u)) (Writes.ite (hshown _ _ _ u) (.refl u))
  exact Writes.ite (.refl s) (hstore.then (hset _))

theorem Write.raw {p : Part} {s t : State} (h : Write p s t) : Writes p.raw s t := by
  by_cases hp : p.raw = [p]
  case pos => rw [hp]; exact h.writes (by simp)
  cases h with
  | ending c => exact settleEnd_writes c s
  | shutdown k o => exact shutdown_writes k o s
  | pulse c _ hs => exact countAndRecount_writes hs
  | amend i a r _ hr =>
    refine (adoptAmend_innerWrites hr).expand fun p hp u v hw => ?_
    by_cases he : p = .ending
    · subst he
      cases hw with
      | ending d => exact (settleEnd_writes d u).mono
    · have hsub : ∀ p ∈ amendParts, p ≠ .ending → p ∈ Part.raw .amend := by decide
      exact hw.writes (hsub p hp he)
  | clear _ hc hf => exact clearLifted_writes hc hf
  | init _ hi => exact adoptInit_innerWrites hi
  | defaults v => exact setConfigDefaults_writes v s
  | _ => exact absurd rfl hp

/-- A sequence of writes, its operations said by their inner writes. -/
theorem Writes.raw {P : List Part} {s t : State} (h : Writes P s t) : Writes (P.flatMap Part.raw) s t :=
  h.expand fun p hp _ _ hw => Relation.ReflTransGen.mono
    (fun _ _ ⟨q, hq, hw⟩ => ⟨q, List.mem_flatMap.mpr ⟨p, hp, hq⟩, hw⟩) _ _ hw.raw

/-! ### The ports (R163 to R172) -/

/-- A port's record, its frame in progress apart. -/
theorem Port.LineStep.of_rx (x : Port) (r : Option (List Byte)) : x.LineStep { x with rx := r } :=
  ⟨List.prefix_rfl, rfl, rfl, rfl, fun h => ⟨h.replies, h.notices, h.silent, h.live⟩⟩

theorem line_writes {p : Side} {f : Port → Port} {s : State} (h : (s.port p).LineStep (f (s.port p))) :
    Writes [.line] s (s.modPort p f) := (Write.line p f s h).writes

theorem rx_writes (p r s) : Writes [.line] s (s.modPort p fun x => { x with rx := r }) := line_writes (.of_rx _ r)

theorem refreshLink_writes (p s) : Writes [.line, .notices] s (refreshLink p s) := by
  unfold refreshLink; simp only; split
  case h_1 h =>
    exact (line_writes ⟨List.prefix_rfl, rfl, rfl, rfl, fun hr => ⟨hr.replies, hr.notices, fun hs => absurd (h.symm.trans hs) (by simp),
      fun _ => rfl⟩⟩).mono
  case h_2 =>
    exact (line_writes ⟨List.prefix_rfl, rfl, rfl, rfl, fun hr => ⟨hr.replies, hr.notices, by simp, fun _ => rfl⟩⟩).then
      (noteTrip_writes ..)

/-- A frame leaves its port LIVE (R165). -/
theorem live_refreshLink (p s) : ((refreshLink p s).port p).link = .live := congrArg Line.link (line_refreshLink p s)

theorem pushReply_writes {p : Side} {r : Reply} {s : State} (hl : (s.port p).link = .live) (hr : (s.port p).replies.length < 4) :
    Writes [.line] s (pushReply p r s) :=
  line_writes ⟨List.prefix_append .., rfl, rfl, rfl, fun h =>
    ⟨by simp only [List.length_append, List.length_singleton]; omega, h.notices, fun hs => absurd (hl.symm.trans hs) (by simp), h.live⟩⟩

/-- The kinds that touch a port's link, its replies or its transmitter. -/
abbrev lineParts : List Part := [.line, .silence, .sent, .sending]

theorem line_clearRecord (q s) : ((clearRecord s).port q).line = (s.port q).line := by
  have h (f : Header → Header) (u : State) : ((changeHeader f u).port q).line = (u.port q).line := by
    unfold changeHeader; simp only; split
    · rfl
    · cases q <;> exact line_offer ..
  exact h _ _

/-- No other kind touches a port's link, its replies, its frame in progress or its transmitter. -/
theorem Write.line_eq {p : Part} {s t : State} (h : Write p s t) (hp : p ∉ lineParts) (hm : p.item ≠ .many ∨ p = .emptied) (q : Side) :
    (t.port q).line = (s.port q).line := by
  cases h with
  | notice n => cases q <;> exact line_offer ..
  | ended => cases q <;> rfl
  | flags r =>
    by_cases hq : r = q
    · subst hq; rw [State.modPort, port_setPort, if_pos rfl]; rfl
    · rw [State.modPort, port_setPort, if_neg hq]
  | emptied => exact line_clearRecord q s
  | line | silence | sent | sending => exact absurd (by simp) hp
  | ending | shutdown | pulse | amend | clear | init | defaults => simp [Part.item] at hm
  | grants => rw [giveAll_eq]; cases q <;> rfl
  | promote c => rw [promote_eq]; cases q <;> rfl
  | _ => cases q <;> rfl

theorem Writes.line_eq {P : List Part} {s t : State} (h : Writes P s t) (q : Side)
    (hP : ∀ p ∈ P.flatMap Part.raw, p ∉ lineParts ∧ (p.item ≠ .many ∨ p = .emptied) := by decide) :
    (t.port q).line = (s.port q).line :=
  h.raw.frame (fun u => (u.port q).line) fun p hp _ _ hw => hw.line_eq (hP p hp).1 (hP p hp).2 q

theorem requestParts_raw (p : Side) (k : RequestKind) :
    ∀ q ∈ (requestParts p k).flatMap Part.raw, q ∉ lineParts ∧ (q.item ≠ .many ∨ q = .emptied) := by
  cases k <;> cases p <;> decide

theorem line_handle (p : Side) (r : Request) (s : State) (q : Side) : ((handle p r s).1.port q).line = (s.port q).line :=
  (handle_writes p r s).line_eq q (requestParts_raw p r.kind)

theorem judgeRequest_writes (p k body s) : Writes (requestParts p k) s (judgeRequest p k body s).1 := by
  unfold judgeRequest; split
  · split
    case h_1 r hr => rw [← kind_of_decode hr]; exact handle_writes p r s
    case h_2 => exact .refl s
  · exact .refl s

theorem line_judgeRequest (p k body s q) : ((judgeRequest p k body s).1.port q).line = (s.port q).line := by
  unfold judgeRequest; split
  · split
    · exact line_handle ..
    · rfl
  · rfl

/-- The kinds of a request's frame (R167). -/
def frameParts (p : Side) (k : RequestKind) : List Part := .line :: .notices :: requestParts p k

theorem takeRequest_writes (p k body s) : Writes (frameParts p k) s (takeRequest p k body s) := by
  have hlink : Writes (frameParts p k) s (refreshLink p s) := (refreshLink_writes p s).mono (by simp [frameParts])
  unfold takeRequest; simp only; split
  case isTrue => exact hlink
  case isFalse hr =>
    have hline := line_judgeRequest p k body (refreshLink p s) p
    have hpush := pushReply_writes (p := p) (s := (judgeRequest p k body (refreshLink p s)).1)
      (r := { tag := bodyTag body, kind := k.code, result := (judgeRequest p k body (refreshLink p s)).2 })
      ((congrArg Line.link hline).trans (live_refreshLink p s))
      ((congrArg (fun l => l.replies.length) hline).trans_lt (Nat.lt_of_not_le hr))
    exact (hlink.then (judgeRequest_writes p k body _) (List.Subset.refl _) (by simp [frameParts])).then hpush
      (List.Subset.refl _) (by simp [frameParts])

theorem takeUnassigned_writes (p k body s) : Writes [.line, .notices] s (takeUnassigned p k body s) := by
  have hlink := refreshLink_writes p s
  unfold takeUnassigned; simp only; split
  case isTrue => exact hlink
  case isFalse hr => exact hlink.then (pushReply_writes (live_refreshLink p s) (Nat.lt_of_not_le hr))

/-- The kinds of a frame of whatever kind. -/
def anyFrameParts (p : Side) : List Part := .line :: .notices :: (RequestKind.all.filter fun k => permits k p).flatMap (requestParts p)

theorem takeRequest_refused {p : Side} {k : RequestKind} {body : List Byte} {s : State} (h : permits k p = false) :
    Writes [.line, .notices] s (takeRequest p k body s) := by
  have hlink := refreshLink_writes p s
  unfold takeRequest; simp only; split
  case isTrue => exact hlink
  case isFalse hr =>
    simp only [judgeRequest, h, Bool.false_eq_true, if_false, refuse]
    exact hlink.then (pushReply_writes (live_refreshLink p s) (Nat.lt_of_not_le hr))

theorem mem_requestKinds (k : RequestKind) : k ∈ RequestKind.all := by cases k <;> decide

theorem takeFrame_writes (p k body s) : Writes (anyFrameParts p) s (takeFrame p k body s) := by
  unfold takeFrame; split
  case h_2 => exact (takeUnassigned_writes ..).mono (by simp [anyFrameParts])
  case h_1 k _ =>
    cases hk : permits k p with
    | false => exact (takeRequest_refused hk).mono (by simp [anyFrameParts])
    | true =>
      refine (takeRequest_writes p k body s).mono fun q hq => ?_
      simp only [frameParts, anyFrameParts, List.mem_cons, List.mem_flatMap, List.mem_filter] at hq ⊢
      rcases hq with h | h | h
      · exact .inl h
      · exact .inr (.inl h)
      · exact .inr (.inr ⟨k, ⟨mem_requestKinds k, hk⟩, h⟩)

theorem takeByte_writes (p b s) : Writes (anyFrameParts p) s (takeByte p b s) := by
  have hrx (r : Option (List Byte)) : Writes (anyFrameParts p) s (s.modPort p fun x => { x with rx := r }) :=
    (rx_writes p r s).mono (by simp [anyFrameParts])
  unfold takeByte; split
  · exact Writes.ite (hrx _) (.refl s)
  · split
    · exact hrx _
    · exact hrx _
    · exact takeFrame_writes ..

/-- The kinds of a port's silence. -/
abbrev silenceParts : List Part := [.silence, .cursor, .freeCount, .withdrawals, .shutdown, .notices]

/-- The part as steps 1 to 4 of R166 leave it, ahead of the hand-offs. -/
def silenced (p : Side) (s : State) : State :=
  let s1 := s.modPort p Port.silenced
  let s2 := match p with
    | .ship => { s1 with cursor := Cursor.origin }
    | .barge => s1
  { noteTrip .state s2 with freeCount := s.freeCount + 1 }

theorem goSilent_eq (p : Side) (s : State) : goSilent p s =
    if Config.silenceWithdrawsFirst s.freeCount then shutdownSilent p (withdrawSilent p (silenced p s))
    else withdrawSilent p (shutdownSilent p (silenced p s)) := rfl

theorem silenced_writes (p s) : Writes [.silence, .cursor, .freeCount, .notices] s (silenced p s) := by
  have hport (p : Side) : Writes [.silence] s (s.modPort p Port.silenced) := (Write.silence p s).writes
  have hcursor (u : State) : Writes [.cursor] u { u with cursor := Cursor.origin } := (Write.cursor _ u).writes
  have hfree (n : Nat) (u : State) : Writes [.freeCount] u { u with freeCount := n } := (Write.freeCount n u).writes
  have hnote (u : State) := (noteTrip_writes .state u).then (hfree (s.freeCount + 1) _) (R := [.freeCount, .notices])
  cases p with
  | barge => exact (hport .barge).then (hnote _)
  | ship => exact (hport .ship).then ((hcursor _).then (hnote _) (R := [.cursor, .freeCount, .notices]))

theorem goSilent_writes (p s) : Writes silenceParts s (goSilent p s) := by
  have hout (u : State) : Writes [.withdrawals, .notices] u (withdrawSilent p u) := withdrawWhere_writes ..
  have hshut (u : State) : Writes [.shutdown] u (shutdownSilent p u) := shut_writes ..
  have hready := silenced_writes p s
  rw [goSilent_eq]
  exact Writes.ite (hready.then ((hout (silenced p s)).then (hshut _) (R := silenceParts)))
    (hready.then ((hshut (silenced p s)).then (hout _) (R := silenceParts)))

theorem takeSilence_writes (p s) : Writes silenceParts s (takeSilence p s) := Writes.ite (goSilent_writes p s) (.refl s)

theorem takeLapse_writes (id s) : Writes [.withdrawals, .notices] s (takeLapse id s) := by
  unfold takeLapse; split
  · exact Writes.ite ((without_writes id s).then (noteProposal_writes ..)) (.refl s)
  · exact .refl s

/-! ### The supply (R176 to R179) -/

/-- The kinds of a store completion. -/
abbrev completionParts : List Part := [.copy, .freeCount, .defaults, .notices]

theorem completeStore_writes (v w s) : Writes completionParts s (completeStore v w s) := by
  have hcopy (x : Store) (hx : x.configDefaults = s.store.configDefaults) : Writes [.copy] s { s with store := x } :=
    (Write.copy x s hx).writes
  have hfree (n : Nat) (u : State) : Writes [.freeCount] u { u with freeCount := n } := (Write.freeCount n u).writes
  have hdefaults (u : State) : Writes [.defaults] u (setConfigDefaults false u) := (Write.defaults false u).writes
  have hnote (b : Bool) (u : State) : Writes [.notices] u (noteStore b w u) := raise_writes ..
  unfold completeStore; split
  · exact (hcopy { s.store with copy := StoredCopy.whole w.snapshot, valid := true, inFlight := none } rfl).then
      ((hdefaults _).then (hnote true _) (R := completionParts))
  · exact (hcopy { s.store with copy := StoredCopy.unrelied s.freeCount, valid := false, inFlight := none } rfl).then
      ((hfree (s.freeCount + 1) _).then (hnote false _) (R := completionParts))

theorem takeCompletion_writes (v s) : Writes completionParts s (takeCompletion v s) := by
  unfold takeCompletion; split
  · exact completeStore_writes ..
  · exact .refl s

/-- The kinds of a loss of supply. -/
abbrev lossParts : List Part := [.supply, .freeCount, .copy]

theorem losePower_writes (s) : Writes lossParts s (losePower s) := by
  have hoff : Writes [.supply] s { s with powered := false } := (Write.supply false s).writes
  have hfree (n : Nat) (u : State) : Writes [.freeCount] u { u with freeCount := n } := (Write.freeCount n u).writes
  have hcopy (x : Store) (u : State) (hx : x.configDefaults = u.store.configDefaults) : Writes [.copy] u { u with store := x } :=
    (Write.copy x u hx).writes
  have hcut (w : StoreWrite) (n : Nat) : (s.store.cut w n).configDefaults = s.store.configDefaults := by
    unfold Store.cut; split <;> rfl
  unfold losePower; split
  case h_1 w _ => exact hoff.then ((hfree (s.freeCount + 1) _).then (hcopy (s.store.cut w s.freeCount) _ (hcut _ _)) (R := lossParts))
  case h_2 => exact hoff.mono

theorem loopAtStart_writes (l s) : Writes [.shutdown] s (loopAtStart l s) := Writes.ite (shut_writes ..) (.refl s)

theorem strokeAtStart_writes (c s) : Writes faultParts s (strokeAtStart c s) := by
  refine Writes.ite (strokeTimer_writes c _ s).mono (Writes.ite (valveFault_writes c s) (.refl s))

/-- The part as power-on leaves it before step 5 of R179: the loops' causes taken, CONFIG_DEFAULTS handed on. -/
def startLoops (agrees : Bool) (f : FieldInputs) (s : State) : State :=
  loopAtStart .ship (loopAtStart .barge (powerOnBase agrees f s))

theorem startLoops_writes (agrees f s) : Writes [.shutdown] (powerOnBase agrees f s) (startLoops agrees f s) :=
  (loopAtStart_writes ..).then (loopAtStart_writes ..)

theorem cautionDefaults_writes (s) : Writes [.cautionDefaults, .trip, .notices] s (cautionOn .configDefaults s) := by
  have hadd (cs : List CautionEntry) : Writes [.cautionDefaults] s (s.modTrip fun t => { t with cautions := cs }) :=
    (Write.cautionDefaults { s.trip with cautions := cs } s ⟨rfl, rfl, rfl, rfl, rfl, rfl⟩ rfl).writes
  exact Writes.ite (.refl s) ((hadd _).then ((noteCaution_writes ..).then (judgeHorn_writes ..) (R := [.trip, .notices])))

/-- Steps 5 and 6 of R179. -/
def startStrokes (s : State) : State := judgeSettled (chans.foldl (fun x c => strokeAtStart c x) s)

theorem startStrokes_writes (s) : Writes (.settle :: faultParts) s (startStrokes s) := by
  have hstrokes : Writes faultParts s (chans.foldl (fun x c => strokeAtStart c x) s) :=
    Writes.foldl (fun x c => strokeAtStart_writes c x) _ _
  exact hstrokes.then (judgeSettled_writes _) (R := .settle :: faultParts)

theorem startUp_eq (agrees : Bool) (f : FieldInputs) (s : State) : startUp agrees f s =
    startStrokes (if agrees then startLoops agrees f s else cautionOn .configDefaults (startLoops agrees f s)) := by
  unfold startUp startStrokes startLoops
  with_reducible rfl

/-- The kinds of power-on, from the part with its items at their start values. -/
abbrev startUpParts : List Part := .cautionDefaults :: .settle :: faultParts

theorem startUp_writes (agrees f s) : Writes startUpParts (powerOnBase agrees f s) (startUp agrees f s) := by
  rw [startUp_eq]
  exact (startLoops_writes agrees f s).then
    ((Writes.ite (.refl _) (cautionDefaults_writes _)).then (startStrokes_writes _) (R := startUpParts))

/-! SUPPORT. Every command and every step as a sequence of writes, and the two ways an invariant is shown of every step. -/


/-! ### Every command -/

/-- What a command does to a part that has its supply, but for POWER_ON and POWER_LOSS: the effect its arm hands to `withEvals`. -/
def commandEffect : Instr → State → State
  | .powerOn f => takePowerOn f
  | .powerLoss => losePower
  | .discardedFrame p _ | .frameGapTimeout p => dropFrame p
  | .silenceTimerExpiry p => takeSilence p
  | .frameTransmitted p => frameSent p
  | .status p b => takeRequest p .status b | .readEntry p b => takeRequest p .readEntry b
  | .readTank p b => takeRequest p .readTank b | .readChannel p b => takeRequest p .readChannel b
  | .readTrip p b => takeRequest p .readTrip b | .propose p b => takeRequest p .propose b
  | .endorse p b => takeRequest p .endorse b | .stop p b => takeRequest p .stop b
  | .stopAll p tag => takeRequest p .stop [tag, 0xFF] | .pause p b => takeRequest p .pause b
  | .continue_ p b => takeRequest p .continue_ b | .silence p b => takeRequest p .silence b
  | .tankdef p b => takeRequest p .tankdef b | .strapSeek p b => takeRequest p .strapSeek b
  | .strapPut p b => takeRequest p .strapPut b | .strapSeal p b => takeRequest p .strapSeal b
  | .level p b => takeRequest p .level b | .lineup p b => takeRequest p .lineup b
  | .entryEnd p b => takeRequest p .entryEnd b | .chconfig p b => takeRequest p .chconfig b
  | .headerconfig p b => takeRequest p .headerconfig b | .priority p b => takeRequest p .priority b
  | .arm p b => takeRequest p .arm b | .mask p b => takeRequest p .mask b | .hose p b => takeRequest p .hose b
  | .store p b => takeRequest p .store b
  | .lapseTimerExpiry id => takeLapse id
  | .storeCompletion v => takeCompletion v
  | .closedLimitReached c => takeClosedLimit c true | .closedLimitLost c => takeClosedLimit c false
  | .openLimitReached c => takeOpenLimit c true | .openLimitLost c => takeOpenLimit c false
  | .strokeTimerExpiry c => takeStroke c
  | .meterPulse c => takePulse c | .rateWindowRefresh c => takeRefresh c | .stallTimerExpiry c => takeStall c
  | .staleTimerExpiry t => takeStale t | .blindTimerExpiry t => takeBlind t
  | .pressureReachesMax c v => pressureUp c v | .pressureFallsBelowMax c v => pressureDown c v
  | .pressureTimerExpiry c => takeOverpressure c
  | .tensionReachesStrainWarn c v => tensionWarnUp c v | .tensionFallsBelowStrainWarn c v => tensionWarnDown c v
  | .tensionReachesStrainTrip c v => tensionTripUp c v | .tensionFallsBelowStrainTrip c v => tensionTripDown c v
  | .strainDwellTimerExpiry c => takeStrainDwell c
  | .sourceLowAsserts c => sourceLowOn c | .sourceLowClears c => sourceLowOff c | .sourceLowTimerExpiry c => takeSourceEmpty c
  | .strainerDpAsserts => dpOn | .strainerDpClears => dpOff | .waitTimerExpiry => takeWait | .primeTimerExpiry => takePrime
  | .pumpRunningLost => pumpLost | .pumpRunningReturns => pumpBack
  | .esdLoopOpens l => loopOpens l | .esdLoopCloses l => loopCloses l
  | .byteReceived p b => takeByte p b
  | .unassignedKindFrame p k b => takeFrame p k b

/-- Whether a command is one of the supply's own. -/
def ofSupply : Instr → Bool
  | .powerOn _ | .powerLoss => true
  | _ => false

theorem exec_eq {i : Instr} (h : ofSupply i = false) (s : State) : exec i s = whileOn s (withEvals (commandEffect i)) := by
  cases i with
  | powerOn | powerLoss => cases h
  | _ => rfl

theorem exec_powerLoss (s : State) : exec .powerLoss s = whileOn s losePower := rfl

theorem exec_powerOn (f : FieldInputs) (s : State) : exec (.powerOn f) s = .next (withEvals (takePowerOn f) s) := rfl

/-- The kinds of a command's effect; POWER_ON is apart. -/
def commandParts : Instr → List Part
  | .powerOn _ => []
  | .powerLoss => lossParts
  | .discardedFrame .. | .frameGapTimeout _ => [.line]
  | .silenceTimerExpiry _ => silenceParts
  | .frameTransmitted _ => [.sent]
  | .status p _ => frameParts p .status | .readEntry p _ => frameParts p .readEntry
  | .readTank p _ => frameParts p .readTank | .readChannel p _ => frameParts p .readChannel
  | .readTrip p _ => frameParts p .readTrip | .propose p _ => frameParts p .propose
  | .endorse p _ => frameParts p .endorse | .stop p _ => frameParts p .stop
  | .stopAll p _ => frameParts p .stop | .pause p _ => frameParts p .pause
  | .continue_ p _ => frameParts p .continue_ | .silence p _ => frameParts p .silence
  | .tankdef p _ => frameParts p .tankdef | .strapSeek p _ => frameParts p .strapSeek
  | .strapPut p _ => frameParts p .strapPut | .strapSeal p _ => frameParts p .strapSeal
  | .level p _ => frameParts p .level | .lineup p _ => frameParts p .lineup
  | .entryEnd p _ => frameParts p .entryEnd
  | .chconfig .barge _ => frameParts .barge .chconfig | .headerconfig .barge _ => frameParts .barge .headerconfig
  | .priority .barge _ => frameParts .barge .priority
  | .chconfig .ship _ | .headerconfig .ship _ | .priority .ship _ => [.line, .notices]
  | .arm p _ => frameParts p .arm | .mask p _ => frameParts p .mask | .hose p _ => frameParts p .hose
  | .store p _ => frameParts p .store
  | .lapseTimerExpiry _ => [.withdrawals, .notices]
  | .storeCompletion _ => completionParts
  | .closedLimitReached _ | .closedLimitLost _ | .openLimitReached _ | .openLimitLost _ => fieldParts
  | .strokeTimerExpiry _ | .stallTimerExpiry _ | .staleTimerExpiry _ | .blindTimerExpiry _ => flowParts
  | .meterPulse _ => pulseParts
  | .rateWindowRefresh _ => .rates :: evalParts
  | .pressureReachesMax .. | .pressureFallsBelowMax .. => [.inputs]
  | .tensionReachesStrainWarn .. | .tensionFallsBelowStrainWarn .. | .tensionReachesStrainTrip ..
  | .tensionFallsBelowStrainTrip .. | .sourceLowAsserts _ | .sourceLowClears _ => fieldParts
  | .pressureTimerExpiry _ | .strainDwellTimerExpiry _ | .sourceLowTimerExpiry _ | .waitTimerExpiry | .primeTimerExpiry => flowParts
  | .strainerDpAsserts | .strainerDpClears | .pumpRunningLost | .pumpRunningReturns => pumpParts
  | .esdLoopOpens _ | .esdLoopCloses _ => loopParts
  | .byteReceived p _ | .unassignedKindFrame p .. => anyFrameParts p

theorem effect_writes {i : Instr} (h : ∀ f, i ≠ .powerOn f) (s : State) : Writes (commandParts i) s (commandEffect i s) := by
  have hpressure (c : Chan) (v : Nat) (b : Prop) [Decidable b] : Writes [.inputs] s (if b then takePressure c v s else s) :=
    Writes.ite (takePressure_writes c v s) (.refl s)
  have htension (c : Chan) (v : Nat) (b : Prop) [Decidable b] : Writes fieldParts s (if b then takeTension c v s else s) :=
    Writes.ite (takeTension_writes c v s) (.refl s)
  cases i with
  | powerOn f => exact absurd rfl (h f)
  | powerLoss => exact losePower_writes s
  | discardedFrame p _ => exact rx_writes p none s
  | frameGapTimeout p => exact rx_writes p none s
  | silenceTimerExpiry p => exact takeSilence_writes p s
  | frameTransmitted p => exact (Write.sent p s).writes (P := [.sent])
  | lapseTimerExpiry id => exact takeLapse_writes id s
  | storeCompletion v => exact takeCompletion_writes v s
  | closedLimitReached c => exact takeClosedLimit_writes c true s
  | closedLimitLost c => exact takeClosedLimit_writes c false s
  | openLimitReached c => exact takeOpenLimit_writes c true s
  | openLimitLost c => exact takeOpenLimit_writes c false s
  | strokeTimerExpiry c => exact takeStroke_writes c s
  | meterPulse c => exact takePulse_writes c s
  | rateWindowRefresh c => exact takeRefresh_writes c s
  | stallTimerExpiry c => exact takeStall_writes c s
  | staleTimerExpiry t => exact takeStale_writes t s
  | blindTimerExpiry t => exact takeBlind_writes t s
  | pressureReachesMax c v => exact hpressure c v _
  | pressureFallsBelowMax c v => exact hpressure c v _
  | pressureTimerExpiry c => exact takeOverpressure_writes c s
  | tensionReachesStrainWarn c v => exact htension c v _
  | tensionFallsBelowStrainWarn c v => exact htension c v _
  | tensionReachesStrainTrip c v => exact htension c v _
  | tensionFallsBelowStrainTrip c v => exact htension c v _
  | strainDwellTimerExpiry c => exact takeStrainDwell_writes c s
  | sourceLowAsserts c => exact sourceLowOn_writes c s
  | sourceLowClears c => exact sourceLowOff_writes c s
  | sourceLowTimerExpiry c => exact takeSourceEmpty_writes c s
  | strainerDpAsserts => exact dpOn_writes s
  | strainerDpClears => exact dpOff_writes s
  | waitTimerExpiry => exact takeWait_writes s
  | primeTimerExpiry => exact takePrime_writes s
  | pumpRunningLost => exact pumpLost_writes s
  | pumpRunningReturns => exact pumpBack_writes s
  | esdLoopOpens l => exact loopOpens_writes l s
  | esdLoopCloses l => exact loopCloses_writes l s
  | byteReceived p b => exact takeByte_writes p b s
  | unassignedKindFrame p k b => exact takeFrame_writes p k b s
  | chconfig p b | headerconfig p b | priority p b =>
    cases p with
    | barge => exact takeRequest_writes ..
    | ship => exact takeRequest_refused rfl
  | _ => exact takeRequest_writes ..

/-- The kinds of what follows a command's effect: the evaluations it brought and the frames free transmitters take. -/
abbrev finishParts : List Part := .sending :: evalParts

theorem startSending_writes (s) : Writes [.sending] s s.startSending := (Write.sending s).writes

theorem withEvals_writes (f : State → State) (s) : Writes finishParts (f s) (withEvals f s) := by
  have hnone (u : State) : Writes [.evals] u { u with evals := [] } := (Write.evals [] u).writes
  exact (runEvals_writes evalBudget (f s)).then ((hnone _).then (startSending_writes _) (R := [.evals, .sending]))

/-- A command but POWER_ON is its effect's writes and the writes of what follows, or on a part without supply nothing. -/
theorem exec_writes {i : Instr} {s t : State} (h : exec i s = .next t) (hi : ∀ f, i ≠ .powerOn f) :
    Writes (commandParts i ++ finishParts) s t := by
  have heff := effect_writes hi s
  have hsub : commandParts i ⊆ commandParts i ++ finishParts := List.subset_append_left ..
  have hrun (f : State → State) (hf : Writes (commandParts i) s (f s)) (ht : whileOn s f = .next t) :
      Writes (commandParts i ++ finishParts) s t := by
    rw [whileOn] at ht
    cases ht
    exact Writes.ite (hf.mono hsub) (.refl s)
  cases hs : ofSupply i with
  | true =>
    cases i with
    | powerOn f => exact absurd rfl (hi f)
    | powerLoss => exact hrun _ heff h
    | _ => cases hs
  | false =>
    rw [exec_eq hs, whileOn] at h
    cases h
    exact Writes.ite (heff.then (withEvals_writes _ s) hsub (List.subset_append_right ..)) (.refl s)

/-- Power-on is a sequence of writes from the part with every item at its start value, whatever stood before. -/
theorem powerOn_writes {f : FieldInputs} {s t : State} (h : exec (.powerOn f) s = .next t) :
    ∃ u, Writes (startUpParts ++ finishParts) (powerOnBase u.store.copy.agrees f u) t
      ∧ Writes lossParts s u := by
  rw [exec_powerOn] at h
  cases h
  refine ⟨if s.powered then losePower s else s, ?_, Writes.ite (losePower_writes s) (.refl s)⟩
  exact (startUp_writes _ f _).then (withEvals_writes (takePowerOn f) s) (List.subset_append_left ..) (List.subset_append_right ..)

/-! ### Invariants of every step -/

/-- The kinds a step but power-on makes itself, its operations said whole. -/
abbrev stepParts : List Part :=
  [.notices, .evals, .chans, .grants, .opens, .tanks, .figures, .header, .trip, .settle, .withdrawals, .ending, .shutdown, .pulse, .amend,
   .clear, .init, .defaults, .inputs, .rates, .hinputs, .loops, .line, .flags, .silence, .sent, .sending, .cursor,
   .config, .store, .copy, .clock, .supply, .pending, .freeCount, .enqueue, .fresh, .cancel, .authorise, .stops, .unpauseB,
   .unpauseS, .declare]

theorem commandParts_sub (i : Instr) : commandParts i ++ finishParts ⊆ stepParts := by
  have hrequest (p : Side) (k : RequestKind) : frameParts p k ++ finishParts ⊆ stepParts := by cases p <;> cases k <;> decide
  have hany (p : Side) : anyFrameParts p ++ finishParts ⊆ stepParts := by cases p <;> decide
  cases i with
  | chconfig p _ | headerconfig p _ | priority p _ =>
    cases p with
    | barge => exact hrequest ..
    | ship => simp only [commandParts]; decide
  | byteReceived p _ => exact hany p
  | unassignedKindFrame p => exact hany p
  | status p _ | readEntry p _ | readTank p _ | readChannel p _ | readTrip p _ | propose p _ | endorse p _ | stop p _ | stopAll p _
  | pause p _ | continue_ p _ | silence p _ | tankdef p _ | strapSeek p _ | strapPut p _ | strapSeal p _ | level p _ | lineup p _
  | entryEnd p _ | arm p _ | mask p _ | hose p _ | store p _ => exact hrequest ..
  | _ => simp only [commandParts]; decide

theorem tick_writes (s) : Writes [.clock] s (tick s) := Writes.ite (Write.clock _ s).writes (.refl s)

/-- What every write of a step keeps and power-on brings about, every step keeps. -/
theorem kept_by_every_exec {I : State → Prop} (hon : ∀ f s t, exec (.powerOn f) s = .next t → I t)
    (hw : ∀ p ∈ stepParts, ∀ s t, Write p s t → I s → I t) : KeptByEveryStep I := by
  have hkeeps {P : List Part} {s t : State} (h : Writes P s t) (hP : P ⊆ stepParts) (hs : I s) : I t :=
    h.keeps (fun p hp => hw p (hP hp)) hs
  intro s t hs hst
  unfold step at hst
  split at hst
  · cases hst; exact hkeeps (tick_writes s) (by decide) hs
  case h_2 i rest _ =>
    have hs' : I { s with pending := rest } := hw .pending (by decide) _ _ (.pending rest s) hs
    by_cases hi : ∃ f, i = .powerOn f
    · obtain ⟨f, rfl⟩ := hi; exact hon f _ t hst
    · exact hkeeps (exec_writes hst fun f hf => hi ⟨f, hf⟩) (commandParts_sub i) hs'

/-- An invariant of the start values that power-on's own writes keep too. -/
theorem kept_by_every_step {I : State → Prop} (hbase : ∀ a f s, I (powerOnBase a f s))
    (hw : ∀ p ∈ .cautionDefaults :: stepParts, ∀ s t, Write p s t → I s → I t) : KeptByEveryStep I := by
  refine kept_by_every_exec (fun f s t h => ?_) fun p hp => hw p (List.mem_cons_of_mem _ hp)
  obtain ⟨u, hu, -⟩ := powerOn_writes h
  exact (hu.mono (Q := .cautionDefaults :: stepParts)).keeps hw (hbase ..)

/-- The kinds a step makes, its operations but those in `Q` said by their inner writes. -/
def innerParts (Q : List Part) : List Part := (stepParts.filter fun p => p ∉ Q).flatMap Part.raw

theorem keeps_write {I : State → Prop} {Q : List Part} (hQ : ∀ p ∈ Q, ∀ s t, Write p s t → I s → I t)
    (hw : ∀ p ∈ innerParts Q, ∀ s t, Write p s t → I s → I t) : ∀ p ∈ stepParts, ∀ s t, Write p s t → I s → I t := by
  intro p hp s t h
  by_cases hq : p ∈ Q
  · exact hQ p hq s t h
  · exact h.raw.keeps fun q hqr => hw q (List.mem_flatMap.mpr ⟨p, List.mem_filter.mpr ⟨hp, by simpa using hq⟩, hqr⟩)

/-- The kinds a step makes, its operations said by their inner writes. -/
def rawParts : List Part := (.cautionDefaults :: stepParts).flatMap Part.raw

/-- What every elementary write keeps and power-on brings about, every step keeps. -/
theorem kept_by_every_write {I : State → Prop} (hbase : ∀ a f s, I (powerOnBase a f s))
    (hw : ∀ p ∈ rawParts, ∀ s t, Write p s t → I s → I t) : KeptByEveryStep I :=
  kept_by_every_step hbase fun p hp _ _ h =>
    h.raw.keeps fun q hq => hw q (List.mem_flatMap.mpr ⟨p, hp, hq⟩)

/-! SUPPORT. What a channel's record, the entries and the trip items read after each shared operation. -/


/-! ### A channel's record -/

theorem chan_noteHoldsChange (b c s) : (noteHoldsChange b c s).chan = s.chan := (noteHoldsChange_writes b c s).chan_eq
theorem chan_noteStateChange (b c s) : (noteStateChange b c s).chan = s.chan := (noteStateChange_writes b c s).chan_eq

theorem chan_updateChan (c : Chan) (f : Channel → Channel) (s : State) (d : Chan) :
    (updateChan c f s).chan d = if c = d then f (s.chan c) else s.chan d := by
  rw [updateChan, chan_noteStateChange, chan_noteHoldsChange, chan_modChan]

theorem chan_moveChan (c : Chan) (f : Channel → Channel) (s : State) (d : Chan) :
    (moveChan c f s).chan d = if c = d then f (s.chan c) else s.chan d := by
  rw [moveChan, chan_noteHoldsChange, chan_noteStateChange, chan_modChan]

theorem chan_addHolds (c : Chan) (rs : List HoldReason) (s : State) (d : Chan) :
    (addHolds c rs s).chan d = if c = d then (s.chan c).holdWith rs else s.chan d := chan_updateChan ..

theorem chan_removeHolds (c : Chan) (rs : List HoldReason) (s : State) (d : Chan) :
    (removeHolds c rs s).chan d = if c = d then { s.chan c with holds := (s.chan c).holdsWithout rs } else s.chan d := chan_updateChan ..

theorem chan_setAuth (c : Chan) (v : Bool) (s : State) (d : Chan) :
    (setAuth c v s).chan d = if c = d then { s.chan c with authorised := v } else s.chan d := by
  unfold setAuth
  split
  case isTrue h => split <;> simp_all [← h]
  case isFalse => rw [(noteChan_writes ..).chan_eq, chan_modChan]

theorem chan_setHighSoon (c : Chan) (v : Bool) (s : State) (d : Chan) :
    (setHighSoon c v s).chan d = if c = d then { s.chan c with highSoon := v } else s.chan d := by
  unfold setHighSoon
  split
  case isTrue h => split <;> simp_all [← h]
  case isFalse => rw [(setCaution_writes (by simp) ..).chan_eq, chan_modChan]

theorem chan_setUnmetered (c : Chan) (t : TankNo) (v : Bool) (s : State) (d : Chan) : (setUnmetered c t v s).chan d =
    if c = d then { s.chan c with meter := { (s.chan c).meter with unmeteredGain := v } } else s.chan d := by
  unfold setUnmetered
  split
  case isTrue h => split <;> simp_all [← h]
  case isFalse => rw [(setCaution_writes (by simp) ..).chan_eq, chan_modMeter]

theorem chan_foldl_of {α : Type} {f : State → α → State} (hf : ∀ s a, (f s a).chan = s.chan) (xs : List α) (s : State) :
    (xs.foldl f s).chan = s.chan := foldl_frame State.chan hf xs s

/-- A regrant is the grants given, and then notices and the channels it leaves to be evaluated. -/
theorem regrant_given (z : Bool) (s : State) : Writes [.evals, .notices] (giveAll s) (regrant z s) := by
  have htold (z : Bool) (u : State) : Writes [.notices] u (if z then noteHeader .grants u else u) :=
    Writes.ite (noteHeader_writes ..) (.refl u)
  exact (htold _ _).then ((Writes.foldl (P := [.notices]) (fun x c => noteRegrant_writes s c x) chans _).then
    ((Write.evals _ _).writes (P := [.evals])) (R := [.evals, .notices]))

theorem chan_regrant (z : Bool) (s : State) (d : Chan) :
    (regrant z s).chan d = (s.chan d).granted (s.newGrant d) (s.expiry s.config.device.stallTime) := by
  rw [(regrant_given z s).chan_eq, chan_giveAll]

/-- No channel has a new grant outside SERVING (R108). -/
theorem newGrant_of_not_serving {s : State} (h : s.header.state ≠ .serving) (c : Chan) : s.newGrant c = 0 := if_pos h

theorem Channel.granted_zero_grant (k : Channel) (n : Nat) : (k.granted 0 n).grant = 0 := by
  unfold Channel.granted; split <;> rfl

theorem Channel.granted_lastStop (k : Channel) (g n : Nat) : (k.granted g n).lastStop = k.lastStop := by
  unfold Channel.granted; repeat' split
  all_goals rfl

/-- A channel that neither flows nor is held and holds no grant is as it was past a regrant. -/
theorem Channel.granted_resting {k : Channel} (hs : k.state.resting) (hg : k.grant = 0) (g n : Nat) : k.granted g n = k := by
  unfold Channel.granted
  split
  case h_1 h => exact absurd h hs.1
  case h_2 h => exact absurd h hs.2
  all_goals rw [← hg]

/-- The state a close leaves (R81, R82). -/
def ChState.shut : ChState → ChState
  | .opening | .flowing | .held | .closing => .closing
  | .masked => .masked
  | .idle => .idle
  | .fault => .fault

/-- A channel's record past `closeValve`, its stroke timed by `full` or, reversed, by `reversal`. -/
def Channel.valveClosed (k : Channel) (full reversal : Nat) : Channel :=
  match k.state with
  | .flowing | .held => k.closing closingReasons full
  | .opening => k.closing [.sourceLow] reversal
  | .masked | .idle | .closing | .fault => k

theorem chan_closeValve (c : Chan) (s : State) (d : Chan) : (closeValve c s).chan d = if c = d then
    (s.chan c).valveClosed (s.expiry (strokeTimeout (s.chanConfig c).strokeTime)) (s.expiry (reversalTimeout (s.spentOpening c)))
    else s.chan d := by
  unfold closeValve Channel.valveClosed
  split <;> simp_all only [chan_updateChan, chan_moveChan] <;> split <;> simp_all

theorem Channel.state_valveClosed (k : Channel) (x y : Nat) : (k.valveClosed x y).state = k.state.shut := by
  unfold Channel.valveClosed ChState.shut
  cases h : k.state <;> simp [Channel.closing, h]

theorem ChState.shut_command (x : ChState) : x.shut.command = .toClose := by cases x <;> rfl

theorem Channel.watched_iff (k : Channel) : k.watched = true ↔ k.state.command = .toOpen := by
  unfold Channel.watched ChState.command; cases k.state <;> simp

theorem Channel.watched_eq_false_iff (k : Channel) : k.watched = false ↔ k.state.command = .toClose := by
  unfold Channel.watched ChState.command; cases k.state <;> simp

/-! ### What steps of channels keep, channel by channel -/

/-- What every step of a channel's record keeps, writes of these kinds keep. -/
theorem Writes.chan_keeps {P : List Part} {s t : State} (h : Writes P s t) {c : Chan} {Q : Channel → Prop}
    (hQ : ∀ k l, k.Step l → Q k → Q l) (hs : Q (s.chan c))
    (hP : ∀ p ∈ P, p = .chans ∨ p.item ≠ .channels ∧ p.item ≠ .many := by decide) : Q (t.chan c) := by
  refine h.keeps (I := fun u => Q (u.chan c)) (fun p hp s t hw hs => ?_) hs
  rcases hP p hp with rfl | ⟨h1, h2⟩
  · cases hw with
    | chan d k s hk =>
      rw [chan_setChan]
      split
      case isTrue hd => subst hd; exact hQ _ _ hk hs
      case isFalse => exact hs
  · rw [(hw.writes (P := [p]) (by simp)).chan_eq (by simpa using ⟨h1, h2⟩)]; exact hs

/-- No kind but `stops` writes a last stop (R89). -/
theorem Writes.lastStop_eq {P : List Part} {s t : State} (h : Writes P s t)
    (hP : ∀ p ∈ P, p = .chans ∨ p = .grants ∨ p = .zero ∨ p = .opens ∨ p = .inputs ∨ p.item ≠ .channels ∧ p.item ≠ .many := by decide)
    (c : Chan) : (t.chan c).lastStop = (s.chan c).lastStop := by
  have hset (d : Chan) (k : Channel) (u : State) (hk : k.lastStop = (u.chan d).lastStop) :
      ((u.setChan d k).chan c).lastStop = (u.chan c).lastStop := by
    rw [chan_setChan]
    split
    case isTrue hd => rw [← hd, hk]
    case isFalse => rfl
  refine h.keeps (I := fun u => (u.chan c).lastStop = (s.chan c).lastStop) (fun p hp s t hw hs => ?_) rfl
  rcases hP p hp with rfl | rfl | rfl | rfl | rfl | ⟨h1, h2⟩
  · cases hw with | chan d k s hk => rw [hset d k s hk.lastStop, hs]
  · cases hw; rw [chan_giveAll, Channel.granted_lastStop, hs]
  · cases hw with | zero d s => rw [← hs]; exact hset d _ s rfl
  · cases hw with | opens d k s _ _ hk => rw [hset d k s hk.lastStop, hs]
  · cases hw with | inputs d k s _ _ _ hk => rw [hset d k s hk, hs]
  · rw [(hw.writes (P := [p]) (by simp)).chan_eq (by simpa using ⟨h1, h2⟩), hs]

/-- What one step of a pass over the channels brings about for its channel and keeps for the others, the pass brings about for all. -/
theorem foldl_chans_all {f : State → Chan → State} {Q : Chan → State → Prop} (hone : ∀ s c, Q c (f s c))
    (hkeep : ∀ s c d, Q d s → Q d (f s c)) (s : State) (c : Chan) : Q c (chans.foldl f s) := by
  have hkept (cs : List Chan) (s : State) (h : Q c s) : Q c (cs.foldl f s) := by
    induction cs generalizing s with
    | nil => exact h
    | cons d cs ih => exact ih _ (hkeep s d c h)
  have hall (cs : List Chan) (hc : c ∈ cs) (s : State) : Q c (cs.foldl f s) := by
    induction cs generalizing s with
    | nil => cases hc
    | cons d cs ih =>
      rcases List.mem_cons.mp hc with rfl | h
      · exact hkept cs _ (hone s c)
      · exact ih h _
  exact hall chans (mem_chans c) s

/-- What each step of a pass makes of its own channel alone, the pass makes of each. -/
theorem foldl_chans_each {α : Type} {f : State → Chan → State} {π : State → Chan → α} {g : α → α}
    (hf : ∀ s c d, π (f s c) d = if c = d then g (π s c) else π s d) (s : State) (c : Chan) : π (chans.foldl f s) c = g (π s c) := by
  have hkept (cs : List Chan) (hc : c ∉ cs) (s : State) : π (cs.foldl f s) c = π s c := by
    induction cs generalizing s with
    | nil => rfl
    | cons d cs ih =>
      rw [List.mem_cons, not_or] at hc
      rw [List.foldl_cons, ih hc.2, hf, if_neg (Ne.symm hc.1)]
  have hall (cs : List Chan) (hn : cs.Nodup) (hc : c ∈ cs) (s : State) : π (cs.foldl f s) c = g (π s c) := by
    induction cs generalizing s with
    | nil => cases hc
    | cons d cs ih =>
      obtain ⟨hd, hn⟩ := List.nodup_cons.mp hn
      rw [List.foldl_cons]
      by_cases hcd : d = c
      · subst hcd; rw [hkept cs hd, hf, if_pos rfl]
      · rw [ih hn ((List.mem_cons.mp hc).resolve_left (Ne.symm hcd)), hf, if_neg hcd]
  exact hall chans (by decide) (mem_chans c) s

/-! ### Entries -/

/-- An entry with its slug record back to NONE (R69). -/
def Entry.slugless (e : Entry) : Entry := { e with slug := e.slug.map fun _ => { phase := .idle, size := none, base := none } }

theorem Entry.slugless_of_none {e : Entry} (h : e.slug = none) : e.slugless = e := by
  unfold Entry.slugless; rw [h]; cases e; simp_all

theorem entry_clearSlug (i : EntryId) (s : State) (j : EntryId) :
    (clearSlug i s).entry j = if i = j then (s.entry i).map Entry.slugless else s.entry j := by
  unfold clearSlug
  split
  case h_2 hn => split <;> simp_all
  case h_1 e he =>
    split
    case h_2 hs =>
      split
      case isTrue hj => rw [← hj, he, Option.map_some, Entry.slugless_of_none hs]
      case isFalse => rfl
    case h_1 r hs =>
      have hmod : (s.modEntry i fun e => { e with slug := some { phase := .idle, size := none, base := none } }).entry j
          = if i = j then (s.entry i).map Entry.slugless else s.entry j := by
        rw [entry_modEntry, he]
        simp [Entry.slugless, hs]
      simp only; split
      · rw [(removeHolds_writes e.chan _).entry_eq, hmod]
      · exact hmod

/-- What a stop or a shutdown makes of an ACTIVE entry (R13). -/
def Entry.returned (e : Entry) : Entry := { e with state := .await }.slugless

theorem leaveActive_entry (c t s) : (leaveActive c t s).entry = s.entry := (leaveActive_writes c t s).entry_eq

theorem entry_returnToAwait {c : Chan} {i : EntryId} {e : Entry} {s : State} (h : s.activeEntry c = some (i, e)) (j : EntryId) :
    (returnToAwait c s).entry j = if i = j then some e.returned else s.entry j := by
  obtain ⟨he, -, -⟩ := activeEntry_live h
  simp only [returnToAwait, h]
  rw [(noteEntry_writes ..).entry_eq, leaveActive_entry, entry_clearSlug]
  simp only [entry_modEntry, he, if_true, Option.map_some]
  split <;> rfl

theorem returnToAwait_none {c : Chan} {s : State} (h : s.activeEntry c = none) : returnToAwait c s = s := by
  simp only [returnToAwait, h]

/-- Entries changed but for channel and whether terminal leave the current ones. -/
theorem currentId_of_live {s t : State} (h : ∀ c i, t.LiveAt c i ↔ s.LiveAt c i) : t.currentId = s.currentId := by
  funext c
  cases hs : s.currentId c with
  | none => rw [currentId_eq_none_iff] at hs ⊢; exact fun j hj => hs j ((h c j).mp hj)
  | some i =>
    rw [currentId_eq_some_iff] at hs ⊢
    exact ⟨(h c i).mpr hs.1, fun j hj hl => hs.2 j hj ((h c j).mp hl)⟩

/-- One entry replaced by one of the same channel, terminal just where it was, leaves the current ones. -/
theorem currentId_of_entry {s t : State} {i : EntryId} {e f : Entry} (he : s.entry i = some e)
    (ht : ∀ j, t.entry j = if i = j then some f else s.entry j) (hc : f.chan = e.chan)
    (hl : f.state.terminal = e.state.terminal) : t.currentId = s.currentId := by
  refine currentId_of_live fun c j => ?_
  have hlive (c : Chan) : f.live c = e.live c := by simp only [Entry.live, hc, hl]
  unfold State.LiveAt
  rw [ht]
  split
  case isTrue hj => subst hj; simp [he, hlive]
  case isFalse => rfl

theorem activeEntry_returnToAwait (c : Chan) (s : State) (d : Chan) :
    (returnToAwait c s).activeEntry d = if c = d then none else s.activeEntry d := by
  cases h : s.activeEntry c with
  | none =>
    rw [returnToAwait_none h]
    split
    case isTrue hd => rw [← hd, h]
    case isFalse => rfl
  | some p =>
    obtain ⟨i, e⟩ := p
    obtain ⟨he, hch, ha⟩ := activeEntry_live h
    have hentry := entry_returnToAwait h
    have hcur := currentId_of_entry he hentry rfl (by rw [ha]; rfl)
    have hi : s.currentId c = some i := (current_eq_some_iff.mp (activeEntry_eq_some_iff.mp h).1).1
    unfold State.activeEntry State.current
    rw [hcur]
    by_cases hd : c = d
    · subst hd
      rw [hi, if_pos rfl]
      simp only [hentry, if_true]
      rfl
    · rw [if_neg hd]
      cases hj : s.currentId d with
      | none => rfl
      | some j =>
        have hij : i ≠ j := by
          rintro rfl
          obtain ⟨⟨f, hf, hl⟩, -⟩ := currentId_eq_some_iff.mp hj
          rw [he] at hf; cases hf
          exact hd (hch.symm.trans ((Entry.live_iff ..).mp hl).1)
        simp only [hentry, if_neg hij]

/-! SUPPORT. What a shutdown makes of the part (R148, R152): `ShutdownEffect`, clause by clause. -/


/-! ### The channels' parts -/

theorem chan_tripHeader (s : State) (c : Chan) : (tripHeader s).chan c = { s.chan c with grant := 0 } := by
  have hfold : (chans.foldl (fun x c => x.modChan c fun k => { k with grant := 0 }) s).chan c = { s.chan c with grant := 0 } :=
    foldl_chans_each (π := State.chan) (g := fun k => { k with grant := 0 }) (fun s c d => chan_modChan ..) s c
  have hhead (u : State) (f : Header → Header) : (changeHeader f u).chan = u.chan := by
    unfold changeHeader; simp only; split <;> rfl
  unfold tripHeader; simp only
  split
  · rw [(noteHeader_writes ..).chan_eq, hhead, hfold]
  · rw [hhead, hfold]

theorem header_tripHeader (s : State) : (tripHeader s).header =
    { s.header with state := .tripped, returnState := none, primeTimer := none, waitTimer := none } := by
  have hfold : (chans.foldl (fun x c => x.modChan c fun k => { k with grant := 0 }) s).header = s.header :=
    foldl_frame State.header (f := fun x c => x.modChan c fun k => { k with grant := 0 }) (fun _ _ => rfl) chans s
  unfold tripHeader; simp only
  split
  · rw [(noteHeader_writes ..).header_eq, changeHeader_header, hfold]
  · rw [changeHeader_header, hfold]

/-- Step 4 of R152: each channel's part of a shutdown. -/
def shutAll (s : State) : State := chans.foldl (fun x c => shutChannel c x) s

theorem shutAll_writes (s) : Writes returnParts s (shutAll s) := Writes.foldl (fun x c => shutChannel_writes c x) _ _

/-- Steps 3 to 5 of R152: the header TRIPPED, the channels shut, the STARTs withdrawn. -/
def shutParted (e : CauseEntry) (s : State) : State :=
  withdrawWhere (fun p => p.isStart none) (.shutdown e.cause.code) (regrant false (shutAll (tripHeader s)))

/-- The notices of step 7 and of a changed trip state (R152). -/
def shutTold (e : CauseEntry) (fate : CauseFate) (changed : Bool) (s : State) : State :=
  let s7 := raise (.trip .cause s.tripView (some (e, fate)) s.now) s
  if changed then noteTrip .state s7 else s7

theorem shutdownEffects_eq (e : CauseEntry) (f : CauseFate) (b : Bool) (s : State) :
    shutdownEffects e f b s = judgeSettled (shutTold e f b (judgeHorn (some .trip) (shutParted e s))) := rfl

theorem shutTold_writes (e f b s) : Writes [.notices] s (shutTold e f b s) :=
  Writes.ite ((raise_writes ..).then (noteTrip_writes ..)) (raise_writes ..)

/-- What follows step 5: the horn, the notices and the trip state. -/
theorem shutAfter_writes (e f b s) : Writes [.trip, .settle, .notices] (shutParted e s) (shutdownEffects e f b s) := by
  rw [shutdownEffects_eq]
  exact (judgeHorn_writes ..).then ((shutTold_writes ..).then (judgeSettled_writes _) (R := [.settle, .notices]))

theorem state_removeHolds (c rs s d) : ((removeHolds c rs s).chan d).state = (s.chan d).state := by
  rw [chan_removeHolds]; split
  case isTrue h => rw [← h]
  case isFalse => rfl

theorem state_leaveActive (c t s d) : ((leaveActive c t s).chan d).state = (s.chan d).state := by
  rw [leaveActive, state_removeHolds, chan_modTank, chan_setUnmetered]
  by_cases hd : c = d
  · subst hd; simp only [if_true, chan_setHighSoon]
  · simp only [if_neg hd, chan_setHighSoon]

theorem state_clearSlug (i s d) : ((clearSlug i s).chan d).state = (s.chan d).state := by
  have hset (b : Bool) (c : Chan) (u : State) (hu : (u.chan d).state = (s.chan d).state) :
      ((if b then removeHolds c [.settling] u else u).chan d).state = (s.chan d).state := by
    split
    · rw [state_removeHolds, hu]
    · exact hu
  unfold clearSlug
  split
  · split
    · exact hset _ _ _ rfl
    · rfl
  · rfl

theorem state_returnToAwait (c s d) : ((returnToAwait c s).chan d).state = (s.chan d).state := by
  unfold returnToAwait
  split
  · rw [(noteEntry_writes ..).chan_eq, state_leaveActive, state_clearSlug]; rfl
  · rfl

theorem state_shutChannel (c : Chan) (s : State) (d : Chan) :
    ((shutChannel c s).chan d).state = if c = d then (s.chan c).state.shut else (s.chan d).state := by
  rw [shutChannel, state_returnToAwait, chan_setAuth]
  by_cases hd : c = d
  · subst hd; rw [if_pos rfl, if_pos rfl, chan_closeValve, if_pos rfl]; exact Channel.state_valveClosed ..
  · rw [if_neg hd, if_neg hd, chan_closeValve, if_neg hd]

theorem state_shutAll (s : State) (c : Chan) : ((shutAll s).chan c).state = (s.chan c).state.shut :=
  foldl_chans_each (π := fun s c => (s.chan c).state) (g := ChState.shut) (fun s c d => state_shutChannel c s d) s c

theorem authorised_shutAll (s : State) (c : Chan) : ((shutAll s).chan c).authorised = false := by
  refine foldl_chans_all (Q := fun c s => (s.chan c).authorised = false) (fun s c => ?_) (fun s c d h => ?_) s c
  · refine (returnToAwait_writes c _).chan_keeps (Q := fun k => k.authorised = false) (fun k l h => h.auth) ?_
    rw [chan_setAuth, if_pos rfl]
  · exact (shutChannel_writes c s).chan_keeps (Q := fun k => k.authorised = false) (fun k l h => h.auth) h

theorem activeEntry_shutAll (s : State) (c : Chan) : (shutAll s).activeEntry c = none := by
  have hkept (s : State) (c : Chan) : (setAuth c false (closeValve c s)).activeEntry = s.activeEntry :=
    activeEntry_congr ((closeValve_writes c s).then (setAuth_false_writes c _) (R := [.chans, .notices])).entry_eq
  refine foldl_chans_all (Q := fun c s => s.activeEntry c = none) (fun s c => ?_) (fun s c d h => ?_) s c
  · rw [shutChannel, activeEntry_returnToAwait, if_pos rfl]
  · rw [shutChannel, activeEntry_returnToAwait]
    split
    · rfl
    · rw [hkept, h]

/-! ### What a shutdown's effects leave -/

theorem header_shutdownEffects (e : CauseEntry) (f : CauseFate) (b : Bool) (s : State) : (shutdownEffects e f b s).header =
    { s.header with state := .tripped, returnState := none, primeTimer := none, waitTimer := none } := by
  rw [(shutAfter_writes e f b s).header_eq, shutParted, (withdrawWhere_writes ..).header_eq, (regrant_writes ..).header_eq,
    (shutAll_writes _).header_eq, header_tripHeader]

theorem chan_shutdownEffects (e : CauseEntry) (f : CauseFate) (b : Bool) (s : State) (c : Chan) :
    ∃ n, (shutdownEffects e f b s).chan c = ((shutAll (tripHeader s)).chan c).granted 0 n := by
  have hnot : (shutAll (tripHeader s)).header.state ≠ .serving := by
    rw [(shutAll_writes _).header_eq, header_tripHeader]; simp
  refine ⟨(shutAll (tripHeader s)).expiry (shutAll (tripHeader s)).config.device.stallTime, ?_⟩
  rw [(shutAfter_writes e f b s).chan_eq, shutParted, (withdrawWhere_writes ..).chan_eq, chan_regrant, newGrant_of_not_serving hnot]

theorem Channel.granted_state_of_shut {k : Channel} (h : k.state.command = .toClose) (g n : Nat) : (k.granted g n).state = k.state := by
  unfold Channel.granted
  split
  case h_1 hk => rw [hk] at h; cases h
  case h_2 hk => rw [hk] at h; cases h
  all_goals rfl

theorem state_shutdownEffects (e : CauseEntry) (f : CauseFate) (b : Bool) (s : State) (c : Chan) :
    ((shutdownEffects e f b s).chan c).state = (s.chan c).state.shut := by
  obtain ⟨n, hn⟩ := chan_shutdownEffects e f b s c
  have hstate : ((shutAll (tripHeader s)).chan c).state = (s.chan c).state.shut := by rw [state_shutAll, chan_tripHeader]
  rw [hn, Channel.granted_state_of_shut (by rw [hstate]; exact ChState.shut_command _), hstate]

/-- Each channel past a shutdown (R90): its valve commanded closed, no grant, no authorisation, no ACTIVE entry. -/
def State.ShutAt (s : State) (c : Chan) : Prop :=
  (s.chan c).watched = false ∧ (s.chan c).grant = 0 ∧ (s.chan c).authorised = false ∧ s.activeEntry c = none

theorem shutAt_shutdownEffects (e : CauseEntry) (f : CauseFate) (b : Bool) (s : State) (c : Chan) :
    (shutdownEffects e f b s).ShutAt c := by
  obtain ⟨n, hn⟩ := chan_shutdownEffects e f b s c
  refine ⟨?_, ?_, ?_, ?_⟩
  · rw [Channel.watched_eq_false_iff, state_shutdownEffects]; exact ChState.shut_command _
  · rw [hn]; exact Channel.granted_zero_grant ..
  · rw [hn, Channel.granted_authorised]; exact authorised_shutAll ..
  · have hentry : (shutdownEffects e f b s).entry = (shutAll (tripHeader s)).entry := by
      rw [(shutAfter_writes e f b s).entry_eq, shutParted, (withdrawWhere_writes ..).entry_eq, (regrant_writes ..).entry_eq]
    rw [activeEntry_congr hentry]; exact activeEntry_shutAll ..

theorem withdrawWhere_queue (p : Proposal → Bool) (k : WithdrawCause) (s : State) :
    (withdrawWhere p k s).queue = { s.queue with proposals := s.queue.proposals.filter fun q => !p q } := by
  unfold withdrawWhere
  exact (Writes.foldl (P := [.notices]) (fun x q => noteProposal_writes (.withdrawn k) q x) _ _).queue_eq

theorem queue_shutdownEffects (e : CauseEntry) (f : CauseFate) (b : Bool) (s : State) : (shutdownEffects e f b s).queue =
    { s.queue with proposals := s.queue.proposals.filter fun q => !q.isStart none } := by
  rw [(shutAfter_writes e f b s).queue_eq, shutParted, withdrawWhere_queue, (regrant_writes ..).queue_eq, (shutAll_writes _).queue_eq,
    (tripHeader_writes s).queue_eq]

theorem horn_judgeHorn (a : Option HornClass) (s : State) : (judgeHorn a s).trip.horn = s.hornClass := by
  unfold judgeHorn; simp only; split
  case isTrue h => exact h.1.symm
  case isFalse => rw [(noteTrip_writes ..).trip_eq]; rfl

theorem hornClass_of_tripped {s : State} (h : s.trip.state ≠ .normal) : s.hornClass = .trip := if_pos h

theorem allSettled_congr {s t : State} (hi : ∀ c, (t.chan c).inputs = (s.chan c).inputs) (hu : t.trip.unproven = s.trip.unproven) :
    t.allSettled = s.allSettled := by
  have hproven (c : Chan) : (t.chan c).provenClosed = (s.chan c).provenClosed := by
    have h1 := congrArg Inputs.closedLimit (hi c)
    have h2 := congrArg Inputs.openLimit (hi c)
    simp only [Channel.inputs] at h1 h2
    simp only [Channel.provenClosed, h1, h2]
  simp only [State.allSettled, State.settled, hproven, hu]

theorem judgeSettled_trip (s : State) : (judgeSettled s).trip =
    if s.trip.state = .tripping ∧ s.allSettled = true then { s.trip with state := .tripped } else s.trip := by
  unfold judgeSettled; split
  · rw [(noteTrip_writes ..).trip_eq]; rfl
  · rfl

theorem allSettled_judgeSettled (s : State) : (judgeSettled s).allSettled = s.allSettled := by
  refine allSettled_congr (fun c => by rw [(judgeSettled_writes s).chan_eq]) ?_
  rw [judgeSettled_trip]; split <;> rfl

/-- TRIPPING becomes TRIPPED just where every channel is settled (R148). -/
theorem judgeSettled_tripped (s : State) : (judgeSettled s).trip.state = .tripped ↔
    s.trip.state = .tripped ∨ (s.trip.state = .tripping ∧ s.allSettled = true) := by
  rw [judgeSettled_trip]
  split
  case isTrue h => simp [h]
  case isFalse h => simp only [h, or_false]

/-- The trip items past a shutdown's effects: the record as it was, and TRIPPED just where all is settled. -/
theorem trip_shutdownEffects (e : CauseEntry) (f : CauseFate) (b : Bool) (s : State) :
    s.trip.SameRecord (shutdownEffects e f b s).trip
      ∧ ((shutdownEffects e f b s).trip.state = .tripped ↔
          s.trip.state = .tripped ∨ (s.trip.state = .tripping ∧ (shutdownEffects e f b s).allSettled = true))
      ∧ (s.trip.state ≠ .normal → (shutdownEffects e f b s).trip.state ≠ .normal ∧ (shutdownEffects e f b s).trip.horn = .trip) := by
  have hparted : s.trip.Step (shutParted e s).trip := by
    have h : Writes [.zero, .headTrip, .figures, .chans, .tanks, .trip, .grants, .evals, .withdrawals, .notices] s (shutParted e s) :=
      (tripHeader_writes s).then ((shutAll_writes _).then ((regrant_writes ..).then (withdrawWhere_writes ..)
        (R := [.grants, .evals, .withdrawals, .notices]))
        (R := [.figures, .chans, .tanks, .trip, .grants, .evals, .withdrawals, .notices]))
    exact h.trip_step
  have htold := ((judgeHorn_writes (some .trip) (shutParted e s)).then (shutTold_writes e f b _) (R := [.trip, .notices])).trip_step
  have hstep := hparted.trans htold
  have hhorn (hn : s.trip.state ≠ .normal) : (shutTold e f b (judgeHorn (some .trip) (shutParted e s))).trip.horn = .trip := by
    rw [(shutTold_writes ..).trip_eq, horn_judgeHorn, hornClass_of_tripped (by rw [hparted.state]; exact hn)]
  have hshut := shutdownEffects_eq e f b s
  generalize shutTold e f b (judgeHorn (some .trip) (shutParted e s)) = u at hstep hhorn hshut
  rw [hshut, judgeSettled_tripped, allSettled_judgeSettled, judgeSettled_trip, hstep.state]
  refine ⟨?_, Iff.rfl, fun hn => ⟨?_, ?_⟩⟩
  · split
    · exact ⟨hstep.firstOut, hstep.later, hstep.more, hstep.unproven, hstep.loopB, hstep.loopS⟩
    · exact hstep.toSameRecord
  · split
    · simp
    · rw [hstep.state]; exact hn
  · split <;> exact hhorn hn

/-! ### The cause taken (R153) -/

/-- The record with a cause offered and its channel marked (R148, R153). -/
def Trip.taken (t : Trip) (k : ShutdownCause) (o : Origin) (now : Nat) : Trip :=
  (t.offer { cause := k, origin := o, stamp := now }).1.mark k

theorem Trip.takes_taken (t : Trip) (k : ShutdownCause) (o : Origin) (n : Nat) : t.Takes (t.taken k o n) := Trip.takes_cause ..

theorem Trip.taken_state (t : Trip) (k : ShutdownCause) (o : Origin) (n : Nat) : (t.taken k o n).state = t.state := by
  rw [Trip.taken, Trip.mark_eq]
  rcases t.offer_cases { cause := k, origin := o, stamp := n } with ⟨-, h⟩ | ⟨-, h⟩ | ⟨-, -, h⟩ | ⟨-, h⟩ <;> rw [h]

theorem Trip.offer_unproven (t : Trip) (e : CauseEntry) : (t.offer e).1.unproven = t.unproven := by
  rcases t.offer_cases e with ⟨-, h⟩ | ⟨-, h⟩ | ⟨-, -, h⟩ | ⟨-, h⟩ <;> rw [h]

theorem Trip.taken_unproven (t : Trip) {k : ShutdownCause} (o : Origin) (n : Nat) (hk : ∀ c, k ≠ .valveUnproven c) :
    (t.taken k o n).unproven = t.unproven := by
  rw [← Trip.offer_unproven t { cause := k, origin := o, stamp := n }, Trip.taken]
  cases k with
  | valveUnproven c => exact absurd rfl (hk c)
  | _ => rfl

theorem Trip.taken_unproven_valve (t : Trip) (c : Chan) (o : Origin) (n : Nat) :
    (t.taken (.valveUnproven c) o n).unproven = t.unproven.set c true := by
  rw [← Trip.offer_unproven t { cause := .valveUnproven c, origin := o, stamp := n }, Trip.taken, Trip.mark]

/-- A record without a first-out holds nothing (R153, R156). -/
theorem Trip.Bounded.empty {t : Trip} (h : t.Bounded) (hn : t.firstOut = none) : t.later = [] ∧ t.more = false := by
  have hs : t.state = .normal := by
    by_contra hs
    have := h.2.2 hs
    rw [hn] at this; cases this
  exact ⟨(h.2.1 hs).2.1, (h.2.1 hs).2.2.1⟩

theorem Trip.Bounded.records {t : Trip} (h : t.Bounded) {k : ShutdownCause} (hr : t.records k = true) :
    ∃ e, (t.firstOut = some e ∨ e ∈ t.later) ∧ e.cause = k := by
  unfold Trip.records at hr
  split at hr
  case h_1 f hf =>
    simp only [Bool.or_eq_true, beq_iff_eq, List.any_eq_true] at hr
    rcases hr with hr | ⟨e, he, hr⟩
    · exact ⟨f, .inl hf, hr⟩
    · exact ⟨e, .inr he, hr⟩
  case h_2 hn =>
    rw [(h.empty hn).1] at hr; cases hr

theorem Trip.taken_firstOut {t : Trip} (h : t.Bounded) (k : ShutdownCause) (o : Origin) (n : Nat) :
    (t.taken k o n).firstOut = t.firstOut.or (some { cause := k, origin := o, stamp := n }) := by
  rw [Trip.taken, Trip.mark_eq]
  have hfirst {u : Trip} (hu : u.firstOut = t.firstOut) (hne : t.firstOut ≠ none) :
      u.firstOut = t.firstOut.or (some { cause := k, origin := o, stamp := n }) := by
    obtain ⟨f, hf⟩ := Option.ne_none_iff_exists'.mp hne
    rw [hu, hf]; rfl
  rcases t.offer_cases { cause := k, origin := o, stamp := n } with ⟨hr, hq⟩ | ⟨hn, hq⟩ | ⟨hn, -, hq⟩ | ⟨hn, hq⟩ <;> rw [hq]
  · refine hfirst (u := t) rfl fun hn => ?_
    unfold Trip.records at hr
    rw [hn, (h.empty hn).1] at hr; cases hr
  · rw [hn]; rfl
  · exact hfirst (u := { t with later := _ }) rfl hn
  · exact hfirst (u := { t with more := true }) rfl hn

/-- A cause taken is in the record, or the record was full (R153). -/
theorem Trip.taken_holds {t : Trip} (h : t.Bounded) (k : ShutdownCause) (o : Origin) (n : Nat) :
    (∃ e, ((t.taken k o n).firstOut = some e ∨ e ∈ (t.taken k o n).later) ∧ e.cause = k) ∨ (t.taken k o n).more = true := by
  rw [Trip.taken, Trip.mark_eq]
  rcases t.offer_cases { cause := k, origin := o, stamp := n } with ⟨hr, hq⟩ | ⟨hn, hq⟩ | ⟨hn, -, hq⟩ | ⟨hn, hq⟩ <;> rw [hq]
  · exact .inl (h.records hr)
  · exact .inl ⟨_, .inl rfl, rfl⟩
  · exact .inl ⟨_, .inr (List.mem_append_right _ (List.mem_singleton.mpr rfl)), rfl⟩
  · exact .inr rfl

/-! ### The shutdown whole -/

theorem Trip.SameRecord.grows {t x : Trip} (h : t.SameRecord x) (hn : t.state ≠ .normal → x.state ≠ .normal) : t.Grows x :=
  .of_same h.firstOut h.later h.more hn

theorem grows_shutdownEffects (e : CauseEntry) (f : CauseFate) (b : Bool) (s : State) :
    s.trip.Grows (shutdownEffects e f b s).trip :=
  have ⟨hr, _, hn⟩ := trip_shutdownEffects e f b s
  hr.grows fun h => (hn h).1

/-- A cause taken where the part is not NORMAL (R152). -/
theorem shutdown_of_tripped {s : State} (h : s.trip.state ≠ .normal) (k : ShutdownCause) (o : Origin) : ∃ e f,
    shutdown k o s = shutdownEffects e f false (s.modTrip fun _ => s.trip.taken k o s.now) := by
  refine ⟨{ cause := k, origin := o, stamp := s.now }, (s.trip.offer { cause := k, origin := o, stamp := s.now }).2, ?_⟩
  exact if_neg (show ¬ (s.trip.taken k o s.now).state = .normal by rw [Trip.taken_state]; exact h)

/-- The faulted channels looked at as the part trips (R148). -/
def unprovenAll (s : State) : State := chans.foldl (fun x c => unprovenAtTrip c x) s

/-- The part as step 2 of R152 leaves it, taken from NORMAL. -/
def trippingWith (k : ShutdownCause) (o : Origin) (s : State) : State :=
  s.modTrip fun _ => { s.trip.taken k o s.now with state := .tripping }

theorem shutdown_of_normal {s : State} (h : s.trip.state = .normal) (k : ShutdownCause) (o : Origin) : ∃ e f,
    shutdown k o s = shutdownEffects e f true (unprovenAll (trippingWith k o s)) := by
  refine ⟨{ cause := k, origin := o, stamp := s.now }, (s.trip.offer { cause := k, origin := o, stamp := s.now }).2, ?_⟩
  exact if_pos (show (s.trip.taken k o s.now).state = .normal by rw [Trip.taken_state]; exact h)

theorem shutdownTripped_eq (k : ShutdownCause) (o : Origin) (s : State) : ∃ e f,
    shutdownTripped k o s = shutdownEffects e f false (s.modTrip fun _ => s.trip.taken k o s.now) :=
  ⟨{ cause := k, origin := o, stamp := s.now }, (s.trip.offer { cause := k, origin := o, stamp := s.now }).2, rfl⟩

theorem grows_shutdownTripped (k : ShutdownCause) (o : Origin) (s : State) : s.trip.Grows (shutdownTripped k o s).trip := by
  obtain ⟨e, f, h⟩ := shutdownTripped_eq k o s
  have hg := grows_shutdownEffects e f false (s.modTrip fun _ => s.trip.taken k o s.now)
  rw [trip_modTrip] at hg
  rw [h]; exact (Trip.takes_taken s.trip k o s.now).toGrows.trans hg

theorem Trip.Grows.refl (t : Trip) : t.Grows t := .of_same rfl rfl rfl id

theorem grows_unprovenAtTrip (c : Chan) (s : State) : s.trip.Grows (unprovenAtTrip c s).trip := by
  unfold unprovenAtTrip; split
  · exact grows_shutdownTripped ..
  · exact .refl _

theorem grows_unprovenAll (s : State) : s.trip.Grows (unprovenAll s).trip := by
  have hfold (cs : List Chan) (s : State) : s.trip.Grows (cs.foldl (fun x c => unprovenAtTrip c x) s).trip := by
    induction cs generalizing s with
    | nil => exact .refl _
    | cons c cs ih =>
      exact (grows_unprovenAtTrip c s).trans (ih _)
  exact hfold chans s

/-- The mark of R148 and what brings it: a channel faulted with its valve not proven closed. -/
def State.unprovenMark (s : State) (c : Chan) : Bool × Bool :=
  (s.trip.unproven.get c, (s.chan c).state == .fault && !(s.chan c).provenClosed)

theorem provenClosed_of_given {s t : State} (h : t.given = s.given) (c : Chan) : (t.chan c).provenClosed = (s.chan c).provenClosed := by
  have hi : (t.chan c).inputs = (s.chan c).inputs := congrFun (congrArg Given.inputs h) c
  have h1 := congrArg Inputs.closedLimit hi
  have h2 := congrArg Inputs.openLimit hi
  simp only [Channel.inputs] at h1 h2
  simp only [Channel.provenClosed, h1, h2]

theorem ChState.shut_fault (x : ChState) : (x.shut == .fault) = (x == .fault) := by cases x <;> rfl

theorem unproven_shutdownTripped (c : Chan) (o : Origin) (s : State) :
    (shutdownTripped (.valveUnproven c) o s).trip.unproven = s.trip.unproven.set c true := by
  obtain ⟨e, f, h⟩ := shutdownTripped_eq (.valveUnproven c) o s
  rw [h, (trip_shutdownEffects e f false _).1.unproven, trip_modTrip, Trip.taken_unproven_valve]

theorem get_set_true (v : Vector Bool 4) (c d : Chan) : (v.set c true).get d = if c = d then true else v.get d := by
  simp only [Vector.get_eq_getElem, Vector.getElem_set, Fin.ext_iff]

theorem unprovenMark_unprovenAtTrip (s : State) (c d : Chan) : (unprovenAtTrip c s).unprovenMark d =
    if c = d then ((s.unprovenMark c).1 || (s.unprovenMark c).2, (s.unprovenMark c).2) else s.unprovenMark d := by
  unfold unprovenAtTrip
  split
  case isTrue h =>
    have hstate (d : Chan) : (((shutdownTripped (.valveUnproven c) .watch s).chan d).state == .fault) = ((s.chan d).state == .fault) := by
      obtain ⟨e, f, h⟩ := shutdownTripped_eq (.valveUnproven c) .watch s
      rw [h, state_shutdownEffects, ChState.shut_fault]; rfl
    have hproven := provenClosed_of_given (given_shutdownTripped (.valveUnproven c) .watch s)
    simp only [State.unprovenMark, hstate, hproven, unproven_shutdownTripped, get_set_true]
    split
    case isTrue hd => subst hd; simp [h]
    case isFalse => rfl
  case isFalse h =>
    split
    case isTrue hd =>
      subst hd
      have hb : (s.unprovenMark c).2 = false := by
        simpa [State.unprovenMark] using h
      rw [hb, Bool.or_false, ← hb]
    case isFalse => rfl

/-- Every faulted channel with its valve not proven closed is marked (R148). -/
theorem unproven_unprovenAll (s : State) (c : Chan) : (unprovenAll s).trip.unproven.get c =
    (s.trip.unproven.get c || ((s.chan c).state == .fault && !(s.chan c).provenClosed)) := by
  have h : (unprovenAll s).unprovenMark c = ((s.unprovenMark c).1 || (s.unprovenMark c).2, (s.unprovenMark c).2) :=
    foldl_chans_each (π := State.unprovenMark) (f := fun x c => unprovenAtTrip c x) (g := fun x => (x.1 || x.2, x.2))
      (fun s c d => unprovenMark_unprovenAtTrip s c d) s c
  simp only [State.unprovenMark, Prod.mk.injEq] at h
  exact h.1

theorem given_unprovenAll (s : State) : (unprovenAll s).given = s.given :=
  given_foldl (fun x c => unprovenAtTrip c x) (fun s c => given_unprovenAtTrip c s) chans s

/-- The proposals but for the STARTs (R140). -/
def State.unstarted (s : State) : List Proposal := s.queue.proposals.filter fun q => !q.isStart none

theorem unstarted_unprovenAtTrip (c : Chan) (s : State) : (unprovenAtTrip c s).unstarted = s.unstarted := by
  unfold unprovenAtTrip
  split
  · obtain ⟨e, f, hs⟩ := shutdownTripped_eq (.valveUnproven c) .watch s
    rw [hs, State.unstarted, queue_shutdownEffects]
    simp [State.unstarted]
  · rfl

theorem unstarted_unprovenAll (s : State) : (unprovenAll s).unstarted = s.unstarted :=
  foldl_frame State.unstarted (f := fun x c => unprovenAtTrip c x) (fun s c => unstarted_unprovenAtTrip c s) chans s

/-- More channels marked and the same inputs leave what was settled settled (R148). -/
theorem allSettled_mono {s t : State} (hg : t.given = s.given)
    (hu : ∀ c, s.trip.unproven.get c = true → t.trip.unproven.get c = true) (h : s.allSettled = true) : t.allSettled = true := by
  simp only [State.allSettled, State.settled, List.all_eq_true, Bool.or_eq_true] at h ⊢
  intro c hc
  rw [provenClosed_of_given hg]
  exact (h c hc).imp_right (hu c)

/-- The part is TRIPPED only where every channel is settled. -/
def State.TrippedSettled (s : State) : Prop := s.trip.state = .tripped → s.allSettled = true

theorem trippedSettled_unprovenAll {s : State} (h : s.TrippedSettled) : (unprovenAll s).TrippedSettled := by
  have hone (s : State) (c : Chan) (h : s.TrippedSettled) : (unprovenAtTrip c s).TrippedSettled := by
    unfold unprovenAtTrip
    split
    case isFalse => exact h
    case isTrue =>
      obtain ⟨e, f, hs⟩ := shutdownTripped_eq (.valveUnproven c) .watch s
      have htrip := (trip_shutdownEffects e f false (s.modTrip fun _ => s.trip.taken (.valveUnproven c) .watch s.now)).2.1
      rw [← hs, trip_modTrip, Trip.taken_state] at htrip
      intro ht
      rcases htrip.mp ht with ht | ⟨-, ht⟩
      · refine allSettled_mono (given_shutdownTripped ..) (fun d hd => ?_) (h ht)
        rw [unproven_shutdownTripped, get_set_true]
        split
        · rfl
        · exact hd
      · exact ht
  have hfold (cs : List Chan) (s : State) (h : s.TrippedSettled) : (cs.foldl (fun x c => unprovenAtTrip c x) s).TrippedSettled := by
    induction cs generalizing s with
    | nil => exact h
    | cons c cs ih => exact ih _ (hone s c h)
  exact hfold chans s h

/-- A shutdown from NORMAL or not ends in `shutdownEffects` of a part that is not NORMAL. -/
theorem shutdown_ends (k : ShutdownCause) (o : Origin) (s : State) : ∃ e f b u, shutdown k o s = shutdownEffects e f b u
    ∧ u.trip.state ≠ .normal ∧ (s.trip.taken k o s.now).Grows u.trip
    ∧ u.unstarted = s.unstarted := by
  by_cases h : s.trip.state = .normal
  · obtain ⟨e, f, he⟩ := shutdown_of_normal h k o
    have hgrows : (s.trip.taken k o s.now).Grows (trippingWith k o s).trip := .of_same rfl rfl rfl fun _ => by simp [trippingWith]
    have hall := grows_unprovenAll (trippingWith k o s)
    refine ⟨e, f, true, _, he, hall.normal (by simp [trippingWith]), hgrows.trans hall,
      unstarted_unprovenAll (trippingWith k o s)⟩
  · obtain ⟨e, f, he⟩ := shutdown_of_tripped h k o
    exact ⟨e, f, false, _, he, by rw [trip_modTrip, Trip.taken_state]; exact h, .refl _, rfl⟩

theorem shutAt_shutdown (k : ShutdownCause) (o : Origin) (s : State) (c : Chan) : (shutdown k o s).ShutAt c := by
  obtain ⟨e, f, b, u, h, -⟩ := shutdown_ends k o s
  rw [h]; exact shutAt_shutdownEffects ..

theorem header_shutdown (k : ShutdownCause) (o : Origin) (s : State) : (shutdown k o s).header.state = .tripped
    ∧ (shutdown k o s).header.returnState = none ∧ (shutdown k o s).header.primeTimer = none
    ∧ (shutdown k o s).header.waitTimer = none := by
  obtain ⟨e, f, b, u, h, -⟩ := shutdown_ends k o s
  rw [h, header_shutdownEffects]; exact ⟨rfl, rfl, rfl, rfl⟩

theorem tripped_shutdown (k : ShutdownCause) (o : Origin) (s : State) : (shutdown k o s).trip.state ≠ .normal
    ∧ (shutdown k o s).trip.horn = .trip := by
  obtain ⟨e, f, b, u, h, hn, -⟩ := shutdown_ends k o s
  rw [h]; exact (trip_shutdownEffects e f b u).2.2 hn

theorem grows_shutdown (k : ShutdownCause) (o : Origin) (s : State) : (s.trip.taken k o s.now).Grows (shutdown k o s).trip := by
  obtain ⟨e, f, b, u, h, -, hg, -⟩ := shutdown_ends k o s
  rw [h]; exact hg.trans (grows_shutdownEffects ..)

theorem queue_shutdown (k : ShutdownCause) (o : Origin) (s : State) :
    (shutdown k o s).queue.proposals = s.queue.proposals.filter fun q => !q.isStart none := by
  obtain ⟨e, f, b, u, h, -, -, hq⟩ := shutdown_ends k o s
  rw [h, queue_shutdownEffects]; exact hq

theorem firstOut_shutdown {s : State} (hb : s.trip.Bounded) (k : ShutdownCause) (o : Origin) :
    (shutdown k o s).trip.firstOut = s.trip.firstOut.or (some { cause := k, origin := o, stamp := s.now }) := by
  have hf := Trip.taken_firstOut hb k o s.now
  have hg := grows_shutdown k o s
  cases h : s.trip.firstOut with
  | none => rw [h] at hf; rw [(hg.firstOut _ hf).1]; rfl
  | some e => rw [h] at hf; rw [(hg.firstOut _ hf).1]; rfl

/-- A shutdown keeps the record's room and its first-out (R153). -/
theorem bounded_shutdown {s : State} (hb : s.trip.Bounded) (k : ShutdownCause) (o : Origin) : (shutdown k o s).trip.Bounded := by
  refine ⟨(grows_shutdown k o s).room ((Trip.takes_taken ..).room hb.1), fun h => absurd h (tripped_shutdown k o s).1, fun _ => ?_⟩
  rw [firstOut_shutdown hb]
  cases s.trip.firstOut <;> rfl

/-- A shutdown taken is as `ShutdownTaken` says (R106, R140, R148, R152, R153, R160). -/
theorem shutdown_taken {k : ShutdownCause} {s : State} (hb : s.trip.Bounded)
    (hk : s.trip.state = .normal → ∀ c, k ≠ .valveUnproven c) (o : Origin) : ShutdownTaken k o s (shutdown k o s) := by
  have hgrows := grows_shutdown k o s
  refine ⟨⟨(tripped_shutdown k o s).1, firstOut_shutdown hb k o, ?_, header_shutdown k o s, shutAt_shutdown k o s,
    queue_shutdown k o s, (tripped_shutdown k o s).2, ?_, ?_, ?_⟩, (shutdown_writes k o s).lastStop_eq⟩
  · obtain ⟨e0, he0⟩ : ∃ e0, (s.trip.taken k o s.now).firstOut = some e0 := by
      rw [Trip.taken_firstOut hb]; cases s.trip.firstOut <;> exact ⟨_, rfl⟩
    obtain ⟨hfirst, hlater⟩ := hgrows.firstOut e0 he0
    rcases Trip.taken_holds hb k o s.now with ⟨e, he | he, hc⟩ | hm
    · exact .inl ⟨e, .inl (hgrows.firstOut e he).1, hc⟩
    · exact .inl ⟨e, .inr (hlater.subset he), hc⟩
    · exact .inr (hgrows.more hm)
  · intro ht
    obtain ⟨e, f, h⟩ := shutdown_of_tripped (show s.trip.state ≠ .normal by rw [ht]; decide) k o
    have := (trip_shutdownEffects e f false (s.modTrip fun _ => s.trip.taken k o s.now)).2.1
    rw [h]
    exact this.mpr (.inl (by rw [trip_modTrip, Trip.taken_state, ht]))
  · intro ht
    by_cases hn : s.trip.state = .normal
    · obtain ⟨e, f, h⟩ := shutdown_of_normal hn k o
      have htrip := (trip_shutdownEffects e f true (unprovenAll (trippingWith k o s))).2.1
      have hsettled : (unprovenAll (trippingWith k o s)).TrippedSettled :=
        trippedSettled_unprovenAll fun h => by simp [trippingWith] at h
      have hstate := (grows_unprovenAll (trippingWith k o s)).normal (by simp [trippingWith])
      rw [h, htrip]
      constructor
      · rintro (h | h)
        · refine allSettled_mono (given_shutdownEffects ..) (fun c hc => ?_) (hsettled h)
          rw [(trip_shutdownEffects e f true _).1.unproven]; exact hc
        · exact h.2
      · intro ha
        cases hs : (unprovenAll (trippingWith k o s)).trip.state with
        | normal => exact absurd hs hstate
        | tripping => exact .inr ⟨rfl, ha⟩
        | tripped => exact .inl rfl
    · obtain ⟨e, f, h⟩ := shutdown_of_tripped hn k o
      have htrip := (trip_shutdownEffects e f false (s.modTrip fun _ => s.trip.taken k o s.now)).2.1
      rw [trip_modTrip, Trip.taken_state] at htrip
      rw [h, htrip]
      cases hs : s.trip.state <;> simp_all
  · intro hn c
    obtain ⟨e, f, h⟩ := shutdown_of_normal hn k o
    rw [h, (trip_shutdownEffects e f true _).1.unproven, unproven_unprovenAll]
    have hfalse : (trippingWith k o s).trip.unproven.get c = false := by
      simp only [trippingWith, trip_modTrip, Trip.taken_unproven _ o s.now (hk hn)]
      exact (hb.2.1 hn).2.2.2 c
    rw [hfalse, Bool.false_or]; rfl

/-! SUPPORT. The grants of R110: what a share-out gives, and that the new grants stay within the capacity. -/


/-! ### The share-out (R110 step 3) -/

theorem shareOut_cons (left : Nat) (a : Ask) (rest : List Ask) : shareOut left (a :: rest) =
    if a.minFlow ≤ min a.r left then (a.chan, min a.r left) :: shareOut (left - min a.r left) rest
    else (a.chan, 0) :: shareOut left rest := rfl

theorem shareOut_sum (asks : List Ask) (left : Nat) : ((shareOut left asks).map Prod.snd).sum ≤ left := by
  induction asks generalizing left with
  | nil => exact Nat.zero_le _
  | cons a rest ih =>
    rw [shareOut_cons]
    split
    · have := ih (left - min a.r left)
      simp only [List.map_cons, List.sum_cons]
      omega
    · have := ih left
      simpa using this

/-- A grant above 0 is at least the minimum flow and at most the request of its channel (R110). -/
theorem shareOut_mem {asks : List Ask} {left : Nat} {p : Chan × Nat} (h : p ∈ shareOut left asks) (hp : 0 < p.2) :
    ∃ a ∈ asks, a.chan = p.1 ∧ a.minFlow ≤ p.2 ∧ p.2 ≤ a.r := by
  induction asks generalizing left with
  | nil => cases h
  | cons a rest ih =>
    rw [shareOut_cons] at h
    split at h
    case isTrue hm =>
      rcases List.mem_cons.mp h with rfl | h
      · exact ⟨a, List.mem_cons_self .., rfl, hm, Nat.min_le_left ..⟩
      · obtain ⟨b, hb, hrest⟩ := ih h
        exact ⟨b, List.mem_cons_of_mem _ hb, hrest⟩
    case isFalse =>
      rcases List.mem_cons.mp h with rfl | h
      · exact absurd hp (Nat.lt_irrefl 0)
      · obtain ⟨b, hb, hrest⟩ := ih h
        exact ⟨b, List.mem_cons_of_mem _ hb, hrest⟩

theorem sum_chans (f : Chan → Nat) : (chans.map f).sum = f 0 + f 1 + f 2 + f 3 := by
  simp only [chans, List.map_cons, List.map_nil, List.sum_cons, List.sum_nil]
  omega

/-- Each channel finds at most one share, and no share is found by two. -/
theorem lookup_sum (ps : List (Chan × Nat)) : (chans.map fun c => (ps.lookup c).getD 0).sum ≤ (ps.map Prod.snd).sum := by
  induction ps with
  | nil => simp [chans]
  | cons p ps ih =>
    obtain ⟨d, g⟩ := p
    rw [sum_chans] at ih ⊢
    have hone (c : Chan) : (((d, g) :: ps).lookup c).getD 0 = if c = d then g else (ps.lookup c).getD 0 := by
      rw [List.lookup_cons]
      by_cases h : c = d
      · simp [h]
      · rw [if_neg h, show (c == d) = false by simpa using h]
    simp only [hone, List.map_cons, List.sum_cons]
    match d with
    | 0 => simp; omega
    | 1 => simp; omega
    | 2 => simp; omega
    | 3 => simp; omega

theorem mem_of_lookup {ps : List (Chan × Nat)} {c : Chan} {g : Nat} (h : ps.lookup c = some g) : (c, g) ∈ ps := by
  obtain ⟨as, bs, rfl, -⟩ := List.lookup_eq_some_iff.mp h
  simp

/-! ### The new grants (R110) -/

theorem newGrant_of_serving {s : State} (h : s.header.state = .serving) (c : Chan) :
    s.newGrant c = if s.lockedIn c then s.lockedGrant c else (s.shares.lookup c).getD 0 := by
  simp [State.newGrant, h]

theorem lockedGrant_le (s : State) (c : Chan) : s.lockedGrant c ≤ (s.chan c).grant ∧ s.lockedGrant c ≤ s.request c := by
  unfold State.lockedGrant; simp only; split <;> omega

/-- No channel is granted more than it asks for (R110). -/
theorem newGrant_le_request (s : State) (c : Chan) : s.newGrant c ≤ s.request c := by
  by_cases h : s.header.state = .serving
  case neg => rw [newGrant_of_not_serving h]; exact Nat.zero_le _
  rw [newGrant_of_serving h]
  split
  · exact (lockedGrant_le s c).2
  · cases hl : s.shares.lookup c with
    | none => exact Nat.zero_le _
    | some g =>
      by_cases hg : g = 0
      · rw [hg]; exact Nat.zero_le _
      obtain ⟨a, ha, hc, -, hr⟩ := shareOut_mem (mem_of_lookup hl) (Nat.pos_of_ne_zero hg)
      obtain ⟨d, -, rfl⟩ := List.mem_map.mp ha
      simp only at hc hr
      rw [Option.getD_some, ← hc]; exact hr

/-- A channel granted anything asks: it flows, or it is held for want of a grant alone (R109). -/
theorem asks_of_newGrant {s : State} {c : Chan} (h : 0 < s.newGrant c) : (s.chan c).asks = true := by
  have hr := h.trans_le (newGrant_le_request s c)
  unfold State.request at hr
  split at hr
  case isTrue ha => exact ha
  case isFalse => exact absurd hr (Nat.lt_irrefl 0)

theorem newGrant_sum {s : State} (h : s.header.state = .serving) (hsum : s.grantSum ≤ s.config.header.capacity) :
    (chans.map s.newGrant).sum ≤ s.config.header.capacity := by
  have hshares : (chans.map fun c => (s.shares.lookup c).getD 0).sum ≤ s.config.header.capacity - s.lockedSum :=
    (lookup_sum _).trans (shareOut_sum ..)
  have hfilter : s.lockedSum = (chans.map fun c => if s.lockedIn c then s.lockedGrant c else 0).sum := by
    have hlist (cs : List Chan) : ((cs.filter s.lockedIn).map s.lockedGrant).sum
        = (cs.map fun c => if s.lockedIn c then s.lockedGrant c else 0).sum := by
      induction cs with
      | nil => rfl
      | cons c cs ih => rw [List.filter_cons]; split <;> simp_all
    exact hlist chans
  have hlocked : s.lockedSum ≤ s.grantSum := by
    rw [hfilter, State.grantSum, sum_chans, sum_chans]
    have hone (c : Chan) : (if s.lockedIn c then s.lockedGrant c else 0) ≤ (s.chan c).grant := by
      split
      · exact (lockedGrant_le s c).1
      · exact Nat.zero_le _
    have := hone 0; have := hone 1; have := hone 2; have := hone 3
    omega
  have hnew : (chans.map s.newGrant).sum ≤ s.lockedSum + (chans.map fun c => (s.shares.lookup c).getD 0).sum := by
    rw [hfilter, sum_chans, sum_chans, sum_chans]
    have hone (c : Chan) : s.newGrant c ≤ (if s.lockedIn c then s.lockedGrant c else 0) + (s.shares.lookup c).getD 0 := by
      rw [newGrant_of_serving h]; split <;> omega
    have := hone 0; have := hone 1; have := hone 2; have := hone 3
    omega
  omega

/-! ### The grants given (R111) -/

theorem Channel.granted_grant_le (k : Channel) (g n : Nat) : (k.granted g n).grant ≤ g := by
  unfold Channel.granted
  split
  · split
    · exact Nat.zero_le _
    · exact le_rfl
  · split
    · exact Nat.zero_le _
    · exact le_rfl
  all_goals exact Nat.zero_le _

/-- A grant given keeps a channel flowing by its grant, where a held one is granted only what it asks for. -/
theorem Channel.FlowsByGrant.granted {k : Channel} (h : k.FlowsByGrant) {g : Nat} (ha : 0 < g → k.asks = true) (n : Nat) :
    (k.granted g n).FlowsByGrant := by
  rw [Channel.flowsByGrant_iff] at h
  obtain ⟨hflow, hzero, hheld⟩ := h
  have hput (x : HoldSet) : x.put .noGrant true ≠ HoldSet.empty := HoldSet.ne_empty_of_has (r := .noGrant) (by simp)
  rw [Channel.flowsByGrant_iff]
  unfold Channel.granted
  split
  case h_1 hs =>
    split
    case isTrue => exact ⟨(fun h => nomatch h), fun _ => rfl, fun _ => hput _⟩
    case isFalse hg => exact ⟨fun _ => ⟨Nat.pos_of_ne_zero hg, (hflow hs).2⟩, fun h => absurd hs h, (fun h => nomatch hs.symm.trans h)⟩
  case h_2 hs =>
    split
    case isTrue =>
      refine ⟨(fun h => nomatch hs.symm.trans h), fun _ => rfl, fun _ => ?_⟩
      simp only
      split
      · exact hput _
      · exact hheld hs
    case isFalse hg =>
      refine ⟨fun _ => ⟨Nat.pos_of_ne_zero hg, ?_⟩, fun h => absurd rfl h, (fun h => nomatch h)⟩
      have := ha (Nat.pos_of_ne_zero hg)
      simpa [Channel.asks, hs, HoldSet.isEmpty] using this
  all_goals
    case _ hs => exact ⟨(fun h => nomatch hs.symm.trans h), fun _ => rfl, (fun h => nomatch hs.symm.trans h)⟩

/-- The grants of R110 given meet R110's bounds. -/
theorem grantsOk_giveAll {s : State} (hf : ∀ c, (s.chan c).FlowsByGrant)
    (hsum : s.header.state = .serving → s.grantSum ≤ s.config.header.capacity) : (giveAll s).GrantsOk := by
  have hle (c : Chan) : ((giveAll s).chan c).grant ≤ s.newGrant c := by rw [chan_giveAll]; exact Channel.granted_grant_le ..
  have hconfig : (giveAll s).config = s.config := by rw [giveAll_eq]
  have hheader : (giveAll s).header = s.header := by rw [giveAll_eq]
  refine ⟨?_, fun hn c => ?_, fun c => ?_⟩
  · have hnew : (giveAll s).grantSum ≤ (chans.map s.newGrant).sum := by
      rw [State.grantSum, sum_chans, sum_chans]
      have := hle 0; have := hle 1; have := hle 2; have := hle 3
      omega
    rw [hconfig]
    by_cases h : s.header.state = .serving
    · exact hnew.trans (newGrant_sum h (hsum h))
    · refine hnew.trans ?_
      rw [sum_chans]; simp only [newGrant_of_not_serving h]; omega
  · rw [hheader] at hn
    exact Nat.le_zero.mp ((hle c).trans_eq (newGrant_of_not_serving hn c))
  · rw [chan_giveAll]; exact (hf c).granted asks_of_newGrant _

/-! SUPPORT. A command that hands on no evaluation, and one that finds nothing to take. -/


/-- A powered part's command is its effect, the evaluations it brings, and then the frames that free transmitters take. -/
theorem exec_on {i : Instr} {s : State} (hs : s.powered = true) (hi : ofSupply i = false) :
    exec i s = .next (effect (commandEffect i) s).startSending := by
  rw [exec_eq hi, whileOn, if_pos hs, withEvals]

/-- An effect that hands on no evaluation is the whole effect (log 17). -/
theorem effect_of_no_evals {f : State → State} {s : State} (h : (f s).evals = []) : effect f s = f s := by
  have hrun : runEvals evalBudget (f s) = f s := by rw [evalBudget, runEvals, h]
  rw [effect, hrun, ← h]

/-- A command whose effect is `t`, with no evaluation left over. -/
theorem exec_quiet {i : Instr} {s t : State} (hs : s.powered = true) (hi : ofSupply i = false) (ht : commandEffect i s = t)
    (he : t.evals = []) : exec i s = .next t.startSending := by
  rw [exec_on hs hi, effect_of_no_evals (by rw [ht]; exact he), ht]

/-- A command that finds nothing to take leaves all but what free transmitters take (R171). -/
theorem exec_nothing {i : Instr} {s : State} (hs : s.Ready) (hi : ofSupply i = false) (ht : commandEffect i s = s) :
    exec i s = .next s.startSending := exec_quiet hs.1 hi ht hs.2

theorem due_of_le {s : State} {o : Option Nat} {x : Nat} (ho : o = some x) (hx : x ≤ s.now) : s.due o = true := by
  rw [ho]; exact decide_eq_true hx

theorem not_due {s : State} {o : Option Nat} (h : ∀ x, o = some x → s.now < x) : s.due o = false := by
  cases o with
  | none => rfl
  | some x => exact decide_eq_false (Nat.not_le.mpr (h x rfl))

/-! ### The vectors of the state, by what they hold -/

theorem channels_ext {s t : State} (h : ∀ c, t.chan c = s.chan c) : t.channels = s.channels :=
  Vector.ext fun i hi => by simpa [State.chan, Vector.get_eq_getElem] using h ⟨i, hi⟩

theorem tanks_ext {s t : State} (h : ∀ u, t.tank u = s.tank u) : t.tanks = s.tanks :=
  Vector.ext fun i hi => by simpa [State.tank, Vector.get_eq_getElem] using h ⟨i, hi⟩

theorem slots_ext {s t : State} (h : ∀ i, t.entry i = s.entry i) : t.plan.slots = s.plan.slots :=
  Vector.ext fun i hi => by simpa [State.entry, Vector.get_eq_getElem] using h ⟨i, hi⟩

theorem modChan_self {s : State} {c : Chan} {f : Channel → Channel} (h : f (s.chan c) = s.chan c) : s.modChan c f = s := by
  have hc : (s.modChan c f).channels = s.channels :=
    channels_ext fun d => by rw [chan_modChan]; split <;> simp_all
  have : s.modChan c f = { s with channels := (s.modChan c f).channels } := rfl
  rw [this, hc]

/-! ### A regrant that changes no grant (R108, R111) -/

theorem noteHoldsChange_self (s : State) (c : Chan) : noteHoldsChange s c s = s := if_pos rfl
theorem noteStateChange_self (s : State) (c : Chan) : noteStateChange s c s = s := if_pos rfl

theorem noteRegrant_self (cs : List Chan) {s t : State} (h : t.chan = s.chan) : cs.foldl (fun x c => noteRegrant s c x) t = t := by
  induction cs with
  | nil => rfl
  | cons c cs ih =>
    have hone : noteRegrant s c t = t := by
      have hh : noteHoldsChange s c t = t := if_pos (by rw [h])
      rw [noteRegrant, hh]
      exact if_pos (by rw [h])
    rw [List.foldl_cons, hone, ih]

/-- The channels a regrant would change the grant of. -/
def State.regranted (s : State) : List Chan := chans.filter fun c => s.newGrant c ≠ (s.chan c).grant

/-- A regrant's notices (R111 steps 2 and 3). -/
def regrantTold (z : Bool) (s t : State) : State :=
  chans.foldl (fun x c => noteRegrant s c x) (if z || !s.regranted.isEmpty then noteHeader .grants t else t)

theorem regrant_eq (z : Bool) (s : State) : regrant z s =
    { regrantTold z s (giveAll s) with evals := (regrantTold z s (giveAll s)).evals ++ s.regranted } := by
  unfold regrant regrantTold State.regranted giveAll
  with_reducible rfl

/-- A regrant that finds each channel with the record its new grant would make of it changes nothing. -/
theorem regrant_still {s : State} (z : Bool) (hg : ∀ c, s.newGrant c = (s.chan c).grant)
    (hk : ∀ c, (s.chan c).granted (s.newGrant c) (s.expiry s.config.device.stallTime) = s.chan c) :
    regrant z s = if z then noteHeader .grants s else s := by
  have hgiven : giveAll s = s := by
    have hc : (giveAll s).channels = s.channels := channels_ext fun c => by rw [chan_giveAll, hk]
    rw [giveAll_eq, hc]
  have hchanged : s.regranted = [] := by
    rw [State.regranted, List.filter_eq_nil_iff]
    intro c _
    simp [hg c]
  have htold : regrantTold z s s = if z then noteHeader .grants s else s := by
    rw [regrantTold, hchanged]
    cases z
    · exact noteRegrant_self chans rfl
    · exact noteRegrant_self chans (t := noteHeader .grants s) rfl
  rw [regrant_eq, hgiven, hchanged, List.append_nil, htold]

theorem Channel.granted_self {k : Channel} (h : k.FlowsByGrant) (hg : k.grant = 0) (n : Nat) : k.granted 0 n = k := by
  obtain ⟨hflow, hrest, hheld⟩ := (Channel.flowsByGrant_iff k).mp h
  unfold Channel.granted
  split
  case h_1 hs => exact absurd hg (hflow hs).1.ne'
  case h_2 hs =>
    have he : k.holds.isEmpty = false := by simpa [HoldSet.isEmpty] using hheld hs
    simp [he, ← hg]
  all_goals rw [← hg]

/-- Outside SERVING no channel holds a grant and none is given one: a regrant changes nothing (R108). -/
theorem regrant_of_not_serving {s : State} (hs : s.header.state ≠ .serving) (hg : s.GrantsOk) (z : Bool) :
    regrant z s = if z then noteHeader .grants s else s := by
  have hz (c : Chan) : (s.chan c).grant = 0 := hg.2.1 hs c
  have hn (c : Chan) : s.newGrant c = 0 := newGrant_of_not_serving hs c
  exact regrant_still z (fun c => by rw [hn, hz]) fun c => by rw [hn]; exact Channel.granted_self (hg.2.2 c) (hz c) _

/-! SUPPORT. What is said of the end of a command: which items it left, how a request was answered, and the trip items its cautions and its
horn judgement touched. -/


variable {P : List Part} {s t : State}

/-! ### The items left -/

/-- Writes of the trip items and of notices leave every other item. -/
theorem Writes.only_trip (h : Writes [.trip, .notices] s t) : t = { s with trip := t.trip, portB := t.portB, portS := t.portS } := by
  refine h.keeps (I := fun u => u = { s with trip := u.trip, portB := u.portB, portS := u.portS }) (fun p hp u v hw hu => ?_) rfl
  simp only [List.mem_cons, List.not_mem_nil, or_false] at hp
  rcases hp with rfl | rfl
  · cases hw with
    | trip x _ _ _ => rw [hu]
  · cases hw with
    | notice n _ => rw [hu]; rfl

/-- Notices change the ports alone. -/
theorem Writes.only_ports (h : Writes [.notices] s t) : t = { s with portB := t.portB, portS := t.portS } := by
  have ht : t.trip = s.trip := h.trip_eq
  have h' := (h.mono (Q := [.trip, .notices])).only_trip
  rw [ht] at h'
  exact h'

theorem Writes.ended_eq (h : Writes P s t) (hP : ∀ p ∈ P, p.item ≠ .many ∧ (p.item = .ports → p = .notices) := by decide) (q : Side) :
    (t.port q).ended = (s.port q).ended := by
  refine h.frame (fun u => (u.port q).ended) fun p hp u v hw => ?_
  by_cases hi : p.item = .ports
  · obtain rfl := (hP p hp).2 hi
    cases hw with
    | notice n _ => rw [raise_eq_raiseAll, port_raiseAll]; exact ended_offer ..
  · obtain ⟨hB, hS⟩ := hw.only.same (j := .ports) hi (hP p hp).1
    cases q with
    | barge => exact congrArg Port.ended hB
    | ship => exact congrArg Port.ended hS

/-! ### The horn and the cautions (R159, R160) -/

theorem Trip.HornOnly.refl (t : Trip) : t.HornOnly t := rfl

theorem hornOnly_judgeHorn (a : Option HornClass) (s : State) : (judgeHorn a s).trip.HornOnly s.trip := by
  unfold judgeHorn
  simp only
  split <;> rfl

theorem cautionOff_only_trip (k : Caution) (s : State) : cautionOff k s
    = { s with trip := (cautionOff k s).trip, portB := (cautionOff k s).portB, portS := (cautionOff k s).portS } := by
  unfold cautionOff judgeHorn
  split
  · simp only
    split <;> rfl
  · rfl

theorem hornOnly_cautionOn (k : Caution) (s : State) :
    (cautionOn k s).trip.HornOnly { s.trip with cautions := (cautionOn k s).trip.cautions } := by
  unfold cautionOn judgeHorn
  split
  · rfl
  · simp only
    split <;> rfl

theorem hornOnly_cautionOff (k : Caution) (s : State) :
    (cautionOff k s).trip.HornOnly { s.trip with cautions := (cautionOff k s).trip.cautions } := by
  unfold cautionOff judgeHorn
  split
  · simp only
    split <;> rfl
  · rfl

theorem cautions_cautionOff (k : Caution) (s : State) :
    (cautionOff k s).trip.cautions = s.trip.cautions.filter fun e => !e.caution.same k := by
  unfold cautionOff judgeHorn
  split
  · simp only
    split <;> rfl
  case isFalse h =>
    refine (List.filter_eq_self.mpr fun e he => ?_).symm
    rw [List.any_eq_true, not_exists] at h
    simpa [he] using h e

theorem hornOnly_setCaution (k : Caution) (v : Bool) (s : State) :
    (setCaution k v s).trip.HornOnly { s.trip with cautions := (setCaution k v s).trip.cautions } := by
  cases v with
  | true => exact hornOnly_cautionOn k s
  | false => exact hornOnly_cautionOff k s

/-- Horn and mute judged, and the cautions changed, twice over. -/
theorem Trip.HornOnly.cautions {t x y : Trip} (h : x.HornOnly { t with cautions := x.cautions })
    (g : y.HornOnly { x with cautions := y.cautions }) : y.HornOnly { t with cautions := y.cautions } := by
  unfold Trip.HornOnly at *
  rw [g, h]

theorem Trip.HornOnly.trans {t x y : Trip} (h : x.HornOnly t) (g : y.HornOnly x) : y.HornOnly t := by
  unfold Trip.HornOnly at *
  rw [g, h]

/-! ### A request answered (R167, R170) -/

/-- The part as a request it carries out leaves it, before free transmitters take their frames: the reply placed, the evaluations run. -/
def requestEnd (p : Side) (k : RequestKind) (body : List Byte) (r : Request) (s : State) : State :=
  effect (fun _ => pushReply p { tag := bodyTag body, kind := k.code, result := (handle p r (refreshLink p s)).2 }
    (handle p r (refreshLink p s)).1) s

variable {p : Side} {k : RequestKind} {body : List Byte} {r : Request}

theorem exec_request (hs : s.Hears p) (hp : permits k p = true) (hd : decodeRequest k body = some r) :
    exec (frameCommand p k body) s = .next (requestEnd p k body r s).startSending := by
  have htake := takeRequest_of_hears hs hp hd
  rw [exec_frameCommand, whileOn, if_pos hs.1.1, withEvals, requestEnd, effect, effect, htake]

theorem requestEnd_quiet {u : State} {result : Result} (h : handle p r (refreshLink p s) = (u, result)) (hu : u.evals = []) :
    requestEnd p k body r s = pushReply p { tag := bodyTag body, kind := k.code, result := result } u := by
  rw [requestEnd, h]
  exact effect_of_no_evals (by rw [pushReply_eq_withPorts]; exact hu)

theorem line_requestEnd (q : Side) : ((requestEnd p k body r s).port q).line
    = ((pushReply p { tag := bodyTag body, kind := k.code, result := (handle p r (refreshLink p s)).2 }
        (handle p r (refreshLink p s)).1).port q).line := by
  have h : (requestEnd p k body r s).given = (pushReply p { tag := bodyTag body, kind := k.code, result := (handle p r (refreshLink p s)).2 }
      (handle p r (refreshLink p s)).1).given := given_runEvals ..
  cases q with
  | barge => exact congrArg Given.lineB h
  | ship => exact congrArg Given.lineS h

/-- The reply to a request (R170): no request's own rule touches the lines. -/
theorem answered_requestEnd : Answered p (bodyTag body) k.code (handle p r (refreshLink p s)).2 s (requestEnd p k body r s) := by
  have hline (q : Side) : ((handle p r (refreshLink p s)).1.port q).line = ((refreshLink p s).port q).line := line_handle p r _ q
  constructor
  · have hr := (hline p).trans (line_refreshLink p s)
    have hreplies : ((handle p r (refreshLink p s)).1.port p).replies = (s.port p).replies := congrArg Line.replies hr
    rw [line_requestEnd, port_pushReply, hreplies]
    exact congrArg (fun l : Line => ({ l with replies := (s.port p).replies ++
      [{ tag := bodyTag body, kind := k.code, result := (handle p r (refreshLink p s)).2 }] } : Line)) hr
  · rw [line_requestEnd, port_other_pushReply, hline, line_other_refreshLink]

theorem ended_requestEnd_quiet (hev : (handle p r (refreshLink p s)).1.evals = [])
    (h : ∀ q, ((handle p r (refreshLink p s)).1.port q).ended = ((refreshLink p s).port q).ended) :
    EndedKept s (requestEnd p k body r s) := by
  intro q
  rw [requestEnd_quiet (u := (handle p r (refreshLink p s)).1) rfl hev, ended_pushReply, h, ended_refreshLink]

/-- A request that makes `u` of the part, its ports apart, and hands on no evaluation. -/
theorem request_makes {u : State} (hs : s.Hears p) (hp : permits k p = true) (hd : decodeRequest k body = some r) (hu : u.evals = [])
    (hh : (handle p r (refreshLink p s)).1 = { u with portB := (handle p r (refreshLink p s)).1.portB, portS := (handle p r (refreshLink p s)).1.portS })
    (he : ∀ q, ((handle p r (refreshLink p s)).1.port q).ended = ((refreshLink p s).port q).ended) :
    ∃ t : State, exec (frameCommand p k body) s = .next t.startSending
      ∧ Answered p (bodyTag body) k.code (handle p r (refreshLink p s)).2 s t ∧ EndedKept s t
      ∧ t = { u with portB := t.portB, portS := t.portS } := by
  have hev : (handle p r (refreshLink p s)).1.evals = [] := by rw [hh]; exact hu
  refine ⟨_, exec_request hs hp hd, answered_requestEnd, ended_requestEnd_quiet hev he, ?_⟩
  rw [requestEnd_quiet (u := (handle p r (refreshLink p s)).1) rfl hev, pushReply_eq_withPorts, hh]
  rfl

/-- A request does what its own rule does of the part with its link refreshed. -/
theorem does_of_refreshed {u : State} {result : Result} {ns : List Notice} (hs : s.Hears p) (hp : permits k p = true)
    (hd : decodeRequest k body = some r) (hu : u.evals = [])
    (hh : handle p r (refreshLink p s) = (raiseAll ns (u.withPorts (refreshLink p s).portB (refreshLink p s).portS), result)) :
    Does (frameCommand p k body) p k body result ns s u := by
  have hport (q : Side) : (handle p r (refreshLink p s)).1.port q = ((refreshLink p s).port q).offerAll ns := by
    rw [hh]; cases q <;> rfl
  have hev : (handle p r (refreshLink p s)).1.evals = [] := by rw [hh]; exact hu
  have hend : requestEnd p k body r s = pushReply p { tag := bodyTag body, kind := k.code, result := result } (handle p r (refreshLink p s)).1 :=
    requestEnd_quiet (by rw [hh]) hev
  have hans := answered_requestEnd (p := p) (k := k) (body := body) (r := r) (s := s)
  rw [show (handle p r (refreshLink p s)).2 = result by rw [hh]] at hans
  refine ⟨_, exec_request hs hp hd, ?_, hans, ended_requestEnd_quiet hev fun q => by rw [hport, ended_offerAll], fun hl q => ?_⟩
  · rw [hend, pushReply_eq_withPorts, hh]; rfl
  · have halike := (hearsAlike_refreshLink hl q).offerAll ns
    have hpush := hearsAlike_pushReply p q { tag := bodyTag body, kind := k.code, result := result } (handle p r (refreshLink p s)).1
    rw [hport] at hpush
    rw [hend]
    exact ⟨hpush.notices.trans halike.notices, hpush.lost.trans halike.lost⟩

/-! PROOF. The invariants that every elementary write keeps: valve commands, meters, windows, the Consent Queue and the ports. -/


/-! ### Items an elementary write leaves -/

theorem rawParts_item : ∀ p ∈ rawParts, p = .emptied ∨ p.item ≠ .many := by decide

theorem clearRecord_eq (s : State) : clearRecord s =
    { s with trip := (clearRecord s).trip, header := (clearRecord s).header, portB := (clearRecord s).portB,
             portS := (clearRecord s).portS } := by
  unfold clearRecord changeHeader
  simp only; split <;> rfl

/-- An elementary write of another item leaves this one. -/
theorem Write.leaves {p : Part} {s t : State} (h : Write p s t) (hp : p ∈ rawParts) {i : Item} (hi : p.item ≠ i)
    (hc : i = .channels ∨ i = .tanks ∨ i = .plan ∨ i = .queue ∨ i = .store ∨ i = .config) : i.Same s t := by
  rcases rawParts_item p hp with rfl | hm
  · cases h with
    | emptied => rw [clearRecord_eq]; rcases hc with rfl | rfl | rfl | rfl | rfl | rfl <;> rfl
  · exact h.only.same hi hm

/-! ### Channels: the valve command (R75) and the meter (R115) -/

/-- What an elementary write makes of a channel's record. -/
inductive Channel.Change (k : Channel) : Channel → Prop
  | moves (l : Channel) : k.Moves l → l.meter.counts = k.meter.counts → Channel.Change k l
  | granted (g n : Nat) : Channel.Change k (k.granted g n)
  | zero : Channel.Change k { k with grant := 0 }
  | meter (m : Meter) : m.total = k.meter.total → m.saturated = k.meter.saturated → Channel.Change k { k with meter := m }
  | count : k.meter.saturated = false → Channel.Change k { k with meter := k.meter.count }

theorem Channel.Change.same (k : Channel) : k.Change k := .moves k (.of_same rfl rfl rfl rfl) rfl

theorem Channel.Change.at {s : State} {c : Chan} {k : Channel} (h : (s.chan c).Change k) (d : Chan) :
    (s.chan d).Change ((s.setChan c k).chan d) := by
  rw [chan_setChan]
  split
  case isTrue hd => rw [← hd]; exact h
  case isFalse => exact .same _

theorem Write.change {p : Part} {s t : State} (h : Write p s t) (hp : p ∈ rawParts) (d : Chan) : (s.chan d).Change (t.chan d) := by
  by_cases hi : p.item = .channels
  case neg =>
    have hsame : t.channels = s.channels := h.leaves hp hi (.inl rfl)
    rw [State.chan, State.chan, hsame]; exact .same _
  cases h with
  | chan c k s hk => exact Channel.Change.at (.moves k hk.toMoves hk.counts) d
  | stops c x s => exact Channel.Change.at (.moves { s.chan c with lastStop := x } (.of_same rfl rfl rfl rfl) rfl) d
  | grants s => rw [chan_giveAll]; exact .granted ..
  | opens c k s _ hk hkeep => exact Channel.Change.at (.moves k hk hkeep.counts) d
  | zero c s => exact Channel.Change.at .zero d
  | count c s hs => exact Channel.Change.at (.count hs) d
  | inputs c k s hk _ hm _ => exact Channel.Change.at (.moves k hk hm) d
  | rates c f s hf => exact Channel.Change.at (.meter _ (hf _).1 (hf _).2) d
  | authorise c s => exact Channel.Change.at (.moves { s.chan c with authorised := true } (.of_same rfl rfl rfl rfl) rfl) d
  | unpauseB c k s hk _ hkeep => exact Channel.Change.at (.moves k hk hkeep.counts) d
  | unpauseS c k s hk _ hkeep => exact Channel.Change.at (.moves k hk hkeep.counts) d
  | lift c k s hk _ hkeep => exact Channel.Change.at (.moves k hk hkeep.counts) d
  | _ => simp [Part.item] at hi

theorem Channel.Change.follows {k l : Channel} (h : k.Change l) (hk : k.command = k.state.command) : l.command = l.state.command := by
  cases h with
  | moves _ hm => exact hm.command hk
  | granted => exact Channel.granted_follows k _ _ hk
  | zero | meter | count => exact hk

theorem chan_powerOnBase (a : Bool) (f : FieldInputs) (s : State) (c : Chan) :
    (powerOnBase a f s).chan c = Channel.blank (f.channels.get c) := by
  simp [powerOnBase, State.chan, Vector.get_eq_getElem]

/-- Settles O53: every elementary write keeps the command at that of the state (R75), power-on leaves every channel MASKED. -/
theorem valveCommandsFollowTheStates : Obligations.ValveCommandsFollowTheStates :=
  kept_by_every_write (fun a f s c => by rw [chan_powerOnBase]; rfl) fun _ hp _ _ h hs c => (h.change hp c).follows (hs c)

/-- A pulse on a meter that is not saturated keeps the limit (R117). -/
theorem Meter.count_ok {m : Meter} (hs : m.saturated = false) (h : m.Ok) : m.count.Ok := by
  obtain ⟨hle, hsat⟩ := h
  have hne : m.total ≠ pulseLimit := fun he => by rw [hsat.mpr he] at hs; cases hs
  refine ⟨?_, ?_⟩
  · simp only [Meter.count]; omega
  · simp only [Meter.count, decide_eq_true_eq]; omega

theorem Channel.Change.meterOk {k l : Channel} (h : k.Change l) (hk : k.meter.Ok) : l.meter.Ok := by
  have hcounts {l : Channel} (hc : l.meter.counts = k.meter.counts) : l.meter.Ok := by
    obtain ⟨ht, hs⟩ : l.meter.total = k.meter.total ∧ l.meter.saturated = k.meter.saturated :=
      ⟨congrArg Counts.total hc, congrArg Counts.saturated hc⟩
    unfold Meter.Ok; rw [ht, hs]; exact hk
  cases h with
  | moves _ _ hc => exact hcounts hc
  | granted g n => exact hcounts (Channel.granted_counts k g n)
  | zero => exact hk
  | meter m ht hs => unfold Meter.Ok; simp only [ht, hs]; exact hk
  | count hs => exact Meter.count_ok hs hk

/-- Settles O58: a total moves by a pulse on a meter not saturated only, and a pulse keeps the limit (R116, R117). -/
theorem pulseTotalsStopAtTheirLimit : Obligations.PulseTotalsStopAtTheirLimit :=
  kept_by_every_write
    (fun a f s c => by rw [chan_powerOnBase]; exact ⟨Nat.zero_le _, by simp [Channel.blank, Meter.blank, pulseLimit]⟩)
    fun _ hp _ _ h hs c => (h.change hp c).meterOk (hs c)

/-! ### Tanks: the window and its marks (R34) -/

theorem Tank.windowOk_blank : Tank.blank.WindowOk := Tank.windowOk_of_flushed rfl rfl rfl

theorem windowOk_setTank {s : State} {t : TankNo} {k : Tank} (hk : (s.tank t).WindowOk → k.WindowOk) (h : ∀ u, (s.tank u).WindowOk)
    (u : TankNo) : ((s.setTank t k).tank u).WindowOk := by
  rw [tank_setTank]
  split
  · exact hk (h t)
  · exact h u

theorem tank_powerOnBase (a : Bool) (f : FieldInputs) (s : State) (u : TankNo) : (powerOnBase a f s).tank u = Tank.blank := by
  simp [powerOnBase, State.tank, Vector.get_eq_getElem]

/-- Settles O46: a write of a tank keeps its window's bounds, or sets a blank record (R34 to R42). -/
theorem windowsStayWithinTheirBounds : Obligations.WindowsStayWithinTheirBounds := by
  refine kept_by_every_write (fun a f s u => by rw [tank_powerOnBase]; exact Tank.windowOk_blank) fun p hp s t h hs => ?_
  by_cases hi : p.item = .tanks
  case neg =>
    have hsame : t.tanks = s.tanks := h.leaves hp hi (.inr (.inl rfl))
    intro u; rw [State.tank, hsame]; exact hs u
  cases h with
  | tank t k s hk => exact windowOk_setTank hk.window hs
  | reset t s => exact windowOk_setTank (fun _ => Tank.windowOk_blank) hs
  | declare t k s hk => exact windowOk_setTank hk hs
  | _ => simp [Part.item] at hi

/-! ### The Consent Queue (R128, R132) -/

theorem bounded_filter {q : ConsentQueue} (p : Proposal → Bool) (h : q.Bounded) :
    ConsentQueue.Bounded { q with proposals := q.proposals.filter p } := by
  obtain ⟨h8, h4, hbody, hid, hrange, hn⟩ := h
  have hsub : (q.proposals.filter p).Sublist q.proposals := List.filter_sublist
  refine ⟨hsub.length_le.trans h8, fun x => ?_, hbody.sublist (hsub.map _), hid.sublist (hsub.map _),
    fun y hy => hrange y (hsub.subset hy), hn⟩
  exact (List.Sublist.length_le (hsub.filter _)).trans (h4 x)

/-- Settles O26: a proposal joins within the bounds under a free id, and every other write takes proposals away (R128 to R132). -/
theorem consentQueueStaysBounded : Obligations.ConsentQueueStaysBounded := by
  refine kept_by_every_write (fun a f s => ⟨by simp [powerOnBase], by simp [powerOnBase, ConsentQueue.ofSide], by simp [powerOnBase],
    by simp [powerOnBase], by simp [powerOnBase], by simp [powerOnBase], by simp [powerOnBase]⟩) fun p hp s t h hs => ?_
  by_cases hi : p.item = .queue
  case neg =>
    have hsame : t.queue = s.queue := h.leaves hp hi (.inr (.inr (.inr (.inl rfl))))
    show t.queue.Bounded
    rw [hsame]; exact hs
  cases h with
  | withdraw f s => exact bounded_filter f hs
  | enqueue q s hq => exact hq hs
  | _ => simp [Part.item] at hi

/-! PROOF. The ports: their room, and the place of what waits (R165, R166, R170 to R172). -/


/-! ### The room of a port -/

theorem link_offer (x : Port) (n : Notice) : (x.offer n).link = x.link := congrArg Line.link (line_offer x n)
theorem replies_offer (x : Port) (n : Notice) : (x.offer n).replies = x.replies := congrArg Line.replies (line_offer x n)
theorem sending_offer (x : Port) (n : Notice) : (x.offer n).sending = x.sending := congrArg Line.sending (line_offer x n)
theorem silenceTimer_offer (x : Port) (n : Notice) : (x.offer n).silenceTimer = x.silenceTimer :=
  congrArg Line.silenceTimer (line_offer x n)

theorem port_setEnded (c : Chan) (s : State) (q : Side) :
    (setEnded c s).port q = { s.port q with ended := (s.port q).ended.set c true } := by cases q <;> rfl

theorem Port.Roomy.offer {x : Port} (h : x.Roomy) (n : Notice) : (x.offer n).Roomy := by
  refine ⟨by rw [replies_offer]; exact h.replies, offer_length n h.notices, fun hs => ?_, fun hl => ?_⟩
  · rw [link_offer] at hs
    rw [offer_silent n hs]; exact h.silent hs
  · rw [link_offer] at hl
    rw [silenceTimer_offer]; exact h.live hl

theorem Port.Roomy.of_lists {x y : Port} (h : x.Roomy) (hr : y.replies = x.replies) (hn : y.notices = x.notices) (hl : y.link = x.link)
    (ht : y.silenceTimer = x.silenceTimer) (hd : x.lost = false → y.lost = false) : y.Roomy where
  replies := hr ▸ h.replies
  notices := hn ▸ h.notices
  silent hs := by
    obtain ⟨h1, h2, h3, h4⟩ := h.silent (hl ▸ hs)
    exact ⟨hr.trans h1, hn.trans h2, hd h3, ht.trans h4⟩
  live hs := ht ▸ h.live (hl ▸ hs)

theorem Port.Roomy.begin {x : Port} (h : x.Roomy) : x.begin.Roomy where
  replies := (begin_length x).1.trans h.replies
  notices := (begin_length x).2.trans h.notices
  silent hs := by
    rw [link_begin] at hs
    obtain ⟨h1, h2, h3, h4⟩ := h.silent hs
    have hl := begin_length x
    rw [h1, h2] at hl
    exact ⟨List.length_eq_zero_iff.mp (Nat.le_zero.mp hl.1), List.length_eq_zero_iff.mp (Nat.le_zero.mp hl.2),
      by rw [lost_begin, h3], by rw [silenceTimer_begin, h4]⟩
  live hs := by rw [silenceTimer_begin]; rw [link_begin] at hs; exact h.live hs

theorem Port.roomy_silenced (x : Port) : x.silenced.Roomy :=
  ⟨Nat.zero_le _, Nat.zero_le _, fun _ => ⟨rfl, rfl, rfl, rfl⟩, (fun h => nomatch h)⟩

/-- Both ports satisfy `Q` after one is replaced by a port that does. -/
theorem port_modPort_of {Q : Port → Prop} {s : State} {p : Side} {f : Port → Port} (h : ∀ q, Q (s.port q)) (hf : Q (f (s.port p)))
    (q : Side) : Q ((s.modPort p f).port q) := by
  rw [port_modPort]
  split
  · exact hf
  · exact h q

theorem port_raise (n : Notice) (s : State) (q : Side) : (raise n s).port q = (s.port q).offer n := by cases q <;> rfl

theorem port_clearRecord (s : State) (q : Side) : (clearRecord s).port q = s.port q ∨ ∃ n, (clearRecord s).port q = (s.port q).offer n := by
  unfold clearRecord changeHeader
  simp only; split
  · exact .inl rfl
  · exact .inr ⟨_, port_raise ..⟩

theorem Write.roomy {p : Part} {s t : State} (h : Write p s t) (hp : p ∈ rawParts) (hs : ∀ q, (s.port q).Roomy) (q : Side) :
    (t.port q).Roomy := by
  by_cases hi : p.item = .ports ∨ p = .emptied
  case neg =>
    rw [not_or] at hi
    have hm := (rawParts_item p hp).resolve_left hi.2
    obtain ⟨hB, hS⟩ : t.portB = s.portB ∧ t.portS = s.portS := h.only.same (j := .ports) hi.1 hm
    have hsame : t.port q = s.port q := by cases q; exacts [hB, hS]
    rw [hsame]; exact hs q
  cases h with
  | notice n s => rw [port_raise]; exact (hs q).offer n
  | ended c s => rw [port_setEnded]; exact (hs q).of_lists rfl rfl rfl rfl id
  | line p f s hf => exact port_modPort_of hs (hf.roomy (hs p)) q
  | flags p s => exact port_modPort_of hs ((hs p).of_lists rfl rfl rfl rfl fun _ => rfl) q
  | silence p s => exact port_modPort_of hs (Port.roomy_silenced _) q
  | sent p s => exact port_modPort_of hs ((hs p).of_lists rfl rfl rfl rfl id) q
  | sending s => rw [port_startSending]; exact (hs q).begin
  | emptied s =>
    rcases port_clearRecord s q with h | ⟨n, h⟩
    · rw [h]; exact hs q
    · rw [h]; exact (hs q).offer n
  | _ => simp [Part.item] at hi

theorem Port.bounded_iff (x : Port) : x.Bounded ↔ x.Roomy ∧ x.Settled :=
  ⟨fun ⟨h1, h2, h3, h4, h5⟩ => ⟨⟨h1, h2, h3, h4⟩, h5⟩, fun ⟨⟨h1, h2, h3, h4⟩, h5⟩ => ⟨h1, h2, h3, h4, h5⟩⟩

theorem port_powerOnBase (a : Bool) (f : FieldInputs) (s : State) (q : Side) : (powerOnBase a f s).port q = Port.blank := by
  cases q <;> rfl

theorem ports_roomy : KeptByEveryStep fun s => ∀ q, (s.port q).Roomy :=
  kept_by_every_write
    (fun a f s q => by rw [port_powerOnBase]; exact ⟨Nat.zero_le _, Nat.zero_le _, fun _ => ⟨rfl, rfl, rfl, rfl⟩, (fun h => nomatch h)⟩)
    fun _ hp _ _ h hs => h.roomy hp hs

/-! ### What waits for a free transmitter -/

theorem settled_withEvals (f : State → State) (s : State) (q : Side) : ((withEvals f s).port q).Settled := by
  rw [withEvals, port_startSending]; exact begin_settled _

/-- A command leaves no frame waiting for a free transmitter: it ends with them taking what waits (R171; log 23). -/
theorem settled_exec {i : Instr} {s t : State} (h : exec i s = .next t) (hs : ∀ q, (s.port q).Settled) (q : Side) :
    (t.port q).Settled := by
  by_cases hi : i = .powerLoss
  · subst hi
    rw [exec_powerLoss, whileOn] at h
    cases h
    split
    · rw [(losePower_writes s).port_eq]; exact hs q
    · exact hs q
  · by_cases ho : ∃ f, i = .powerOn f
    · obtain ⟨f, rfl⟩ := ho
      rw [exec_powerOn] at h
      cases h; exact settled_withEvals _ s q
    · have hsup : ofSupply i = false := by
        cases i with
        | powerOn f => exact absurd ⟨f, rfl⟩ ho
        | powerLoss => exact absurd rfl hi
        | _ => rfl
      rw [exec_eq hsup, whileOn] at h
      cases h
      split
      · exact settled_withEvals _ s q
      · exact hs q

theorem settled_step {s t : State} (h : step s = .next t) (hs : ∀ q, (s.port q).Settled) (q : Side) : (t.port q).Settled := by
  unfold step at h
  split at h
  · cases h
    rw [(tick_writes s).port_eq]; exact hs q
  · exact settled_exec h (fun q => by cases q; exacts [hs .barge, hs .ship]) q

theorem ports_iff {Q : Port → Prop} {s : State} : (∀ q, Q (s.port q)) ↔ Q s.portB ∧ Q s.portS :=
  ⟨fun h => ⟨h .barge, h .ship⟩, fun h q => by cases q; exacts [h.1, h.2]⟩

/-- Settles O15: every write keeps the room of the lists, and every command ends with the free transmitters served (R165 to R172). -/
theorem portsKeepTheirRoom : Obligations.PortsKeepTheirRoom := by
  intro s t hs hst
  simp only [Port.bounded_iff, ← ports_iff (Q := fun x => x.Roomy ∧ x.Settled)] at hs ⊢
  exact fun q => ⟨ports_roomy s t (fun q => (hs q).1) hst q, settled_step hst (fun q => (hs q).2) q⟩

/-! ### The place of what waits (R170, R171, R172) -/

/-- Port `q` is sending what it was sending, and what waited waits at the head of its lists. -/
structure Port.Waits (x y : Port) : Prop where
  sending : y.sending = x.sending
  replies : x.replies <+: y.replies
  notices : x.notices <+: y.notices

theorem Port.Waits.refl (x : Port) : x.Waits x := ⟨rfl, List.prefix_rfl, List.prefix_rfl⟩

theorem Port.Waits.trans {x y z : Port} (h : x.Waits y) (g : y.Waits z) : x.Waits z :=
  ⟨g.sending.trans h.sending, h.replies.trans g.replies, h.notices.trans g.notices⟩

theorem Port.waits_offer (x : Port) (n : Notice) : x.Waits (x.offer n) :=
  ⟨sending_offer x n, by rw [replies_offer], offer_prefix n x⟩

/-- A write takes nothing that waits from a port that is sending, but a transmission and a silence (R170 to R172). -/
theorem Write.waits {p : Part} {s t : State} (h : Write p s t) (hm : p.item ≠ .many ∨ p = .emptied)
    (hp : p ≠ .silence ∧ p ≠ .sent) {q : Side} (hs : (s.port q).sending ≠ none) : (s.port q).Waits (t.port q) := by
  by_cases hi : p.item = .ports ∨ p = .emptied
  case neg =>
    rw [not_or] at hi
    obtain ⟨hB, hS⟩ : t.portB = s.portB ∧ t.portS = s.portS := h.only.same (j := .ports) hi.1 (hm.resolve_right hi.2)
    have hsame : t.port q = s.port q := by cases q; exacts [hB, hS]
    rw [hsame]; exact .refl _
  have hmod (r : Side) (f : Port → Port) (s : State) (hf : (s.port r).Waits (f (s.port r))) : (s.port q).Waits ((s.modPort r f).port q) := by
    rw [port_modPort]
    split
    case isTrue hq => rw [← hq]; exact hf
    case isFalse => exact .refl _
  cases h with
  | notice n s => rw [port_raise]; exact Port.waits_offer ..
  | ended c s => rw [port_setEnded]; exact ⟨rfl, List.prefix_rfl, List.prefix_rfl⟩
  | line r f s hf => exact hmod r f s ⟨hf.sending, hf.replies, by rw [hf.notices]⟩
  | flags r s => exact hmod r _ s ⟨rfl, List.prefix_rfl, List.prefix_rfl⟩
  | sending s =>
    obtain ⟨f, hf⟩ := Option.ne_none_iff_exists'.mp hs
    rw [port_startSending, begin_sending hf]; exact .refl _
  | emptied s =>
    rcases port_clearRecord s q with h | ⟨n, h⟩
    · rw [h]; exact .refl _
    · rw [h]; exact Port.waits_offer ..
  | silence | sent => simp at hp
  | _ => simp [Part.item] at hi

theorem Writes.waits {P : List Part} {s t : State} (h : Writes P s t) {q : Side} (hs : (s.port q).sending ≠ none)
    (hP : ∀ p ∈ P.flatMap Part.raw, (p.item ≠ .many ∨ p = .emptied) ∧ p ≠ .silence ∧ p ≠ .sent := by decide) :
    (s.port q).Waits (t.port q) :=
  h.raw.keeps (I := fun u => (s.port q).Waits (u.port q))
    (fun p hp _ _ hw hu => hu.trans (hw.waits (hP p hp).1 (hP p hp).2 (by rw [hu.sending]; exact hs))) (.refl _)

theorem port_other_of_ne {p q : Side} (h : p ≠ q) (f : Port → Port) (s : State) : (s.modPort p f).port q = s.port q := by
  rw [port_modPort, if_neg h]

/-- The silence of one port takes nothing from the other (R166). -/
theorem waits_takeSilence {p q : Side} {s : State} (h : p ≠ q) (hs : (s.port q).sending ≠ none) :
    (s.port q).Waits ((takeSilence p s).port q) := by
  unfold takeSilence
  split
  case isFalse => exact .refl _
  have hout (u : State) : Writes [.withdrawals, .notices] u (withdrawSilent p u) := withdrawWhere_writes ..
  have hshut (u : State) : Writes [.shutdown] u (shutdownSilent p u) := shut_writes ..
  have hready : (s.port q).Waits ((silenced p s).port q) := by
    have hport : (s.modPort p Port.silenced).port q = s.port q := port_other_of_ne h _ s
    have hnote (u : State) (hu : u.port q = s.port q) (n : Nat) :
        (s.port q).Waits (({ noteTrip .state u with freeCount := n } : State).port q) := by
      have : ({ noteTrip .state u with freeCount := n } : State).port q = (s.port q).offer (.trip .state u.tripView none u.now) := by
        rw [← hu]; cases q <;> rfl
      rw [this]; exact Port.waits_offer ..
    cases p with
    | barge => exact hnote _ hport _
    | ship => exact hnote _ (by rw [← hport]; cases q <;> rfl) _
  have hs1 : ((silenced p s).port q).sending ≠ none := by rw [hready.sending]; exact hs
  rw [goSilent_eq]
  split
  · exact hready.trans (((hout _).then (hshut _) (R := [.shutdown, .withdrawals, .notices])).waits hs1)
  · exact hready.trans (((hshut _).then (hout _) (R := [.shutdown, .withdrawals, .notices])).waits hs1)

/-- The kinds of a step but for a port's transmission and its silence. -/
abbrev waitingParts : List Part := stepParts.filter fun p => p ≠ .silence ∧ p ≠ .sent

theorem commandParts_waits (i : Instr) (h1 : ∀ p, i ≠ .silenceTimerExpiry p) (h2 : ∀ p, i ≠ .frameTransmitted p) :
    commandParts i ++ finishParts ⊆ waitingParts := by
  intro p hp
  refine List.mem_filter.mpr ⟨commandParts_sub i hp, ?_⟩
  have hrequest (r : Side) (k : RequestKind) : ∀ p ∈ frameParts r k ++ finishParts, p ≠ .silence ∧ p ≠ .sent := by
    cases r <;> cases k <;> decide
  have hany (r : Side) : ∀ p ∈ anyFrameParts r ++ finishParts, p ≠ .silence ∧ p ≠ .sent := by cases r <;> decide
  refine decide_eq_true ?_
  cases i with
  | silenceTimerExpiry p => exact absurd rfl (h1 p)
  | frameTransmitted p => exact absurd rfl (h2 p)
  | chconfig r _ | headerconfig r _ | priority r _ =>
    cases r with
    | barge => exact hrequest .barge _ p hp
    | ship => revert p; simp only [commandParts]; decide
  | byteReceived r _ => exact hany r p hp
  | unassignedKindFrame r => exact hany r p hp
  | status r _ | readEntry r _ | readTank r _ | readChannel r _ | readTrip r _ | propose r _ | endorse r _ | stop r _ | stopAll r _
  | pause r _ | continue_ r _ | silence r _ | tankdef r _ | strapSeek r _ | strapPut r _ | strapSeal r _ | level r _ | lineup r _
  | entryEnd r _ | arm r _ | mask r _ | hose r _ | store r _ => exact hrequest r _ p hp
  | _ => revert p; simp only [commandParts]; decide

/-- Settles O16: a port that is sending keeps what waits, but for its own transmission, its silence and power-on; and one that is not has
nothing waiting (R171). -/
theorem waitingFramesKeepTheirPlace : Obligations.WaitingFramesKeepTheirPlace := by
  intro i q s t h hsent hsil hon hset
  by_cases hs : (s.port q).sending = none
  · obtain ⟨hr, hn⟩ := hset hs
    rw [hr, hn]; exact ⟨List.nil_prefix, List.nil_prefix⟩
  suffices hw : (s.port q).Waits (t.port q) from ⟨hw.replies, hw.notices⟩
  have hafter {f : State → State} (ht : whileOn s (withEvals f) = .next t) (hf : (s.port q).Waits ((f s).port q)) :
      (s.port q).Waits (t.port q) := by
    rw [whileOn] at ht
    cases ht
    split
    · exact hf.trans ((withEvals_writes f s).waits (by rw [hf.sending]; exact hs))
    · exact .refl _
  by_cases h1 : ∃ p, i = .silenceTimerExpiry p
  · obtain ⟨p, rfl⟩ := h1
    exact hafter h (waits_takeSilence (fun hp => hsil (by rw [hp])) hs)
  by_cases h2 : ∃ p, i = .frameTransmitted p
  · obtain ⟨p, rfl⟩ := h2
    refine hafter (f := frameSent p) h ?_
    rw [frameSent, port_other_of_ne (fun hp => hsent (by rw [hp]))]; exact .refl _
  exact ((exec_writes h hon).mono (commandParts_waits i (fun p hp => h1 ⟨p, hp⟩) fun p hp => h2 ⟨p, hp⟩)).waits hs

/-! PROOF. The trip state, its record and the header; CONFIG_DEFAULTS and the store (R147, R153, R159, R178). -/


/-! ### The part tripped stays shut (R147) -/

theorem State.TrippedShut.of_same {s t : State} (h : s.TrippedShut) (hc : t.channels = s.channels) (ht : t.trip.state = s.trip.state) :
    t.TrippedShut := by
  intro hn c
  rw [State.chan, hc]; exact h (ht ▸ hn) c

theorem State.TrippedShut.setChan {s : State} (h : s.TrippedShut) {c : Chan} {k : Channel} (hk : s.trip.state ≠ .normal → (s.chan c).StaysShut k) :
    (s.setChan c k).TrippedShut := by
  intro hn d
  rw [chan_setChan]
  split
  · exact ⟨(hk hn).shut (h hn c).1, (hk hn).auth (h hn c).2⟩
  · exact h hn d

theorem Write.trippedShut {p : Part} {s t : State} (h : Write p s t) (hp : p ∈ .cautionDefaults :: innerParts [.shutdown])
    (hs : s.TrippedShut) : t.TrippedShut := by
  have hitem : ∀ p ∈ .cautionDefaults :: innerParts [.shutdown], (p.item = .many → p = .emptied) ∧ p ≠ .trips := by decide
  obtain ⟨hmany, htrips⟩ := hitem p hp
  by_cases hi : p.item = .channels ∨ p.item = .trip ∨ p.item = .many
  case neg =>
    simp only [not_or] at hi
    have hc : t.channels = s.channels := h.only.same hi.1 hi.2.2
    have ht : t.trip = s.trip := h.only.same hi.2.1 hi.2.2
    exact hs.of_same hc (by rw [ht])
  cases h with
  | chan c k s hk => exact hs.setChan fun _ => hk.toStaysShut
  | stops c x s => exact hs.setChan fun _ => .of_same rfl rfl
  | grants s =>
    intro hn c
    rw [giveAll_eq] at hn
    rw [chan_giveAll, Channel.granted_command, Channel.granted_authorised]
    exact hs hn c
  | opens c k s hn => exact hs.setChan fun h => absurd hn h
  | zero c s => exact hs.setChan fun _ => .of_same rfl rfl
  | count c s => exact hs.setChan fun _ => .of_same rfl rfl
  | inputs c k s _ hk => exact hs.setChan fun _ => hk
  | rates c f s => exact hs.setChan fun _ => .of_same rfl rfl
  | authorise c s hn => exact hs.setChan fun h => absurd hn h
  | unpauseB c k s _ hk => exact hs.setChan fun _ => hk
  | unpauseS c k s _ hk => exact hs.setChan fun _ => hk
  | lift c k s _ hk => exact hs.setChan fun _ => hk
  | trip x s hx _ => exact hs.of_same rfl hx.state
  | settle s ht => intro _ c; exact hs (by rw [ht]; decide) c
  | loops a b s => exact hs.of_same rfl rfl
  | cautionDefaults x s _ hx => exact hs.of_same rfl hx
  | emptied s =>
    intro hn
    refine absurd ?_ hn
    unfold clearRecord changeHeader
    simp only; split <;> rfl
  | _ => simp_all [Part.item]

/-- Settles O29: a shutdown shuts every channel, and every other write opens a valve or authorises in NORMAL only (R147). -/
theorem trippedPartStaysShut : Obligations.TrippedPartStaysShut := by
  refine kept_by_every_step (fun a f s _ c => by rw [chan_powerOnBase]; exact ⟨rfl, rfl⟩) fun p hp s t h hs => ?_
  have hkeeps := keeps_write (I := State.TrippedShut) (Q := [.shutdown]) (fun p hp s t h _ _ c => ?_)
    fun p hp s t h hs => h.trippedShut (List.mem_cons_of_mem _ hp) hs
  · rcases List.mem_cons.mp hp with rfl | hp
    · exact h.trippedShut (by simp) hs
    · exact hkeeps p hp s t h hs
  · obtain rfl := List.mem_singleton.mp hp
    cases h with
    | shutdown k o =>
      obtain ⟨hw, -, ha, -⟩ := shutAt_shutdown k o s c
      exact ⟨(Channel.watched_eq_false_iff _).mp hw, ha⟩

/-! ### Record, header and timers (R97, R106, R153, R156) -/

/-- The record's room, the header TRIPPED with it, and the header's timers: kept by every write together. -/
def State.RecordOk (s : State) : Prop := s.trip.Bounded ∧ s.HeaderTrips ∧ s.header.TimersOk

theorem Trip.Bounded.of_record {t x : Trip} (h : t.Bounded) (hr : t.SameRecord x) (hs : x.state = .normal ↔ t.state = .normal) :
    x.Bounded := by
  refine ⟨by rw [hr.later]; exact h.1, fun hn => ?_, fun hn => ?_⟩
  · rw [hr.firstOut, hr.later, hr.more, hr.unproven]; exact h.2.1 (hs.mp hn)
  · rw [hr.firstOut]; exact h.2.2 fun h => hn (hs.mpr h)

theorem State.RecordOk.of_trip {s : State} (h : s.RecordOk) {x : Trip} (hr : s.trip.SameRecord x)
    (hs : x.state = .normal ↔ s.trip.state = .normal) : ({ s with trip := x } : State).RecordOk :=
  ⟨h.1.of_record hr hs, by unfold State.HeaderTrips; rw [ne_eq, hs]; exact h.2.1, h.2.2⟩

theorem clearRecord_trip (s : State) : (clearRecord s).trip =
    { s.trip with firstOut := none, later := [], more := false, unproven := Vector.replicate 4 false, state := .normal } := by
  unfold clearRecord changeHeader
  simp only; split <;> rfl

theorem clearRecord_header (s : State) : (clearRecord s).header = { s.header with state := .idle } := by
  rw [clearRecord, changeHeader_header]; rfl

theorem get_replicate_false (c : Chan) : (Vector.replicate 4 false).get c = false := by
  simp [Vector.get_eq_getElem]

/-- A record emptied leaves the header IDLE, its timers stopped as they were in TRIPPED (R156). -/
theorem recordOk_clearRecord {s : State} (h : s.RecordOk) (hf : s.trip.firstOut.isSome = true) : (clearRecord s).RecordOk := by
  obtain ⟨hb, hh, ht⟩ := h
  have hn : s.trip.state ≠ .normal := fun hn => by rw [(hb.2.1 hn).1] at hf; cases hf
  have hst := hh.mpr hn
  refine ⟨?_, ?_, ?_⟩
  · rw [clearRecord_trip]
    exact ⟨Nat.zero_le _, fun _ => ⟨rfl, rfl, rfl, get_replicate_false⟩, fun h => absurd rfl h⟩
  · simp [State.HeaderTrips, clearRecord_trip, clearRecord_header]
  · rw [clearRecord_header]
    simp only [Header.TimersOk, hst] at ht ⊢
    simpa using ht

theorem Write.recordOk {p : Part} {s t : State} (h : Write p s t) (hp : p ∈ .cautionDefaults :: innerParts [.shutdown])
    (hs : s.RecordOk) : t.RecordOk := by
  have hitem : ∀ p ∈ .cautionDefaults :: innerParts [.shutdown], (p.item = .many → p = .emptied) ∧ p ≠ .trips ∧ p ≠ .headTrip := by
    decide
  obtain ⟨hmany, htrips, hhead⟩ := hitem p hp
  by_cases hi : p.item = .header ∨ p.item = .trip ∨ p.item = .many
  case neg =>
    simp only [not_or] at hi
    have hh : t.header = s.header := h.only.same hi.1 hi.2.2
    have ht : t.trip = s.trip := h.only.same hi.2.1 hi.2.2
    unfold State.RecordOk State.HeaderTrips
    rw [hh, ht]; exact hs
  cases h with
  | header x s hx => exact ⟨hs.1, hx.tripped hs.2.2 hs.2.1, hx.timers hs.2.2⟩
  | hinputs a b s => exact hs
  | trip x s hx _ => exact hs.of_trip hx.toSameRecord (by rw [hx.state])
  | settle s ht => exact hs.of_trip ⟨rfl, rfl, rfl, rfl, rfl, rfl⟩ (by simp [ht])
  | loops a b s =>
    exact ⟨hs.1, hs.2.1, hs.2.2⟩
  | cautionDefaults x s hr hx => exact hs.of_trip hr (by rw [hx])
  | emptied s _ hf => exact recordOk_clearRecord hs hf
  | _ => simp_all [Part.item]

theorem recordOk_shutdown {s : State} (h : s.RecordOk) (k : ShutdownCause) (o : Origin) : (shutdown k o s).RecordOk := by
  obtain ⟨h1, h2, h3, h4⟩ := header_shutdown k o s
  refine ⟨bounded_shutdown h.1 k o, iff_of_true h1 (tripped_shutdown k o s).1, ?_⟩
  simp [Header.TimersOk, h1, h2, h3, h4]

theorem recordOk_step : KeptByEveryStep State.RecordOk := by
  refine kept_by_every_step (fun a f s => ?_) fun p hp s t h hs => ?_
  · exact ⟨⟨Nat.zero_le _, (fun h => nomatch h), fun _ => rfl⟩, iff_of_true rfl (fun h => nomatch h),
      by simp [Header.TimersOk, powerOnBase]⟩
  have hkeeps := keeps_write (I := State.RecordOk) (Q := [.shutdown]) (fun p hp s t h hs => ?_)
    fun p hp s t h hs => h.recordOk (List.mem_cons_of_mem _ hp) hs
  · rcases List.mem_cons.mp hp with rfl | hp
    · exact h.recordOk (by simp) hs
    · exact hkeeps p hp s t h hs
  · obtain rfl := List.mem_singleton.mp hp
    cases h with
    | shutdown k o => exact recordOk_shutdown hs k o

/-! ### CONFIG_DEFAULTS (R159, R176, R178) -/

/-- What an elementary write leaves of CONFIG_DEFAULTS: shown as it was, and held as it was. -/
theorem Write.shows {p : Part} {s t : State} (h : Write p s t) (hm : p.item ≠ .many ∨ p = .emptied)
    (hp : p ≠ .storeDefaults ∧ p ≠ .cautionDefaults) :
    (t.trip.ShowsDefaults ↔ s.trip.ShowsDefaults) ∧ t.store.configDefaults = s.store.configDefaults := by
  by_cases hi : p.item = .trip ∨ p.item = .store ∨ p.item = .many
  case neg =>
    simp only [not_or] at hi
    have ht : t.trip = s.trip := h.only.same hi.1 hi.2.2
    have hst : t.store = s.store := h.only.same hi.2.1 hi.2.2
    rw [ht, hst]; exact ⟨Iff.rfl, rfl⟩
  have hcautions {x : Trip} (hx : x.cautions = s.trip.cautions) : x.ShowsDefaults ↔ s.trip.ShowsDefaults := by
    unfold Trip.ShowsDefaults; rw [hx]
  cases h with
  | trip x s hx _ => exact ⟨hx.defaults, rfl⟩
  | settle s => exact ⟨Iff.rfl, rfl⟩
  | trips x s hx => exact ⟨hcautions hx.cautions, rfl⟩
  | loops a b s => exact ⟨Iff.rfl, rfl⟩
  | store x s hx => exact ⟨Iff.rfl, hx⟩
  | copy x s hx => exact ⟨Iff.rfl, hx⟩
  | emptied s =>
    refine ⟨hcautions (by rw [clearRecord_trip]), ?_⟩
    rw [clearRecord_eq]
  | _ => simp_all [Part.item]

theorem Writes.shows {P : List Part} {s t : State} (h : Writes P s t)
    (hP : ∀ p ∈ P.flatMap Part.raw, (p.item ≠ .many ∨ p = .emptied) ∧ p ≠ .storeDefaults ∧ p ≠ .cautionDefaults := by decide) :
    (t.trip.ShowsDefaults ↔ s.trip.ShowsDefaults) ∧ t.store.configDefaults = s.store.configDefaults :=
  h.raw.keeps (I := fun u => (u.trip.ShowsDefaults ↔ s.trip.ShowsDefaults) ∧ u.store.configDefaults = s.store.configDefaults)
    (fun p hp _ _ hw hu =>
      have ⟨h1, h2⟩ := hw.shows (hP p hp).1 (hP p hp).2
      ⟨h1.trans hu.1, h2.trans hu.2⟩) ⟨Iff.rfl, rfl⟩

theorem Writes.defaultsShown {P : List Part} {s t : State} (h : Writes P s t) (hs : s.DefaultsShown)
    (hP : ∀ p ∈ P.flatMap Part.raw, (p.item ≠ .many ∨ p = .emptied) ∧ p ≠ .storeDefaults ∧ p ≠ .cautionDefaults := by decide) :
    t.DefaultsShown := by
  obtain ⟨h1, h2⟩ := h.shows hP
  unfold State.DefaultsShown
  rw [h2]; exact Iff.trans hs h1.symm

theorem cautions_judgeHorn (a s) : (judgeHorn a s).trip.cautions = s.trip.cautions := by
  unfold judgeHorn; simp only; split <;> rfl

theorem same_eq_configDefaults (k : Caution) : k.same .configDefaults = (k == .configDefaults) := by cases k <;> rfl

theorem shows_cautionOn (s : State) : (cautionOn .configDefaults s).trip.ShowsDefaults := by
  unfold cautionOn Trip.ShowsDefaults
  split
  case isTrue h =>
    simp only [List.any_eq_true, same_eq_configDefaults, beq_iff_eq] at h
    exact h
  case isFalse =>
    rw [cautions_judgeHorn]
    exact ⟨_, List.mem_append_right _ (List.mem_singleton.mpr rfl), rfl⟩

theorem not_shows_cautionOff (s : State) : ¬ (cautionOff .configDefaults s).trip.ShowsDefaults := by
  unfold cautionOff Trip.ShowsDefaults
  split
  case isTrue =>
    rw [cautions_judgeHorn]
    rintro ⟨e, he, hc⟩
    have hf := (List.mem_filter.mp he).2
    rw [hc, same_eq_configDefaults] at hf
    cases hf
  case isFalse h =>
    simpa only [List.any_eq_true, same_eq_configDefaults, beq_iff_eq] using h

theorem setCaution_store (v s) : (setCaution .configDefaults v s).store = s.store := by
  unfold setCaution cautionOn cautionOff
  repeat' split
  all_goals first | rfl | exact (judgeHorn_writes ..).store_eq

theorem defaultsShown_setConfigDefaults {s : State} (h : s.DefaultsShown) (v : Bool) : (setConfigDefaults v s).DefaultsShown := by
  unfold setConfigDefaults
  split
  case isTrue => exact h
  case isFalse =>
    unfold State.DefaultsShown
    rw [setCaution_store]
    cases v with
    | true => exact iff_of_true rfl (shows_cautionOn _)
    | false => exact iff_of_false (by simp) (not_shows_cautionOff _)

theorem startLoops_shows (a : Bool) (f : FieldInputs) (s : State) :
    ¬ (startLoops a f s).trip.ShowsDefaults ∧ (startLoops a f s).store.configDefaults = !a := by
  obtain ⟨h1, h2⟩ := (startLoops_writes a f s).shows
  rw [h1, h2]
  exact ⟨by simp [Trip.ShowsDefaults, powerOnBase], rfl⟩

/-- Power-on shows CONFIG_DEFAULTS just where the copy failed its check (R176). -/
theorem defaultsShown_powerOn {f : FieldInputs} {s t : State} (h : exec (.powerOn f) s = .next t) : t.DefaultsShown := by
  rw [exec_powerOn] at h
  cases h
  refine (withEvals_writes (takePowerOn f) s).defaultsShown ?_
  rw [takePowerOn, powerUp, startUp_eq]
  refine (startStrokes_writes _).defaultsShown ?_
  generalize (if s.powered then losePower s else s).store.copy.agrees = a
  obtain ⟨hshown, hheld⟩ := startLoops_shows a f (if s.powered then losePower s else s)
  split
  case isTrue ha => rw [ha] at hheld hshown ⊢; exact iff_of_false (by rw [hheld]; decide) hshown
  case isFalse ha =>
    have hstore : (cautionOn .configDefaults (startLoops a f (if s.powered then losePower s else s))).store
        = (startLoops a f (if s.powered then losePower s else s)).store := (cautionDefaults_writes _).store_eq
    refine iff_of_true ?_ (shows_cautionOn _)
    rw [hstore, hheld]
    simpa using ha

theorem defaultsShown_step : KeptByEveryStep State.DefaultsShown := by
  refine kept_by_every_exec (fun f s t => defaultsShown_powerOn) (keeps_write (Q := [.defaults]) (fun p hp s t h hs => ?_) ?_)
  · obtain rfl := List.mem_singleton.mp hp
    cases h with
    | defaults v => exact defaultsShown_setConfigDefaults hs v
  · have hinner : ∀ p ∈ innerParts [.defaults], (p.item ≠ .many ∨ p = .emptied) ∧ p ≠ .storeDefaults ∧ p ≠ .cautionDefaults := by decide
    intro p hp s t h hs
    obtain ⟨h1, h2⟩ := h.shows (hinner p hp).1 (hinner p hp).2
    unfold State.DefaultsShown
    rw [h2]; exact Iff.trans hs h1.symm

/-- Settles O30: record, header and timers are kept together, a shutdown and an adopted CLEAR taken whole; and CONFIG_DEFAULTS is written
with the store (R153, R156, R159, R178). -/
theorem tripRecordAndHeaderAgree : Obligations.TripRecordAndHeaderAgree := ⟨recordOk_step, defaultsShown_step⟩

/-! PROOF. The grants stay within the capacity (R110). -/


theorem State.GrantsOk.sum_zero {s : State} (h : ∀ c, (s.chan c).grant = 0) : s.grantSum = 0 := by
  rw [State.grantSum, sum_chans, h, h, h, h]

/-- Channels with no grant, none of them flowing or held. -/
theorem grantsOk_of_resting {s : State} (h : ∀ c, (s.chan c).state.resting ∧ (s.chan c).grant = 0) : s.GrantsOk :=
  ⟨by rw [State.GrantsOk.sum_zero fun c => (h c).2]; exact Nat.zero_le _, fun _ c => (h c).2,
    fun c => Channel.flowsByGrant_of_resting (h c).1 (h c).2⟩

/-- No grant raised, each channel flowing by its grant: the bounds stay, the header and the capacity as they were. -/
theorem State.GrantsOk.of_le {s t : State} (h : s.GrantsOk) (hh : t.header.state = s.header.state) (hc : t.config = s.config)
    (hg : ∀ c, (t.chan c).grant ≤ (s.chan c).grant) (hf : ∀ c, (t.chan c).FlowsByGrant) : t.GrantsOk := by
  obtain ⟨hsum, hzero, -⟩ := h
  refine ⟨?_, fun hn c => ?_, hf⟩
  · rw [hc]
    refine le_trans ?_ hsum
    rw [State.grantSum, State.grantSum, sum_chans, sum_chans]
    have := hg 0; have := hg 1; have := hg 2; have := hg 3
    omega
  · exact Nat.le_zero.mp ((hg c).trans_eq (hzero (hh ▸ hn) c))

theorem State.GrantsOk.setChan {s : State} (h : s.GrantsOk) {c : Chan} {k : Channel} (hk : (s.chan c).Moves k) : (s.setChan c k).GrantsOk := by
  refine h.of_le rfl rfl (fun d => ?_) fun d => ?_
  · rw [chan_setChan]
    split
    case isTrue hd => rw [← hd]; exact hk.grant
    case isFalse => exact le_rfl
  · rw [chan_setChan]
    split
    · exact hk.flows (h.2.2 c)
    · exact h.2.2 d

theorem Write.grantsOk {p : Part} {s t : State} (h : Write p s t) (hp : p ∈ .cautionDefaults :: innerParts [.shutdown, .clear])
    (hs : s.GrantsOk) : t.GrantsOk := by
  have hitem : ∀ p ∈ .cautionDefaults :: innerParts [.shutdown, .clear], p.item ≠ .many ∧ p ≠ .zero ∧ p ≠ .headTrip := by decide
  obtain ⟨hmany, hzero, hhead⟩ := hitem p hp
  by_cases hi : p.item = .channels ∨ p.item = .header ∨ p.item = .config
  case neg =>
    simp only [not_or] at hi
    have hc : t.channels = s.channels := h.only.same hi.1 hmany
    have hh : t.header = s.header := h.only.same hi.2.1 hmany
    have hk : t.config = s.config := h.only.same hi.2.2 hmany
    unfold State.GrantsOk State.grantSum State.chan
    rw [hc, hh, hk]; exact hs
  cases h with
  | chan c k s hk => exact hs.setChan hk.toMoves
  | stops c x s => exact hs.setChan (.of_same rfl rfl rfl rfl)
  | grants s => exact grantsOk_giveAll hs.2.2 fun _ => hs.1
  | opens c k s _ hk => exact hs.setChan hk
  | count c s => exact hs.setChan (.of_same rfl rfl rfl rfl)
  | inputs c k s hk => exact hs.setChan hk
  | rates c f s => exact hs.setChan (.of_same rfl rfl rfl rfl)
  | authorise c s => exact hs.setChan (.of_same rfl rfl rfl rfl)
  | unpauseB c k s hk => exact hs.setChan hk
  | unpauseS c k s hk => exact hs.setChan hk
  | lift c k s hk => exact hs.setChan hk
  | header x s hx => exact ⟨hs.1, hx.grants hs, hs.2.2⟩
  | hinputs a b s => exact hs
  | config x s hx =>
    refine ⟨?_, hs.2⟩
    rcases hx with hx | hx
    · exact hs.1.trans_eq hx.symm
    · exact (State.GrantsOk.sum_zero (hs.2.1 (by rw [hx]; decide))).trans_le (Nat.zero_le _)
  | _ => simp_all [Part.item]

theorem grantsOk_shutdown (k : ShutdownCause) (o : Origin) (s : State) : (shutdown k o s).GrantsOk := by
  refine grantsOk_of_resting fun c => ?_
  obtain ⟨hw, hg, -⟩ := shutAt_shutdown k o s c
  refine ⟨⟨fun h => ?_, fun h => ?_⟩, hg⟩
  all_goals simp [Channel.watched, h] at hw

/-- A CLEAR leaves the header IDLE and no grant standing, whatever flowed before it (R156). -/
theorem grantsOk_clearLifted {s : State} (h : s.GrantsOk) : (clearLifted s).GrantsOk := by
  have hclear : (clearRecord s).chan = s.chan := by
    funext c; rw [State.chan, clearRecord_eq]; rfl
  have hidle : (chans.foldl (fun x c => liftPauses c x) (clearRecord s)).header.state = .idle := by
    rw [(lifted_writes _).header_eq, clearRecord_header]
  have hflows (c : Chan) : ((chans.foldl (fun x c => liftPauses c x) (clearRecord s)).chan c).FlowsByGrant := by
    refine (lifted_writes (clearRecord s)).keeps (I := fun u => ∀ c, (u.chan c).FlowsByGrant) (fun p hp s t hw hs c => ?_)
      (by rw [hclear]; exact h.2.2) c
    rcases List.mem_cons.mp hp with rfl | hp
    · cases hw with
      | lift d k s hk =>
        rw [chan_setChan]
        split
        · exact hk.flows (hs d)
        · exact hs c
    · obtain rfl := List.mem_singleton.mp hp
      cases hw; exact hs c
  have hgiven := grantsOk_giveAll hflows fun hn => absurd (hidle.symm.trans hn) (by decide)
  have hrest := regrant_given false (chans.foldl (fun x c => liftPauses c x) (clearRecord s))
  refine hgiven.of_le (by rw [clearLifted, hrest.header_eq]) (by rw [clearLifted, hrest.config_eq]) (fun c => ?_) fun c => ?_
  all_goals rw [clearLifted, hrest.chan_eq]
  exact hgiven.2.2 c

/-- Settles O59: a regrant gives within the capacity, a shutdown and a CLEAR let every grant go, and no other write raises one (R110). -/
theorem grantsNeverExceedTheCapacity : Obligations.GrantsNeverExceedTheCapacity := by
  refine kept_by_every_step (fun a f s => grantsOk_of_resting fun c => by rw [chan_powerOnBase]; exact ⟨⟨by simp [Channel.blank], by simp [Channel.blank]⟩, rfl⟩)
    fun p hp s t h hs => ?_
  have hkeeps := keeps_write (I := State.GrantsOk) (Q := [.shutdown, .clear]) (fun p hp s t h hs => ?_)
    fun p hp s t h hs => h.grantsOk (List.mem_cons_of_mem _ hp) hs
  · rcases List.mem_cons.mp hp with rfl | hp
    · exact h.grantsOk (by simp) hs
    · exact hkeeps p hp s t h hs
  · simp only [List.mem_cons, List.not_mem_nil, or_false] at hp
    rcases hp with rfl | rfl
    · cases h with
      | shutdown k o => exact grantsOk_shutdown k o s
    · cases h with
      | clear => exact grantsOk_clearLifted hs

/-! PROOF. The plan's order, its current entries, its tanks and its delivered volumes (R1 to R5). -/


/-! ### The plan's invariants depend on the plan and the pulse totals alone -/

/-- A channel's pulse total. -/
def State.total (s : State) (c : Chan) : Nat := (s.chan c).meter.total

theorem planOk_congr {s t : State} (h : s.PlanOk) (hp : t.plan = s.plan) (ht : t.total = s.total) : t.PlanOk := by
  have he : t.entry = s.entry := by funext i; rw [State.entry, hp]; rfl
  have hc := currentId_congr he
  have htot (c : Chan) : (t.chan c).meter.total = (s.chan c).meter.total := congrFun ht c
  unfold State.PlanOk State.SlotsOk State.CurrentOk State.TanksShared State.DeliveredOk State.FreshOk at h ⊢
  simp only [hp, he, hc, htot]
  exact h

theorem Write.total_eq {p : Part} {s t : State} (h : Write p s t) (hm : p.item ≠ .many) (hc : p ≠ .count) : t.total = s.total := by
  have hset {d : Chan} {k : Channel} {u : State} (hk : k.meter.total = (u.chan d).meter.total) : (u.setChan d k).total = u.total := by
    funext c
    unfold State.total
    rw [chan_setChan]
    split
    case isTrue hd => rw [← hd, hk]
    case isFalse => rfl
  have hcounts {k l : Channel} (h : l.meter.counts = k.meter.counts) : l.meter.total = k.meter.total := congrArg Counts.total h
  by_cases hi : p.item = .channels
  case neg =>
    have hsame : t.channels = s.channels := h.only.same hi hm
    funext c; unfold State.total; rw [State.chan, State.chan, hsame]
  cases h with
  | chan c k s hk => exact hset (hcounts hk.counts)
  | stops c x s => exact hset rfl
  | grants s => funext c; unfold State.total; rw [chan_giveAll]; exact hcounts (Channel.granted_counts ..)
  | opens c k s _ _ hk => exact hset (hcounts hk.counts)
  | zero c s => exact hset rfl
  | inputs c k s _ _ hk => exact hset (hcounts hk)
  | rates c f s hf => exact hset (hf _).1
  | authorise c s => exact hset rfl
  | unpauseB c k s _ _ hk => exact hset (hcounts hk.counts)
  | unpauseS c k s _ _ hk => exact hset (hcounts hk.counts)
  | lift c k s _ _ hk => exact hset (hcounts hk.counts)
  | _ => simp_all [Part.item]

/-- A pulse total moves by a pulse only (R116). -/
theorem Writes.total_eq {P : List Part} {s t : State} (h : Writes P s t) (hP : ∀ p ∈ P, p.item ≠ .many ∧ p ≠ .count := by decide) :
    t.total = s.total :=
  h.frame State.total fun p hp _ _ hw => hw.total_eq (hP p hp).1 (hP p hp).2

/-! ### One entry replaced -/

/-- The entries are those of `s` with `f` in slot `i`. -/
def State.Replaces (s t : State) (i : EntryId) (f : Entry) : Prop := ∀ j, t.entry j = if i = j then some f else s.entry j

theorem State.replaces_setEntry (s : State) (i : EntryId) (f : Entry) : s.Replaces (s.setEntry i (some f)) i f := fun _ => entry_setEntry ..

theorem State.Replaces.slots {s t : State} {i : EntryId} {e f : Entry} (h : s.Replaces t i f) (he : s.entry i = some e)
    (hn : t.plan.nextId = s.plan.nextId) (hs : s.SlotsOk) : t.SlotsOk := by
  refine ⟨hn ▸ hs.1, fun j => ?_⟩
  rw [h, hn]
  split
  case isTrue hj => subst hj; rw [← hs.2 i, he]; simp
  case isFalse => exact hs.2 j

theorem State.Replaces.tanks {s t : State} {i : EntryId} {e f : Entry} (h : s.Replaces t i f) (he : s.entry i = some e)
    (hc : f.chan = e.chan) (ht : f.tank = e.tank) (hl : f.state.terminal = false → e.state.terminal = false) (hs : s.TanksShared) :
    t.TanksShared := by
  have hold {j : EntryId} {x : Entry} (hx : t.entry j = some x) : ∃ y, s.entry j = some y ∧ y.chan = x.chan ∧ y.tank = x.tank
      ∧ (x.state.terminal = false → y.state.terminal = false) := by
    rw [h] at hx
    split at hx
    case isTrue hj => subst hj; cases hx; exact ⟨e, he, hc.symm, ht.symm, hl⟩
    case isFalse => exact ⟨x, hx, rfl, rfl, id⟩
  intro j k x y hx hy hxl hyl hxy
  obtain ⟨x', hx', hxc, hxt, hxn⟩ := hold hx
  obtain ⟨y', hy', hyc, hyt, hyn⟩ := hold hy
  rw [← hxc, ← hyc]
  exact hs j k x' y' hx' hy' (hxn hxl) (hyn hyl) (by rw [hxt, hyt, hxy])

theorem State.Replaces.fresh {s t : State} {i : EntryId} {f : Entry} (h : s.Replaces t i f)
    (hf : f.baseline = none → f.delivered = 0) (hs : s.FreshOk) : t.FreshOk := by
  intro j x hx hb
  rw [h] at hx
  split at hx
  · cases hx; exact hf hb
  · exact hs j x hx hb

theorem State.Replaces.delivered {s t : State} {i : EntryId} {f : Entry} (h : s.Replaces t i f) (ht : t.total = s.total)
    (hf : ∀ b, f.baseline = some b → f.state.terminal = false → f.state ≠ .queued ∧ b.total ≤ s.total f.chan
      ∧ f.delivered = pulseVolume (s.total f.chan - b.total) b.kFactor) (hs : s.DeliveredOk) : t.DeliveredOk := by
  intro j x b hx hb hl
  have htot : (t.chan x.chan).meter.total = s.total x.chan := congrFun ht x.chan
  rw [htot]
  rw [h] at hx
  split at hx
  · cases hx; exact hf b hb hl
  · exact hs j x b hx hb hl

theorem State.Replaces.currentId {s t : State} {i : EntryId} {e f : Entry} (h : s.Replaces t i f) (he : s.entry i = some e)
    (hc : f.chan = e.chan) (hl : f.state.terminal = e.state.terminal) : t.currentId = s.currentId :=
  currentId_of_entry he h hc hl

/-- A figure written keeps the plan (R4). -/
theorem planOk_figures {s : State} {i : EntryId} {e f : Entry} (h : s.PlanOk) (he : s.entry i = some e)
    (hf : e.Step (s.chan e.chan).meter.total f) : (s.setEntry i (some f)).PlanOk := by
  obtain ⟨hslots, hcur, htanks, hdel, hfresh⟩ := h
  have hr := s.replaces_setEntry i f
  have hlf : f.state.terminal = e.state.terminal := by rw [hf.live, hf.terminal]
  have hcid := hr.currentId he hf.chan hlf
  refine ⟨hr.slots he rfl hslots, ?_, hr.tanks he hf.chan hf.tank (fun _ => hf.live) htanks, ?_, ?_⟩
  · intro j x hx hxl
    rw [hcid]
    rw [hr] at hx
    split at hx
    case isTrue hj =>
      subst hj; cases hx
      have hqueued : f.state = .queued ↔ e.state = .queued := by
        rcases hf.state with hs | ⟨h1, h2, -⟩
        · rw [hs]
        · simp [h1, h2]
      rw [hf.chan, ne_eq, hqueued]; exact hcur i e he hf.live
    case isFalse => exact hcur j x hx hxl
  · refine hr.delivered rfl (fun b hb hl => ?_) hdel
    rcases hf.baseline with hbe | ⟨hq, hn, k, hk⟩
    · obtain ⟨hne, hle, hd⟩ := hdel i e b he (hbe ▸ hb) hf.live
      rw [hf.chan, hf.delivered]
      refine ⟨?_, hle, hd⟩
      rcases hf.state with hs | ⟨-, h2, -⟩
      · rw [hs]; exact hne
      · exact h2
    · rw [hk] at hb; cases hb
      have hd : e.delivered = 0 := hfresh i e he hn
      rw [hf.chan, hf.delivered]
      refine ⟨?_, le_rfl, by simp [hd, State.total, pulseVolume]⟩
      rcases hf.state with hs | ⟨-, h2, -⟩
      · rw [hs]; exact hq
      · exact h2
  · refine hr.fresh (fun hb => ?_) hfresh
    rw [hf.delivered]
    rcases hf.baseline with hbe | ⟨-, hn, -⟩
    · exact hfresh i e he (hbe ▸ hb)
    · exact hfresh i e he hn

/-! ### An entry ended (R14) -/

/-- An entry made terminal is no longer live; the others are as they were. -/
theorem State.Replaces.liveAt {s t : State} {i : EntryId} {f : Entry} (h : s.Replaces t i f) (hf : f.state.terminal = true) (c : Chan)
    (j : EntryId) : t.LiveAt c j ↔ s.LiveAt c j ∧ i ≠ j := by
  unfold State.LiveAt
  rw [h]
  split
  case isTrue hj => simp [Entry.live, hf, hj]
  case isFalse hj => simp [hj]

/-- The current entries but that of a channel whose own has ended. -/
theorem State.Replaces.currentId_ended {s t : State} {i : EntryId} {f : Entry} (h : s.Replaces t i f) (hf : f.state.terminal = true)
    {c : Chan} (hc : s.currentId c ≠ some i) : t.currentId c = s.currentId c := by
  have hlive := h.liveAt hf c
  cases hs : s.currentId c with
  | none =>
    rw [currentId_eq_none_iff] at hs ⊢
    exact fun j hj => hs j ((hlive j).mp hj).1
  | some k =>
    rw [currentId_eq_some_iff] at hs ⊢
    have hik : i ≠ k := by
      rintro rfl
      exact hc (currentId_eq_some_iff.mpr hs)
    exact ⟨(hlive k).mpr ⟨hs.1, hik⟩, fun j hj hl => hs.2 j hj ((hlive j).mp hl).1⟩

/-- The plan with the entries of channel `c` all QUEUED: its current one has ended and none has taken its place (R14). -/
def State.PlanBut (c : Chan) (s : State) : Prop :=
  s.SlotsOk ∧ (∀ i e, s.entry i = some e → e.state.terminal = false →
      if e.chan = c then e.state = .queued else (e.state ≠ .queued ↔ s.currentId e.chan = some i))
    ∧ s.TanksShared ∧ s.DeliveredOk ∧ s.FreshOk

theorem terminalState_terminal (r : EndReason) (n : Nat) : (terminalState r n).terminal = true := by
  cases r <;> simp only [terminalState] <;> first | rfl | (split <;> rfl)

/-- The current entry ended leaves its channel's others QUEUED. -/
theorem planBut_finish {s : State} {c : Chan} {i : EntryId} {e : Entry} (h : s.PlanOk) (hc : s.current c = some (i, e)) (r : EndReason)
    (n : Nat) : (s.setEntry i (some (e.finish r n))).PlanBut c := by
  obtain ⟨hslots, hcur, htanks, hdel, hfresh⟩ := h
  obtain ⟨he, hch, hl⟩ := current_live hc
  have hid := (current_eq_some_iff.mp hc).1
  have hr := s.replaces_setEntry i (e.finish r n)
  have hterm : (e.finish r n).state.terminal = true := terminalState_terminal r e.delivered
  refine ⟨hr.slots he rfl hslots, ?_, hr.tanks he rfl rfl (fun _ => hl) htanks, ?_, ?_⟩
  · intro j x hx hxl
    rw [hr] at hx
    split at hx
    case isTrue => cases hx; rw [hterm] at hxl; cases hxl
    case isFalse hj =>
      have hiff := hcur j x hx hxl
      split
      case isTrue hxc =>
        by_contra hq
        have := hiff.mp hq
        rw [hxc, hid] at this
        exact hj (Option.some.inj this)
      case isFalse hxc =>
        rw [hr.currentId_ended hterm ?_]
        · exact hiff
        · intro hcid
          obtain ⟨⟨y, hy, hyl⟩, -⟩ := currentId_eq_some_iff.mp hcid
          rw [he] at hy; cases hy
          exact hxc ((Entry.live_iff ..).mp hyl |>.1.symm.trans hch)
  · exact hr.delivered rfl (fun b _ hl => by rw [hterm] at hl; cases hl) hdel
  · exact hr.fresh (fun hb => hfresh i e he hb) hfresh

theorem planBut_congr {c : Chan} {s t : State} (h : s.PlanBut c) (hp : t.plan = s.plan) (ht : t.total = s.total) : t.PlanBut c := by
  have he : t.entry = s.entry := by funext i; rw [State.entry, hp]; rfl
  have hc := currentId_congr he
  have htot (c : Chan) : (t.chan c).meter.total = (s.chan c).meter.total := congrFun ht c
  unfold State.PlanBut State.SlotsOk State.TanksShared State.DeliveredOk State.FreshOk at h ⊢
  simp only [hp, he, hc, htot]
  exact h

/-- The next entry takes the place of the ended one (R14 step 2). -/
theorem planOk_promote {c : Chan} {s : State} (h : s.PlanBut c) : (promote c s).1.PlanOk := by
  obtain ⟨hslots, hcur, htanks, hdel, hfresh⟩ := h
  unfold promote
  split
  case h_2 hn =>
    refine ⟨hslots, fun i e he hl => ?_, htanks, hdel, hfresh⟩
    have hiff := hcur i e he hl
    split at hiff
    case isTrue hec =>
      have hnone := currentId_eq_none_iff.mp (current_isNone_iff.mp (by rw [hn]; rfl)) i
      exact absurd ⟨e, he, (Entry.live_iff ..).mpr ⟨hec, hl⟩⟩ hnone
    case isFalse => exact hiff
  case h_1 j e hc =>
    obtain ⟨he, hch, hl⟩ := current_live hc
    have hid := (current_eq_some_iff.mp hc).1
    have hq : e.state = .queued := by
      have := hcur j e he hl
      rwa [if_pos hch] at this
    rw [if_pos hq]
    simp only [State.modEntry, he, Option.map_some]
    have hr := s.replaces_setEntry j { e with state := .await, lineup := .notReady }
    have hcid := hr.currentId he rfl (by rw [hq]; rfl)
    refine ⟨hr.slots he rfl hslots, ?_, hr.tanks he rfl rfl (fun _ => hl) htanks, ?_, hr.fresh (fun hb => hfresh j e he hb) hfresh⟩
    · intro k x hx hxl
      rw [hcid]
      rw [hr] at hx
      split at hx
      case isTrue hk =>
        subst hk; cases hx
        simp only [hch, hid]
        simp
      case isFalse hk =>
        have hiff := hcur k x hx hxl
        split at hiff
        case isTrue hxc =>
          rw [hiff, hxc, hid]
          simp [hk]
        case isFalse => exact hiff
    · refine hr.delivered rfl (fun b hb _ => ?_) hdel
      exact absurd hq (hdel j e b he hb hl).1

/-- An end applied keeps the plan (R14). -/
theorem planOk_settleEnd {s : State} (h : s.PlanOk) (c : Chan) : (settleEnd c s).PlanOk := by
  unfold settleEnd
  split
  case h_2 => exact h
  case h_1 i e hc =>
    split
    case isFalse => exact h
    case isTrue hp =>
      simp only [Bool.and_eq_true, Option.isSome_iff_exists] at hp
      obtain ⟨⟨⟨r, hr⟩, -⟩, -⟩ := hp
      obtain ⟨he, -, -⟩ := current_live hc
      have hfin : (s.modEntry i fun e => e.finish r s.now).PlanBut c := by
        rw [State.modEntry, he]; exact planBut_finish h hc r s.now
      have hleft : (if e.state = .active then leaveActive c e.tank (s.modEntry i fun e => e.finish r s.now)
          else s.modEntry i fun e => e.finish r s.now).PlanBut c := by
        split
        · have hleave := leaveActive_writes c e.tank (s.modEntry i fun e => e.finish r s.now)
          exact planBut_congr hfin hleave.plan_eq hleave.total_eq
        · exact hfin
      rw [applyEnd_eq he hr]
      generalize (if e.state = .active then leaveActive c e.tank (s.modEntry i fun e => e.finish r s.now)
          else s.modEntry i fun e => e.finish r s.now) = u at hleft
      have hafter : Writes [.chans, .header, .grants, .evals, .ended, .notices] (promote c u).1 (afterFinish c i r e.delivered u) :=
        afterPromote_writes ..
      exact planOk_congr (planOk_promote hleft) hafter.plan_eq hafter.total_eq

/-! ### The other writes of the plan -/

theorem planOk_cancel {s : State} {i : EntryId} {e : Entry} (h : s.PlanOk) (he : s.entry i = some e) (hq : e.state = .queued) :
    (s.setEntry i (some (e.finish .cancel s.now))).PlanOk := by
  obtain ⟨hslots, hcur, htanks, hdel, hfresh⟩ := h
  have hr := s.replaces_setEntry i (e.finish .cancel s.now)
  have hterm : (e.finish .cancel s.now).state.terminal = true := terminalState_terminal .cancel e.delivered
  have hl : e.state.terminal = false := by rw [hq]; rfl
  have hnot (c : Chan) : s.currentId c ≠ some i := by
    intro hc
    obtain ⟨⟨y, hy, hyl⟩, -⟩ := currentId_eq_some_iff.mp hc
    rw [he] at hy; cases hy
    exact (hcur i e he hl).mpr (((Entry.live_iff ..).mp hyl).1 ▸ hc) hq
  refine ⟨hr.slots he rfl hslots, ?_, hr.tanks he rfl rfl (fun _ => hl) htanks,
    hr.delivered rfl (fun b _ hl => by rw [hterm] at hl; cases hl) hdel, hr.fresh (fun hb => hfresh i e he hb) hfresh⟩
  intro j x hx hxl
  rw [hr.currentId_ended hterm (hnot _)]
  rw [hr] at hx
  split at hx
  case isTrue => cases hx; rw [hterm] at hxl; cases hxl
  case isFalse => exact hcur j x hx hxl

theorem planReject_cases {s : State} {c : Chan} {t : TankNo} (h : s.planReject c t = none) : s.plan.nextId < 16
    ∧ ∀ i e, s.entry i = some e → e.tank = t → e.state.terminal = false → e.chan = c := by
  unfold State.planReject at h
  simp only at h
  split at h
  case isTrue => cases h
  case isFalse hfull =>
    split at h
    case isTrue => cases h
    case isFalse htaken =>
      refine ⟨Nat.lt_of_not_le hfull, fun i e he ht hl => ?_⟩
      by_contra hc
      refine htaken (List.any_eq_true.mpr ⟨i, mem_entryIds i, ?_⟩)
      simp [he, ht, hl, hc]

/-- An entry adopted keeps the plan (R6). -/
theorem planOk_fresh {s : State} {c : Chan} {t : TankNo} {m : Mode} {a r : Nat} {i : EntryId} (h : s.PlanOk)
    (hrej : s.planReject c t = none) (hn : s.plan.nextId = i.val) :
    State.PlanOk { s with plan := s.plan.add i (Entry.fresh c t m a r (if (s.current c).isNone then .await else .queued)) } := by
  obtain ⟨hslots, hcur, htanks, hdel, hfresh⟩ := h
  obtain ⟨hroom, hshared⟩ := planReject_cases hrej
  generalize hf : Entry.fresh c t m a r (if (s.current c).isNone then .await else .queued) = f
  generalize hu : ({ s with plan := s.plan.add i f } : State) = u
  have hr : s.Replaces u i f := by
    rw [← hu]; exact s.replaces_setEntry i f
  have hnext : u.plan.nextId = s.plan.nextId + 1 := by rw [← hu]; rfl
  have htot : u.total = s.total := by rw [← hu]; rfl
  have hempty : s.entry i = none := by
    have := (hslots.2 i).not
    rw [hn] at this
    simpa using this.mpr (Nat.lt_irrefl _)
  have hbelow {j : EntryId} {x : Entry} (hx : s.entry j = some x) : j < i := by
    have := (hslots.2 j).mp (by rw [hx]; rfl)
    rw [hn] at this; exact this
  have hfc : f.chan = c := by rw [← hf]; rfl
  have hft : f.tank = t := by rw [← hf]; rfl
  have hfb : f.baseline = none := by rw [← hf]; rfl
  have hfs : f.state = if (s.current c).isNone then .await else .queued := by rw [← hf]; rfl
  have hfl : f.state.terminal = false := by rw [hfs]; split <;> rfl
  have hlive (d : Chan) (j : EntryId) : u.LiveAt d j ↔ s.LiveAt d j ∨ (i = j ∧ d = c) := by
    unfold State.LiveAt
    rw [hr]
    split
    case isTrue hj =>
      subst hj
      simp only [hempty, reduceCtorEq, false_and, exists_false, false_or, true_and, Option.some.injEq, exists_eq_left',
        Entry.live_iff, hfc, hfl, and_true]
      exact eq_comm
    case isFalse hj => simp [hj]
  have hkept (d : Chan) (k : EntryId) (hk : s.currentId d = some k) : u.currentId d = some k := by
    obtain ⟨hkl, hlt⟩ := currentId_eq_some_iff.mp hk
    obtain ⟨x, hx, hxl⟩ := hkl
    have hkl : s.LiveAt d k := ⟨x, hx, hxl⟩
    refine currentId_eq_some_iff.mpr ⟨(hlive d k).mpr (.inl hkl), fun j hj hl => ?_⟩
    rcases (hlive d j).mp hl with hl | ⟨rfl, -⟩
    · exact hlt j hj hl
    · exact absurd (hj.trans (hbelow hx)) (lt_irrefl _)
  have hnone (d : Chan) (hd : s.currentId d = none) : u.currentId d = if d = c then some i else none := by
    have hno := currentId_eq_none_iff.mp hd
    split
    case isTrue hdc =>
      refine currentId_eq_some_iff.mpr ⟨(hlive d i).mpr (.inr ⟨rfl, hdc⟩), fun j hj hl => ?_⟩
      rcases (hlive d j).mp hl with hl | ⟨rfl, -⟩
      · exact hno j hl
      · exact absurd hj (lt_irrefl _)
    case isFalse hdc =>
      refine currentId_eq_none_iff.mpr fun j hl => ?_
      rcases (hlive d j).mp hl with hl | ⟨-, h⟩
      · exact hno j hl
      · exact hdc h
  refine ⟨⟨by omega, fun j => ?_⟩, fun j x hx hxl => ?_, fun j k x y hx hy hxl hyl hxy => ?_, ?_, ?_⟩
  · rw [hr, hnext, hn]
    split
    case isTrue hj => subst hj; simp
    case isFalse hj =>
      rw [hslots.2 j, hn]
      have : j.val ≠ i.val := fun h => hj (Fin.ext h.symm)
      omega
  · rw [hr] at hx
    split at hx
    case isTrue hj =>
      subst hj; cases hx
      rw [hfs, hfc]
      cases hcc : s.currentId c with
      | none =>
        rw [hnone c hcc, if_pos rfl, if_pos (current_isNone_iff.mpr hcc)]; simp
      | some k =>
        obtain ⟨⟨x, hx, -⟩, -⟩ := currentId_eq_some_iff.mp hcc
        rw [hkept c k hcc, if_neg (by rw [current_isNone_iff, hcc]; simp)]
        simp [(hbelow hx).ne]
    case isFalse hj =>
      have hiff := hcur j x hx hxl
      have hxlive : s.LiveAt x.chan j := ⟨x, hx, (Entry.live_iff ..).mpr ⟨rfl, hxl⟩⟩
      cases hcc : s.currentId x.chan with
      | none => exact absurd hxlive (currentId_eq_none_iff.mp hcc j)
      | some k => rw [hkept _ k hcc, ← hcc]; exact hiff
  · have hold {j : EntryId} {x : Entry} (hx : u.entry j = some x) (hxl : x.state.terminal = false) (hxt : x.tank = t) : x.chan = c := by
      rw [hr] at hx
      split at hx
      · cases hx; exact hfc
      · exact hshared j x hx hxt hxl
    have hx' := hx
    have hy' := hy
    rw [hr] at hx' hy'
    split at hx'
    · cases hx'
      rw [hfc, hold hy hyl (hxy ▸ hft)]
    · split at hy'
      · cases hy'
        rw [hfc, hold hx hxl (hxy.trans hft)]
      · exact htanks j k x y hx' hy' hxl hyl hxy
  · exact hr.delivered htot (fun b hb _ => by rw [hfb] at hb; cases hb) hdel
  · exact hr.fresh (fun _ => by rw [← hf]; rfl) hfresh

theorem planOk_blank {s : State} (h : s.plan = Plan.blank) : s.PlanOk := by
  have hnone (i : EntryId) : s.entry i = none := by
    simp [State.entry, h, Plan.blank, Vector.get_eq_getElem]
  refine ⟨⟨?_, fun i => ?_⟩, fun i e he => ?_, fun i j e f he => ?_, fun i e b he => ?_, fun i e he => ?_⟩
  · rw [h]; exact Nat.zero_le _
  · rw [hnone, h]; simp [Plan.blank]
  all_goals rw [hnone] at he; cases he

/-! ### A pulse counted (R116) -/

theorem total_countPulse (c : Chan) (s : State) (d : Chan) : (countPulse c s).total d = if c = d then s.total c + 1 else s.total d := by
  have hfull : (if ((s.modMeter c Meter.count).chan c).meter.saturated then cautionOn (.meterFull c) (s.modMeter c Meter.count)
      else s.modMeter c Meter.count).total = (s.modMeter c Meter.count).total :=
    (Writes.ite (cautionOn_writes (by simp) _) (.refl _)).total_eq
  have hstall (u : State) (x : Option Nat) : (u.modMeter c fun m => { m with stallTimer := x }).total = u.total :=
    (modChan_writes (.of_same rfl rfl rfl rfl rfl rfl rfl rfl)).total_eq
  have hflow (u : State) (x : Option Nat) : (if (u.chan c).state = .flowing then u.modMeter c fun m => { m with stallTimer := x }
      else u).total = u.total := by
    split
    · exact hstall u x
    · rfl
  have hcount : (countPulse c s).total = (s.modMeter c Meter.count).total := (hflow _ _).trans hfull
  rw [hcount, State.total, chan_modMeter]
  split
  · rfl
  · rfl

/-- A pulse counted, with the current entry's delivered volume worked again, keeps the plan (R4, R116). -/
theorem planOk_countAndRecount {s : State} {c : Chan} (h : s.PlanOk) (hs : (s.chan c).meter.saturated = false) :
    (countAndRecount c s).PlanOk := by
  obtain ⟨hslots, hcur, htanks, hdel, hfresh⟩ := h
  have hcount := countPulse_writes hs
  have hplan : (countPulse c s).plan = s.plan := hcount.plan_eq
  have hentry : (countPulse c s).entry = s.entry := hcount.entry_eq
  have hcid := currentId_congr hentry
  have hcurrent := current_congr hentry
  have htotal := total_countPulse c s
  generalize hu : countPulse c s = u at hplan hentry hcid hcurrent htotal
  have hslots' : u.SlotsOk := by unfold State.SlotsOk; rw [hplan, hentry]; exact hslots
  have hcur' : u.CurrentOk := by unfold State.CurrentOk; rw [hentry, hcid]; exact hcur
  have htanks' : u.TanksShared := by unfold State.TanksShared; rw [hentry]; exact htanks
  have hfresh' : u.FreshOk := by unfold State.FreshOk; rw [hentry]; exact hfresh
  have hother {j : EntryId} {x : Entry} {b : Baseline} (hx : s.entry j = some x) (hb : x.baseline = some b)
      (hl : x.state.terminal = false) (hxc : x.chan = c) : s.current c = some (j, x) := by
    have hq := (hdel j x b hx hb hl).1
    exact current_eq_some_iff.mpr ⟨hxc ▸ (hcur j x hx hl).mp hq, hx⟩
  have hdone (hn : ∀ i e, s.current c = some (i, e) → e.baseline = none) : u.DeliveredOk := by
    intro j x b hx hb hl
    rw [hentry] at hx
    have hxc : c ≠ x.chan := by
      rintro rfl
      rw [hn j x (hother hx hb hl rfl)] at hb; cases hb
    have htot : (u.chan x.chan).meter.total = (s.chan x.chan).meter.total := by
      have := htotal x.chan; rwa [if_neg hxc] at this
    rw [htot]; exact hdel j x b hx hb hl
  unfold countAndRecount
  simp only [hu]
  split
  case h_2 hn => exact ⟨hslots', hcur', htanks', hdone (fun i e hc => by rw [← hcurrent, hn] at hc; cases hc), hfresh'⟩
  case h_1 i e hc =>
    rw [hcurrent] at hc
    split
    case isFalse hb =>
      refine ⟨hslots', hcur', htanks', hdone (fun j x hx => ?_), hfresh'⟩
      rw [hc] at hx; cases hx
      simpa using hb
    case isTrue hb =>
      obtain ⟨he, hch, hl⟩ := current_live hc
      obtain ⟨b, hb⟩ := Option.isSome_iff_exists.mp hb
      obtain ⟨hq, hle, -⟩ := hdel i e b he hb hl
      have hut : (u.chan c).meter.total = (s.chan c).meter.total + 1 := by
        have := htotal c; rwa [if_pos rfl] at this
      have hrec : e.recount (u.chan c).meter.total
          = { e with delivered := pulseVolume ((u.chan c).meter.total - b.total) b.kFactor } := by
        simp only [Entry.recount, hb]
      simp only [State.modEntry, hentry, he, Option.map_some, hrec]
      have hr := u.replaces_setEntry i { e with delivered := pulseVolume ((u.chan c).meter.total - b.total) b.kFactor }
      have he' : u.entry i = some e := by rw [hentry]; exact he
      refine ⟨hr.slots he' rfl hslots', ?_, hr.tanks he' rfl rfl (fun _ => hl) htanks', ?_, ?_⟩
      · intro j x hx hxl
        rw [hr.currentId he' rfl rfl]
        rw [hr] at hx
        split at hx
        case isTrue hj => subst hj; cases hx; exact hcur' i e he' hl
        case isFalse => exact hcur' j x hx hxl
      · intro j x b' hx hb' hxl
        rw [hr] at hx
        split at hx
        case isTrue hj =>
          cases hx
          simp only at hb' ⊢
          rw [hb] at hb'; cases hb'
          rw [hch] at hle ⊢
          refine ⟨hq, ?_, rfl⟩
          show b.total ≤ (u.chan c).meter.total
          omega
        case isFalse hj =>
          rw [hentry] at hx
          have hxc : c ≠ x.chan := by
            rintro rfl
            have := hother hx hb' hxl rfl
            rw [hc] at this; cases this
            exact hj rfl
          have htot : (u.chan x.chan).meter.total = (s.chan x.chan).meter.total := by
            have := htotal x.chan; rwa [if_neg hxc] at this
          show x.state ≠ .queued ∧ b'.total ≤ (u.chan x.chan).meter.total ∧ _
          rw [chan_setEntry, htot]
          exact hdel j x b' hx hb' hxl
      · refine hr.fresh (fun hn => ?_) hfresh'
        simp only at hn; rw [hb] at hn; cases hn

/-! ### Every write -/

theorem planOk_late {s : State} (h : s.PlanOk) (i : EntryId) : (s.modEntry i Entry.reworkMargin).PlanOk := by
  cases he : s.entry i with
  | none =>
    have hself : s.modEntry i Entry.reworkMargin = s := by rw [State.modEntry, he, Option.map_none, ← he, setEntry_self]
    rw [hself]; exact h
  | some e =>
    obtain ⟨hslots, hcur, htanks, hdel, hfresh⟩ := h
    have hf : ∃ x, e.reworkMargin = { e with margin := x } := by
      unfold Entry.reworkMargin; split <;> exact ⟨_, rfl⟩
    obtain ⟨x, hx⟩ := hf
    simp only [State.modEntry, he, Option.map_some, hx]
    have hr := s.replaces_setEntry i { e with margin := x }
    refine ⟨hr.slots he rfl hslots, fun j y hy hyl => ?_, hr.tanks he rfl rfl id htanks,
      hr.delivered rfl (fun b hb hl => hdel i e b he hb hl) hdel, hr.fresh (fun hb => hfresh i e he hb) hfresh⟩
    rw [hr.currentId he rfl rfl]
    rw [hr] at hy
    split at hy
    case isTrue hj => subst hj; cases hy; exact hcur i e he hyl
    case isFalse => exact hcur j y hy hyl

/-- The plan's writes that keep it one by one. -/
theorem Write.planOk {p : Part} {s t : State} (h : Write p s t) (hm : p.item ≠ .many ∨ p = .emptied)
    (hp : p ≠ .finish ∧ p ≠ .promote ∧ p ≠ .count ∧ p ≠ .recount) (hs : s.PlanOk) : t.PlanOk := by
  by_cases hi : p.item = .plan ∨ p = .emptied
  case neg =>
    rw [not_or] at hi
    have hm := hm.resolve_right hi.2
    have hplan : t.plan = s.plan := h.only.same (j := .plan) hi.1 hm
    exact planOk_congr hs hplan (h.total_eq hm hp.2.2.1)
  cases h with
  | entry i e f s he hf => exact planOk_figures hs he hf
  | late i s => exact planOk_late hs i
  | blank s => exact planOk_blank rfl
  | fresh c t m a r i s hrej hn => exact planOk_fresh hs hrej hn
  | cancel i e s he hq => exact planOk_cancel hs he hq
  | emptied s => rw [clearRecord_eq]; exact planOk_congr hs rfl rfl
  | _ => simp_all [Part.item]

/-- Settles O33: an end with the entry that takes its place, and a pulse with the volume worked again, are taken whole; every other write
of the plan keeps it by itself (R1 to R6, R14, R116). -/
theorem planKeepsItsOrderAndItsVolumes : Obligations.PlanKeepsItsOrderAndItsVolumes := by
  have hending {s t : State} (h : Write .ending s t) (hs : s.PlanOk) : t.PlanOk := by
    cases h with
    | ending c => exact planOk_settleEnd hs c
  have hamend : ∀ p ∈ amendParts, p = .ending ∨ p.item ≠ .many ∧ p ≠ .finish ∧ p ≠ .promote ∧ p ≠ .count ∧ p ≠ .recount := by decide
  have hrest : ∀ p ∈ .cautionDefaults :: innerParts [.ending, .pulse, .amend], (p.item ≠ .many ∨ p = .emptied)
      ∧ p ≠ .finish ∧ p ≠ .promote ∧ p ≠ .count ∧ p ≠ .recount := by decide
  refine kept_by_every_step (fun a f s => planOk_blank rfl) fun p hp s t h hs => ?_
  have hkeeps := keeps_write (I := State.PlanOk) (Q := [.ending, .pulse, .amend]) (fun p hp s t h hs => ?_)
    fun p hp s t h hs => h.planOk (hrest p (List.mem_cons_of_mem _ hp)).1 (hrest p (List.mem_cons_of_mem _ hp)).2 hs
  · rcases List.mem_cons.mp hp with rfl | hp
    · exact h.planOk (.inl (by decide)) (by decide) hs
    · exact hkeeps p hp s t h hs
  · simp only [List.mem_cons, List.not_mem_nil, or_false] at hp
    rcases hp with rfl | rfl | rfl
    · exact hending h hs
    · cases h with
      | pulse c _ hc => exact planOk_countAndRecount hs hc
    · cases h with
      | amend i a r _ hr =>
        refine (adoptAmend_innerWrites hr).keeps (fun p hp u v hw hu => ?_) hs
        rcases hamend p hp with rfl | ⟨hm, hp⟩
        · exact hending hw hu
        · exact hw.planOk (.inl hm) hp hu

/-! The machine itself and the commands of one rule: steps and idle steps, timers before their time, notices, lapses, the loops. -/


/-- Settles O1: the step's own equation. -/
theorem stepTakesTheFrontCommand : Obligations.StepTakesTheFrontCommand := by
  intro i rest s h
  rw [step, h]

/-- A timer's expiry, and a refresh, before their time. -/
theorem commandEffect_early {i : Instr} {c : Chan} {u : TankNo} {p : Side} {s : State}
    (h : (i = .strokeTimerExpiry c ∧ s.due (s.chan c).strokeTimer = false)
      ∨ (i = .stallTimerExpiry c ∧ s.due (s.chan c).meter.stallTimer = false)
      ∨ (i = .rateWindowRefresh c ∧ ¬ (s.chan c).meter.nextRefresh ≤ s.now)
      ∨ (i = .pressureTimerExpiry c ∧ s.due (s.chan c).pressureTimer = false)
      ∨ (i = .strainDwellTimerExpiry c ∧ s.due (s.chan c).strainTimer = false)
      ∨ (i = .sourceLowTimerExpiry c ∧ s.due (s.chan c).sourceLowTimer = false)
      ∨ (i = .staleTimerExpiry u ∧ s.due (s.tank u).staleTimer = false)
      ∨ (i = .blindTimerExpiry u ∧ s.due (s.tank u).blindTimer = false)
      ∨ (i = .waitTimerExpiry ∧ s.due s.header.waitTimer = false)
      ∨ (i = .primeTimerExpiry ∧ s.due s.header.primeTimer = false)
      ∨ (i = .silenceTimerExpiry p ∧ s.due (s.port p).silenceTimer = false)) :
    ofSupply i = false ∧ commandEffect i s = s := by
  rcases h with ⟨rfl, h⟩ | ⟨rfl, h⟩ | ⟨rfl, h⟩ | ⟨rfl, h⟩ | ⟨rfl, h⟩ | ⟨rfl, h⟩ | ⟨rfl, h⟩ | ⟨rfl, h⟩ | ⟨rfl, h⟩ | ⟨rfl, h⟩ | ⟨rfl, h⟩
  · exact ⟨rfl, by simp [commandEffect, takeStroke, h]⟩
  · exact ⟨rfl, by simp [commandEffect, takeStall, h]⟩
  · exact ⟨rfl, by simp only [commandEffect, takeRefresh, if_neg h]⟩
  · exact ⟨rfl, by simp [commandEffect, takeOverpressure, h]⟩
  · exact ⟨rfl, by simp [commandEffect, takeStrainDwell, h]⟩
  · exact ⟨rfl, by simp [commandEffect, takeSourceEmpty, h]⟩
  · exact ⟨rfl, by simp [commandEffect, takeStale, h]⟩
  · exact ⟨rfl, by simp [commandEffect, takeBlind, h]⟩
  · exact ⟨rfl, by simp [commandEffect, takeWait, h]⟩
  · exact ⟨rfl, by simp [commandEffect, takePrime, h]⟩
  · exact ⟨rfl, by simp [commandEffect, takeSilence, h]⟩

/-- Settles O2: a timer that is not due is not taken (logs 1, 2 and 4). -/
theorem idleStepsAndEarlyExpiries : Obligations.IdleStepsAndEarlyExpiries := by
  refine ⟨fun s hp => ⟨fun hon hlt => ?_, fun hoff => ?_⟩, fun i c u p s hs h => ?_⟩
  · simp [step, hp, tick, hon, stampAdd_small hlt]
  · simp [step, hp, tick, hoff]
  · obtain ⟨hi, he⟩ := commandEffect_early (i := i) (c := c) (u := u) (p := p) (s := s)
      (h.imp (And.imp_right not_due) <| .imp (And.imp_right not_due) <| .imp (And.imp_right Nat.not_le.mpr) <|
        .imp (And.imp_right not_due) <| .imp (And.imp_right not_due) <| .imp (And.imp_right not_due) <|
        .imp (And.imp_right not_due) <| .imp (And.imp_right not_due) <| .imp (And.imp_right not_due) <|
        .imp (And.imp_right not_due) (And.imp_right not_due))
    exact exec_nothing hs hi he

/-- Settles O13: the offer of R172, port by port. -/
theorem noticesAreOfferedToBothPorts : Obligations.NoticesAreOfferedToBothPorts := by
  intro n p s
  have hport : (raise n s).port p = (s.port p).offer n := by cases p <;> rfl
  exact ⟨fun h => by rw [hport, offer_silent n h], fun h hn => by rw [hport, offer_room n h hn],
    fun h hn => by rw [hport, offer_full n h hn], rfl⟩

/-- Settles O25: the lapse's own rule (R133). -/
theorem lapsedProposalOnlyLeavesTheQueue : Obligations.LapsedProposalOnlyLeavesTheQueue := by
  refine fun id s hs => ⟨fun q hq hl => ?_, fun hl => exec_nothing hs rfl ?_⟩
  · have htake : takeLapse id s = noteProposal .lapsed q { s with queue := s.queue.without id } := by
      simp only [takeLapse, hq, due_of_le rfl hl, if_true]
    exact exec_quiet hs.1 rfl htake hs.2
  · cases hq : s.queue.find id with
    | none => simp only [commandEffect, takeLapse, hq]
    | some q =>
      have hnot : s.due (some q.lapseAt) = false := not_due fun x hx => by cases hx; exact hl q hq
      simp [commandEffect, takeLapse, hq, hnot]

/-! Power-on and the loss of supply (R176, R178, R179): at power-on both ports are SILENT, nothing is under way and the header is TRIPPED,
so the causes taken change the trip record alone. -/


/-! ### A part with nothing under way, tripped, its ports silent -/

/-- The part between the steps of R179: every channel shut and without a grant or authorisation, no plan, no proposals, the header TRIPPED,
the horn at TRIP, no port to tell. -/
structure State.AtStart (s : State) : Prop where
  silentB : s.portB.link = .silent
  silentS : s.portS.link = .silent
  tripped : s.trip.state ≠ .normal
  horn : s.trip.horn = .trip
  mute : s.trip.mute = none
  header : s.header.state = .tripped ∧ s.header.returnState = none ∧ s.header.primeTimer = none ∧ s.header.waitTimer = none
  chans : ∀ c, (s.chan c).state = .masked ∧ (s.chan c).grant = 0 ∧ (s.chan c).authorised = false
  plan : s.plan = Plan.blank
  queue : s.queue.proposals = []

theorem raise_silent {s : State} (hb : s.portB.link = .silent) (hs : s.portS.link = .silent) (n : Notice) : raise n s = s := by
  unfold raise
  rw [offer_silent n hb, offer_silent n hs]

variable {s : State}

theorem State.AtStart.raise (h : s.AtStart) (n : Notice) : raise n s = s := raise_silent h.silentB h.silentS n

/-- What the trip record holds but its state, horn and mute is no part of it. -/
theorem State.AtStart.withTrip (h : s.AtStart) {x : Trip} (hx : x.state ≠ .normal) (hh : x.horn = s.trip.horn)
    (hm : x.mute = s.trip.mute) : State.AtStart { s with trip := x } :=
  { h with tripped := hx, horn := hh.trans h.horn, mute := hm.trans h.mute }

theorem State.AtStart.noEntry (h : s.AtStart) (i : EntryId) : s.entry i = none := by
  simp [State.entry, h.plan, Plan.blank, Vector.get_eq_getElem]

theorem State.AtStart.noCurrent (h : s.AtStart) (c : Chan) : s.current c = none := by
  have hid : s.currentId c = none := currentId_eq_none_iff.mpr fun i ⟨e, he, _⟩ => by rw [h.noEntry] at he; cases he
  exact Option.isNone_iff_eq_none.mp (current_isNone_iff.mpr hid)

theorem State.AtStart.judgeHorn (h : s.AtStart) (a : Option HornClass) : judgeHorn a s = s := by
  have hc : s.hornClass = .trip := hornClass_of_tripped h.tripped
  have hm : muteAfterClass (muteAfterCause none a) .trip = none := by cases a <;> rfl
  simp only [Machine.judgeHorn, hc, h.horn, h.mute, hm, and_self, if_true]

theorem State.AtStart.granted (h : s.AtStart) (c : Chan) (g n : Nat) : (s.chan c).granted g n = s.chan c := by
  obtain ⟨hs, hg, -⟩ := h.chans c
  exact Channel.granted_resting (by rw [hs]; exact ⟨nofun, nofun⟩) hg g n

theorem State.AtStart.regrant (h : s.AtStart) : regrant false s = s := by
  have hn (c : Chan) : s.newGrant c = 0 := newGrant_of_not_serving (by rw [h.header.1]; nofun) c
  exact regrant_still false (fun c => by rw [hn, (h.chans c).2.1]) fun c => h.granted c _ _

theorem foldl_self {α β : Type} {f : β → α → β} {b : β} (h : ∀ a, f b a = b) (xs : List α) : xs.foldl f b = b := by
  induction xs with
  | nil => rfl
  | cons a xs ih => rw [List.foldl_cons, h, ih]

theorem State.AtStart.tripHeader (h : s.AtStart) : tripHeader s = s := by
  have hany : s.anyGrant = false := by
    simp only [State.anyGrant, List.any_eq_false, decide_eq_true_eq]
    exact fun c _ => Nat.not_lt.mpr (h.chans c).2.1.le
  have hzero (c : Chan) : (s.modChan c fun k => { k with grant := 0 }) = s := modChan_self (by rw [← (h.chans c).2.1])
  have hrest (k : Header) (hk : k.state = .tripped ∧ k.returnState = none ∧ k.primeTimer = none ∧ k.waitTimer = none) :
      { k with state := .tripped, returnState := none, primeTimer := none, waitTimer := none } = k := by
    obtain ⟨⟩ := k; simp_all
  have hsame : s.modHeader (fun k => { k with state := .tripped, returnState := none, primeTimer := none, waitTimer := none }) = s := by
    rw [State.modHeader, hrest _ h.header]
  have hchange : changeHeader (fun k => { k with state := .tripped, returnState := none, primeTimer := none, waitTimer := none }) s = s := by
    unfold changeHeader; simp only [hsame, if_true]
  have hfold : Machine.chans.foldl (fun x c => x.modChan c fun k => { k with grant := 0 }) s = s :=
    foldl_self (f := fun (x : State) c => x.modChan c fun k => { k with grant := 0 }) hzero _
  unfold Machine.tripHeader
  simp only [hany, hfold, hchange, Bool.false_eq_true, if_false]

theorem State.AtStart.shutChannel (h : s.AtStart) (c : Chan) : shutChannel c s = s := by
  obtain ⟨hs, -, ha⟩ := h.chans c
  have hv : closeValve c s = s := by unfold closeValve; rw [hs]
  have hn : s.activeEntry c = none := by rw [State.activeEntry, h.noCurrent]
  rw [Machine.shutChannel, hv, setAuth, if_pos ha, returnToAwait_none hn]

theorem State.AtStart.withdraw (h : s.AtStart) (p : Proposal → Bool) (k : WithdrawCause) : withdrawWhere p k s = s := by
  unfold withdrawWhere
  simp only [h.queue, List.filter_nil, List.foldl_nil]
  rw [← h.queue]

/-- A cause's effects find everything done: only TRIPPING may become TRIPPED (R152, R148). -/
theorem State.AtStart.shutdownEffects (h : s.AtStart) (e : CauseEntry) (f : CauseFate) :
    shutdownEffects e f false s = judgeSettled s := by
  have hfold : Machine.chans.foldl (fun x c => Machine.shutChannel c x) s = s :=
    foldl_self (f := fun x c => Machine.shutChannel c x) h.shutChannel _
  unfold Machine.shutdownEffects
  simp only [h.tripHeader, hfold, h.regrant, h.withdraw, h.judgeHorn, h.raise, Bool.false_eq_true, if_false]

theorem State.AtStart.judgeSettled (h : s.AtStart) : judgeSettled s = { s with trip := (judgeSettled s).trip } := by
  unfold Machine.judgeSettled
  split
  · have ht : (s.modTrip fun t => { t with state := .tripped }).AtStart := h.withTrip nofun rfl rfl
    rw [noteTrip, ht.raise]; rfl
  · rfl

/-! ### The part as power-on makes it (R179) -/

/-- The trip record through the steps of R179. -/
def startedTrip (f : FieldInputs) (st : TripState) (l : List CauseEntry) (cs : List CautionEntry) : Trip :=
  { state := st, firstOut := some { cause := .restart, origin := .watch, stamp := 0 }, later := l, more := false,
    unproven := Vector.replicate 4 false, loopBOpen := f.loopBOpen, loopSOpen := f.loopSOpen, cautions := cs, horn := .trip, mute := none }

/-- The part through the steps of R179: the start values, with the trip record and the channels as far as they have come. -/
def startedWith (a : Bool) (f : FieldInputs) (s : State) (x : Trip) (ks : Vector Channel 4) : State :=
  { powerOnBase a f s with trip := x, channels := ks }

/-- The channels of step 5 of R179. -/
def startedChans (f : FieldInputs) (timer : Chan → Option Nat) : Vector Channel 4 :=
  Vector.ofFn fun c => { Channel.blank (f.channels.get c) with strokeTimer := timer c }

/-- Every valve is proven closed. -/
def valvesShut (f : FieldInputs) : Bool := Machine.chans.all fun c => (f.channels.get c).closedLimit && !(f.channels.get c).openLimit

/-- The trip state judged (R148). -/
def tripJudged (f : FieldInputs) (st : TripState) : TripState := if st = .tripping ∧ valvesShut f = true then .tripped else st

theorem chan_startedWith (a : Bool) (f : FieldInputs) (s : State) (x : Trip) (timer : Chan → Option Nat) (c : Chan) :
    (startedWith a f s x (startedChans f timer)).chan c = { Channel.blank (f.channels.get c) with strokeTimer := timer c } := by
  simp [startedWith, State.chan, startedChans, Vector.get_eq_getElem]

theorem powerOnBase_eq (a : Bool) (f : FieldInputs) (s : State) :
    powerOnBase a f s = startedWith a f s (startedTrip f .tripping [] []) (startedChans f fun _ => none) := by
  have hc : (powerOnBase a f s).channels = (startedWith a f s (startedTrip f .tripping [] []) (startedChans f fun _ => none)).channels :=
    channels_ext fun c => by rw [chan_startedWith, chan_powerOnBase]; rfl
  exact congrArg (fun ks => { powerOnBase a f s with channels := ks }) hc

variable {a : Bool} {f : FieldInputs} {st : TripState} {l : List CauseEntry} {cs : List CautionEntry} {timer : Chan → Option Nat}

theorem startedWith_atStart (hst : st ≠ .normal) : (startedWith a f s (startedTrip f st l cs) (startedChans f timer)).AtStart where
  silentB := rfl
  silentS := rfl
  tripped := hst
  horn := rfl
  mute := rfl
  header := ⟨rfl, rfl, rfl, rfl⟩
  chans c := by rw [chan_startedWith]; exact ⟨rfl, rfl, rfl⟩
  plan := rfl
  queue := rfl

theorem allSettled_startedWith :
    (startedWith a f s (startedTrip f st l cs) (startedChans f timer)).allSettled = valvesShut f := by
  unfold State.allSettled valvesShut State.settled
  congr 1
  funext c
  rw [chan_startedWith]
  simp [startedWith, startedTrip, Channel.provenClosed, Channel.blank, Vector.get_eq_getElem]

theorem judgeSettled_startedWith (hst : st ≠ .normal) :
    judgeSettled (startedWith a f s (startedTrip f st l cs) (startedChans f timer))
      = startedWith a f s (startedTrip f (tripJudged f st) l cs) (startedChans f timer) := by
  rw [(startedWith_atStart hst).judgeSettled, judgeSettled_trip, allSettled_startedWith]
  unfold tripJudged
  change startedWith a f s (if st = .tripping ∧ valvesShut f = true then _ else _) _ = _
  split <;> rfl

/-- A later cause not yet held joins the record, which has room (R153). -/
theorem shutdown_startedWith {k : ShutdownCause} {o : Origin} (hst : st ≠ .normal) (hk : ∀ c, k ≠ .valveUnproven c) (hr : k ≠ .restart)
    (hl : ∀ e ∈ l, e.cause ≠ k) (hroom : l.length < 7) :
    shutdown k o (startedWith a f s (startedTrip f st l cs) (startedChans f timer))
      = startedWith a f s (startedTrip f (tripJudged f st) (l ++ [{ cause := k, origin := o, stamp := 0 }]) cs) (startedChans f timer) := by
  obtain ⟨e, fate, he⟩ := shutdown_of_tripped (s := startedWith a f s (startedTrip f st l cs) (startedChans f timer)) hst k o
  have hheld : (startedTrip f st l cs).records k = false := by
    simpa [Trip.records, startedTrip] using ⟨hr.symm, hl⟩
  have hmark (t : Trip) : t.mark k = t := by
    cases k with
    | valveUnproven c => exact absurd rfl (hk c)
    | _ => rfl
  have htaken : (startedTrip f st l cs).taken k o 0 = startedTrip f st (l ++ [{ cause := k, origin := o, stamp := 0 }]) cs := by
    have hoffer : ((startedTrip f st l cs).offer { cause := k, origin := o, stamp := 0 }).1
        = startedTrip f st (l ++ [{ cause := k, origin := o, stamp := 0 }]) cs := by
      rw [Trip.offer_eq, if_neg (by rw [hheld]; exact Bool.false_ne_true), if_neg (by simp [startedTrip]),
        if_pos (show (startedTrip f st l cs).later.length < 7 from hroom)]
      rfl
    rw [Trip.taken, hmark, hoffer]
  have hstate : (startedWith a f s (startedTrip f st l cs) (startedChans f timer)).modTrip
      (fun _ => (startedTrip f st l cs).taken k o 0)
      = startedWith a f s (startedTrip f st (l ++ [{ cause := k, origin := o, stamp := 0 }]) cs) (startedChans f timer) := by
    rw [htaken]; rfl
  have he' := he.trans (congrArg (shutdownEffects e fate false) hstate)
  rw [he', (startedWith_atStart hst).shutdownEffects, judgeSettled_startedWith hst]

theorem tripJudged_ne {f : FieldInputs} (h : st ≠ .normal) : tripJudged f st ≠ .normal := by
  unfold tripJudged; split
  · nofun
  · exact h

theorem tripJudged_tripJudged (f : FieldInputs) (st : TripState) : tripJudged f (tripJudged f st) = tripJudged f st := by
  unfold tripJudged; split <;> simp_all

/-- The later causes of a start: each open loop, loop B's first (R150; log 38). -/
def loopCauses (f : FieldInputs) : List CauseEntry :=
  (if f.loopBOpen then [{ cause := .esdB, origin := .barge, stamp := 0 }] else [])
    ++ (if f.loopSOpen then [{ cause := .esdS, origin := .ship, stamp := 0 }] else [])

/-- The loops' causes taken: the trip state judged at each, or not yet. -/
theorem startLoops_eq : ∃ st, (st = .tripping ∨ st = tripJudged f .tripping)
    ∧ startLoops a f s = startedWith a f s (startedTrip f st (loopCauses f) []) (startedChans f fun _ => none) := by
  have hB : loopAtStart .barge (powerOnBase a f s) = startedWith a f s
      (startedTrip f (if f.loopBOpen then tripJudged f .tripping else .tripping)
        (if f.loopBOpen then [{ cause := .esdB, origin := .barge, stamp := 0 }] else []) []) (startedChans f fun _ => none) := by
    rw [powerOnBase_eq]
    unfold loopAtStart
    cases hb : f.loopBOpen with
    | false => exact if_neg (by simp [startedWith, startedTrip, Trip.loopOpen, hb])
    | true =>
      exact (if_pos (by simp [startedWith, startedTrip, Trip.loopOpen, hb])).trans
        (shutdown_startedWith (k := .esdB) (o := .barge) nofun nofun nofun nofun (by decide))
  refine ⟨if f.loopSOpen then tripJudged f (if f.loopBOpen then tripJudged f .tripping else .tripping)
    else if f.loopBOpen then tripJudged f .tripping else .tripping, ?_, ?_⟩
  · cases f.loopBOpen <;> cases f.loopSOpen <;> simp [tripJudged_tripJudged]
  · have hne : (if f.loopBOpen then tripJudged f .tripping else .tripping) ≠ TripState.normal := by
      split
      · exact tripJudged_ne nofun
      · nofun
    rw [startLoops, hB]
    unfold loopAtStart loopCauses
    cases hs : f.loopSOpen with
    | false =>
      refine (if_neg (by simp [startedWith, startedTrip, Trip.loopOpen, hs])).trans ?_
      simp
    | true =>
      refine (if_pos (by simp [startedWith, startedTrip, Trip.loopOpen, hs])).trans
        ((shutdown_startedWith (k := .esdS) (o := .ship) hne nofun nofun (fun e he => ?_) ?_).trans ?_)
      · split at he
        · simp only [List.mem_singleton] at he; rw [he]; nofun
        · cases he
      · split <;> decide
      · simp

/-- The stroke timer step 5 of R179 starts. -/
def startTimer (config : SiteConfig) (f : FieldInputs) (c : Chan) : Option Nat :=
  if (f.channels.get c).closedLimit then none else some (stampAdd 0 (strokeTimeout (config.channels.get c).strokeTime))

theorem strokeAtStart_startedWith {x : Trip} {c : Chan} (hf : (f.channels.get c).openLimit = true → (f.channels.get c).closedLimit = false)
    (ht : (f.channels.get c).closedLimit = true → timer c = none) :
    strokeAtStart c (startedWith a f s x (startedChans f timer)) = startedWith a f s x
      (startedChans f fun d => if d = c then startTimer (s.store.loadedConfig a) f d else timer d) := by
  have hchan := chan_startedWith a f s x timer
  have hext (u : State) (hu : u = { startedWith a f s x (startedChans f timer) with channels := u.channels })
      (hk : ∀ d, u.chan d = { Channel.blank (f.channels.get d) with
        strokeTimer := if d = c then startTimer (s.store.loadedConfig a) f d else timer d }) :
      u = startedWith a f s x (startedChans f fun d => if d = c then startTimer (s.store.loadedConfig a) f d else timer d) := by
    have hc : u.channels = (startedWith a f s x
        (startedChans f fun d => if d = c then startTimer (s.store.loadedConfig a) f d else timer d)).channels :=
      channels_ext fun d => by rw [chan_startedWith, hk]
    rw [hu, hc]; rfl
  unfold strokeAtStart
  simp only [hchan, Channel.blank]
  cases hcl : (f.channels.get c).closedLimit with
  | false =>
    refine (if_pos (by simp)).trans (hext _ rfl fun d => ?_)
    rw [chan_modChan]
    split
    case isTrue h => subst h; rw [hchan, if_pos rfl, startTimer, hcl]; rfl
    case isFalse h => rw [hchan, if_neg (Ne.symm h)]
  | true =>
    have ho : (f.channels.get c).openLimit = false := by
      cases h : (f.channels.get c).openLimit with
      | false => rfl
      | true => rw [hf h] at hcl; cases hcl
    rw [ho]
    refine hext _ rfl fun d => ?_
    simp only [Bool.not_true, Bool.false_eq_true, if_false]
    rw [hchan]
    split
    case isTrue h => subst h; rw [ht hcl, startTimer, hcl]; rfl
    case isFalse => rfl

theorem strokes_startedWith {x : Trip} (hf : ∀ c, (f.channels.get c).openLimit = true → (f.channels.get c).closedLimit = false)
    (cs : List Chan) (ht : ∀ c, (f.channels.get c).closedLimit = true → timer c = none) :
    cs.foldl (fun x c => strokeAtStart c x) (startedWith a f s x (startedChans f timer)) = startedWith a f s x
      (startedChans f fun d => if d ∈ cs then startTimer (s.store.loadedConfig a) f d else timer d) := by
  induction cs generalizing timer with
  | nil => simp
  | cons c cs ih =>
    rw [List.foldl_cons, strokeAtStart_startedWith (hf c) (ht c), ih]
    · congr 2
      funext d
      by_cases hd : d = c <;> by_cases hm : d ∈ cs <;> simp [hd, hm]
    · intro d hd
      split
      · simp [startTimer, hd]
      · exact ht d hd

/-- The cautions of a start (R176). -/
def startCautions (a : Bool) : List CautionEntry := if a then [] else [{ caution := .configDefaults, stamp := 0 }]

theorem cautionOn_startedWith (hst : st ≠ .normal) :
    cautionOn .configDefaults (startedWith a f s (startedTrip f st l []) (startedChans f timer))
      = startedWith a f s (startedTrip f st l [{ caution := .configDefaults, stamp := 0 }]) (startedChans f timer) := by
  have hc : (startedWith a f s (startedTrip f st l [{ caution := .configDefaults, stamp := 0 }]) (startedChans f timer)).AtStart :=
    startedWith_atStart hst
  refine Eq.trans (b := judgeHorn (some .caution) (noteCaution .configDefaults true
    (startedWith a f s (startedTrip f st l [{ caution := .configDefaults, stamp := 0 }]) (startedChans f timer)))) rfl ?_
  rw [noteCaution, hc.raise, hc.judgeHorn]

/-- What power-on makes of the part, no channel showing both limits (R176, R179). -/
def started (a : Bool) (f : FieldInputs) (s : State) : State :=
  startedWith a f s (startedTrip f (tripJudged f .tripping) (loopCauses f) (startCautions a))
    (startedChans f (startTimer (s.store.loadedConfig a) f))

theorem startUp_started (hf : ∀ c, (f.channels.get c).openLimit = true → (f.channels.get c).closedLimit = false) :
    startUp a f s = started a f s := by
  obtain ⟨st, hst, hl⟩ := startLoops_eq (a := a) (f := f) (s := s)
  have hne : st ≠ .normal := by
    rcases hst with rfl | rfl
    · nofun
    · exact tripJudged_ne nofun
  have hj : tripJudged f st = tripJudged f .tripping := by
    rcases hst with rfl | rfl
    · rfl
    · exact tripJudged_tripJudged ..
  have hcaution : (if a then startLoops a f s else cautionOn .configDefaults (startLoops a f s))
      = startedWith a f s (startedTrip f st (loopCauses f) (startCautions a)) (startedChans f fun _ => none) := by
    rw [hl]
    unfold startCautions
    cases a with
    | true => rfl
    | false => exact cautionOn_startedWith hne
  rw [startUp_eq, hcaution, startStrokes, strokes_startedWith hf _ (fun _ _ => rfl), judgeSettled_startedWith hne, hj]
  simp only [mem_chans, if_true, started]

/-! ### Loss of supply and power-on -/

/-- A write in flight, cut off or not, has no part in what power-on makes of the rest. -/
theorem losePower_eq (s : State) : losePower s = { s with powered := false, store := (losePower s).store, freeCount := (losePower s).freeCount } := by
  unfold losePower; split <;> rfl

theorem losePower_idle (h : s.store.inFlight = none) : losePower s = { s with powered := false } := by
  rw [losePower, h]

theorem exec_powerOn_started (hf : ∀ c, (f.channels.get c).openLimit = true → (f.channels.get c).closedLimit = false)
    (hs : s.powered = true → s.store.inFlight = none) :
    exec (.powerOn f) s = .next (started s.store.copy.agrees f s) := by
  have hbase : started s.store.copy.agrees f { s with powered := false } = started s.store.copy.agrees f s := rfl
  have htake : takePowerOn f s = started s.store.copy.agrees f s := by
    unfold takePowerOn powerUp
    cases hp : s.powered with
    | false => exact startUp_started hf
    | true =>
      rw [if_pos rfl, losePower_idle (hs hp)]
      exact (startUp_started hf).trans hbase
  have heff : effect (takePowerOn f) s = started s.store.copy.agrees f s := by
    rw [effect_of_no_evals (by rw [htake]; rfl), htake]
  rw [exec_powerOn, withEvals, heff]
  rfl

theorem tripJudged_tripping (hf : ∀ c, (f.channels.get c).openLimit = true → (f.channels.get c).closedLimit = false) :
    tripJudged f .tripping = if ∀ c, (f.channels.get c).closedLimit = true then .tripped else .tripping := by
  have hc : valvesShut f = true ↔ ∀ c, (f.channels.get c).closedLimit = true := by
    simp only [valvesShut, List.all_eq_true, Bool.and_eq_true]
    refine ⟨fun h c => (h c (mem_chans c)).1, fun h c _ => ⟨h c, ?_⟩⟩
    cases ho : (f.channels.get c).openLimit with
    | false => rfl
    | true => exact absurd (h c) (by rw [hf c ho]; exact Bool.false_ne_true)
  simp only [tripJudged, hc, true_and]

/-- Settles O4: the start's steps find nothing under way, and each changes what its rule names (R179). -/
theorem powerOnBringsUpTheStartState : Obligations.PowerOnBringsUpTheStartState := by
  refine ⟨fun f s hs hf => ⟨_, exec_powerOn_started hf hs, rfl, rfl, rfl, fun u => ?_, fun c => ?_, rfl, rfl, rfl, rfl, rfl,
    fun ha => ?_, fun ha => ?_, rfl, rfl, rfl, rfl, rfl, fun c => ?_, rfl, rfl, rfl, rfl, tripJudged_tripping hf⟩, fun f s hp => ?_⟩
  · simp [started, startedWith, powerOnBase, State.tank, Vector.get_eq_getElem]
  · rw [started, chan_startedWith]; rfl
  · rw [ha]; exact ⟨rfl, rfl, rfl, rfl⟩
  · rw [ha]; exact ⟨rfl, rfl, rfl, rfl⟩
  · simp [started, startedWith, startedTrip, Vector.get_eq_getElem]
  · have hoff : (losePower s).powered = false := by rw [losePower_eq]
    have htake : takePowerOn f s = takePowerOn f (losePower s) := by
      unfold takePowerOn
      rw [hoff, hp, if_pos rfl, if_neg Bool.false_ne_true]
    refine ⟨losePower s, (effect (takePowerOn f) (losePower s)).startSending, ?_, hoff, rfl, ?_⟩
    · rw [exec_powerLoss, whileOn, if_pos hp]
    · rw [exec_powerOn, withEvals, effect, effect, htake]

/-- Settles O5: a loss touches the supply and the store, and without supply no command but POWER_ON is taken (logs 7 and 8). -/
theorem powerLossTakesTheSupplyAndTheWrite : Obligations.PowerLossTakesTheSupplyAndTheWrite := by
  refine ⟨fun s hs => ⟨losePower s, ?_, losePower_eq s, ?_, fun hn => ?_, fun w hw => ?_⟩, fun i s hp hi => ?_⟩
  · rw [exec_powerLoss, whileOn, if_pos hs.1]
  · unfold losePower
    split
    · unfold Store.cut; split <;> rfl
    case h_2 hn => simp only [← hn]
  · rw [losePower_idle hn]; exact ⟨rfl, rfl⟩
  · simp only [losePower, hw, Store.cut]
    split
    · exact .inl rfl
    · exact .inr (.inl (unrelied_disagrees _))
    · exact .inr (.inr ⟨rfl, whole_agrees _⟩)
  · cases hsup : ofSupply i with
    | false => rw [exec_eq hsup, whileOn, if_neg (by rw [hp]; exact Bool.false_ne_true)]
    | true =>
      cases i with
      | powerOn f => exact absurd rfl (hi f)
      | powerLoss => rw [exec_powerLoss, whileOn, if_neg (by rw [hp]; exact Bool.false_ne_true)]
      | _ => cases hsup

/-- The reset state is what power-on makes of its own inputs and store. -/
theorem started_reset : started false resetInputs State.reset = State.reset := by
  have htrip : startedTrip resetInputs (tripJudged resetInputs .tripping) (loopCauses resetInputs) (startCautions false)
      = State.reset.trip := by decide +kernel
  have hchans : startedChans resetInputs (startTimer SiteConfig.default resetInputs) = State.reset.channels := by decide +kernel
  have hheader : (powerOnBase false resetInputs State.reset).header = State.reset.header := by decide +kernel
  have hstore : State.reset.store.loaded false = State.reset.store := rfl
  have hconfig : State.reset.store.loadedConfig false = SiteConfig.default := rfl
  have hbase : powerOnBase false resetInputs State.reset = { State.reset with
      header := (powerOnBase false resetInputs State.reset).header
      trip := (powerOnBase false resetInputs State.reset).trip
      channels := (powerOnBase false resetInputs State.reset).channels } := rfl
  rw [started, startedWith, htrip, hconfig, hchans, hbase, hheader]

/-- Settles O3: each invariant of the one reset state. -/
theorem resetIsAPowerOnAndMeetsTheInvariants : Obligations.ResetIsAPowerOnAndMeetsTheInvariants := by
  have hshut : ∀ c, (resetInputs.channels.get c).openLimit = true → (resetInputs.channels.get c).closedLimit = false := by decide +kernel
  have hport : Port.blank.Bounded := by unfold Port.Bounded Port.Settled; decide +kernel
  refine ⟨?_, by unfold State.CommandsFollow; decide +kernel, by unfold State.TrippedShut; decide +kernel,
    by simp [ConsentQueue.Bounded, ConsentQueue.ofSide, State.reset], hport, hport, by unfold Trip.Bounded; decide +kernel,
    by unfold State.HeaderTrips; decide +kernel, ⟨fun _ => ⟨_, List.mem_singleton.mpr rfl, rfl⟩, fun _ => rfl⟩,
    by unfold Header.TimersOk; decide +kernel, by unfold State.GrantsOk Channel.FlowsByGrant; decide +kernel,
    by unfold State.MetersOk Meter.Ok; decide +kernel, planOk_blank rfl, fun u => ?_⟩
  · rw [exec_powerOn_started hshut (fun _ => rfl)]
    have ha : State.reset.store.copy.agrees = false := resetStore_disagrees
    rw [ha, started_reset]
  · have hu : State.reset.tank u = Tank.blank := by simp [State.reset, State.tank, Vector.get_eq_getElem]
    rw [hu]; exact Tank.windowOk_blank

/-! The store, SILENCE and the loops (R150, R161, R177, R178). -/


/-! ### STORE and its completion -/

theorem setConfigDefaults_off (s : State) : ∃ x a b, setConfigDefaults false s
    = { s with store := { s.store with configDefaults := false }, trip := x, portB := a, portS := b } ∧ x.HornOnly { s.trip with cautions := x.cautions }
      ∧ (s.store.configDefaults = true → x.cautions = s.trip.cautions.filter fun e => !e.caution.same .configDefaults)
      ∧ (s.store.configDefaults = false → setConfigDefaults false s = s) := by
  unfold setConfigDefaults
  split
  case isTrue h =>
    refine ⟨s.trip, s.portB, s.portS, ?_, rfl, fun hn => ?_, fun _ => rfl⟩
    · simp only [← h]
    · rw [hn] at h; cases h
  case isFalse h =>
    let base : State := { s with store := { s.store with configDefaults := false } }
    exact ⟨_, _, _, cautionOff_only_trip .configDefaults base, hornOnly_cautionOff .configDefaults base,
      fun _ => cautions_cautionOff .configDefaults base, fun hn => absurd hn h⟩

/-- The notice of a caution's fall reaches a LIVE port with room (R159, R172). -/
theorem notices_cautionOff {k : Caution} {s : State} (hk : ∃ e ∈ s.trip.cautions, e.caution = k) (q : Side) :
    (s.port q).notices <+: ((cautionOff k s).port q).notices
      ∧ ((s.port q).link = .live → (s.port q).notices.length < 16 →
          ((cautionOff k s).port q).notices.length ≠ (s.port q).notices.length) := by
  obtain ⟨e, he, hek⟩ := hk
  have hsame : k.same k = true := by cases k <;> simp [Caution.same]
  have hany : (s.trip.cautions.any fun e => e.caution.same k) = true := List.any_eq_true.mpr ⟨e, he, by rw [hek]; exact hsame⟩
  let u := noteCaution k false (s.modTrip fun t => { t with cautions := t.cautions.filter fun e => !e.caution.same k })
  have hoff : cautionOff k s = judgeHorn none u := if_pos hany
  have hu : u.port q = (s.port q).offer (.caution k false s.now (s.trip.cautions.filter fun e => !e.caution.same k)) := by
    cases q <;> rfl
  have hlast : (u.port q).notices <+: ((judgeHorn none u).port q).notices := by
    unfold judgeHorn
    simp only
    split
    · exact List.prefix_rfl
    · rw [noteTrip, raise_eq_raiseAll, port_raiseAll]; exact offer_prefix ..
  rw [hoff]
  refine ⟨(hu ▸ offer_prefix _ _ : (s.port q).notices <+: (u.port q).notices).trans hlast, fun hl hn => ?_⟩
  have hlen := hlast.length_le
  rw [hu, offer_room _ hl hn, List.length_append] at hlen
  have hone : [Notice.caution k false s.now (s.trip.cautions.filter fun e => !e.caution.same k)].length = 1 := rfl
  omega

/-- Settles O6: the rules of R177 and R178 case by case (logs 3, 39). -/
theorem storeTakesASnapshotAndItsCompletionSettlesIt : Obligations.StoreTakesASnapshotAndItsCompletionSettlesIt := by
  refine ⟨fun body s hs hd => ⟨fun hn => ?_, fun hn => ?_⟩, fun s hs => ⟨fun v hn => ?_, fun w hw => ⟨?_, ?_⟩⟩⟩
  · refine does_of_handle (k := .store) (u := { s with store := { s.store with inFlight := some { snapshot := s.config, accepted := s.now } } })
      hs rfl hd hs.1.2 fun a b => ?_
    simp only [handle, doStore, State.withPorts, hn]; rfl
  · obtain ⟨w, hw⟩ := Option.ne_none_iff_exists'.mp hn
    exact refuses_of_handle (k := .store) hs rfl hd fun a b => by simp only [handle, doStore, State.withPorts, hw]
  · exact exec_nothing hs rfl (by simp only [commandEffect, takeCompletion, hn])
  · let base : State := { s with store := { s.store with copy := StoredCopy.whole w.snapshot, valid := true, inFlight := none } }
    obtain ⟨x, a, b, hoff, hhorn, hon, hstill⟩ := setConfigDefaults_off base
    have htake : takeCompletion true s = noteStore true w (setConfigDefaults false base) := by
      simp only [takeCompletion, hw, completeStore, if_true, base]
    have hraise : noteStore true w (setConfigDefaults false base)
        = raise (.store true w.accepted s.now true) (setConfigDefaults false base) := by rw [noteStore, hoff]
    refine ⟨noteStore true w (setConfigDefaults false base), exec_quiet hs.1 rfl htake ?_, ?_, ?_⟩
    · rw [hoff]; exact hs.2
    · rw [hoff]; rfl
    · refine ⟨by rw [hoff]; rfl, by rw [hoff]; exact whole_agrees _, by rw [hoff]; rfl, by rw [hoff]; rfl, by rw [hoff]; rfl,
        by rw [hoff]; exact hhorn, fun h => by rw [hoff]; exact hon h, fun h => ?_, fun h hshown => ⟨setConfigDefaults false base, hraise, fun q => ?_⟩⟩
      · rw [hraise, hstill h]; rfl
      · have hne : ¬ base.store.configDefaults = false := fun hf => by
          have hf' : s.store.configDefaults = false := hf
          rw [h] at hf'; cases hf'
        have hcall : setConfigDefaults false base
            = cautionOff .configDefaults { base with store := { base.store with configDefaults := false } } := if_neg hne
        rw [hcall]
        exact notices_cautionOff (s := { base with store := { base.store with configDefaults := false } }) (hshown.mp h) q
  · refine ⟨takeCompletion false s, exec_quiet hs.1 rfl rfl ?_, ?_⟩
    · simp only [takeCompletion, hw, completeStore]; exact hs.2
    · simp only [takeCompletion, hw, completeStore]
      exact ⟨rfl, unrelied_disagrees _, rfl, rfl, rfl⟩

/-! ### SILENCE and the loops -/

/-- Settles O32: the mute is set at the class present (R161), a loop's closing recorded and told (R150). -/
theorem silenceMutesAndClosingLoopsAreRecorded : Obligations.SilenceMutesAndClosingLoopsAreRecorded := by
  refine ⟨fun p body s hs hd => ⟨fun hq => ?_, fun hq => ?_⟩, fun s hs => ⟨fun hl => ⟨_, rfl, ?_⟩, fun hl => ⟨_, rfl, ?_⟩⟩⟩
  · refine does_of_handle (k := .silence) (u := s) hs rfl hd hs.1.2 fun a b => ?_
    exact if_pos (.inl hq)
  · let s1 := refreshLink p s
    have hs1 : s1 = { s with portB := s1.portB, portS := s1.portS } := refreshLink_eq_withPorts p s
    have hne : s1.trip.horn ≠ .quiet := by rw [hs1]; exact hq
    have hmuted : (doSilence s1).1 = { s with trip := { s.trip with mute := some s.trip.horn }, portB := (doSilence s1).1.portB, portS := (doSilence s1).1.portS } := by
      unfold doSilence
      split
      case isTrue h =>
        have hm : s.trip.mute = some s.trip.horn := by have := h.resolve_left hne; rw [hs1] at this; exact this
        simp only [← hm]; exact hs1
      case isFalse =>
        change noteTrip .horn (s1.modTrip fun t => { t with mute := some t.horn }) = _
        generalize s1 = u at hs1
        rw [hs1]; rfl
    obtain ⟨t, hexec, hans, hend, ht⟩ := request_makes (k := .silence) hs rfl hd
      (u := { s with trip := { s.trip with mute := some s.trip.horn } }) hs.1.2 hmuted (fun q => (doSilence_writes s1).ended_eq (q := q))
    have hdone : (doSilence s1).2 = .done .nothing := by unfold doSilence; split <;> rfl
    refine ⟨t, hexec, ht, ?_, ?_, hdone ▸ hans, hend⟩
    · rw [ht]; rfl
    · rw [ht]; rfl
  · exact exec_quiet hs.1 rfl (if_pos hl) hs.2
  · exact exec_quiet hs.1 rfl (if_pos hl) hs.2

/-! The reads (R32, R96, R162, R169) and what the port itself refuses (R167). -/


variable {p : Side} {body : List Byte} {s : State}

theorem chanOf_val (c : Chan) : chanOf c = some c := dif_pos c.isLt

theorem entryOf_val (i : EntryId) : entryOf i = some i := dif_pos i.isLt

/-- What a read of the part with its link refreshed finds is what the part holds. -/
theorem refreshLink_reads (p : Side) (s : State) : (refreshLink p s).entry = s.entry ∧ (refreshLink p s).tank = s.tank
    ∧ (refreshLink p s).chan = s.chan ∧ (refreshLink p s).chanConfig = s.chanConfig ∧ (refreshLink p s).trip = s.trip
    ∧ (refreshLink p s).header = s.header ∧ (refreshLink p s).config = s.config ∧ (refreshLink p s).now = s.now
    ∧ (refreshLink p s).queue = s.queue ∧ (refreshLink p s).currentId = s.currentId ∧ (refreshLink p s).current = s.current := by
  rw [refreshLink_eq_withPorts]
  exact ⟨rfl, rfl, rfl, rfl, rfl, rfl, rfl, rfl, rfl, rfl, rfl⟩

theorem status_does (hs : s.Hears p) (hd : decodeRequest .status body = some .status) :
    ∃ t : State, exec (.status p body) s = .next t.startSending ∧ t = { s with portB := t.portB, portS := t.portS }
      ∧ Answered p (bodyTag body) RequestKind.status.code (.done (.status ((refreshLink p s).report p))) s t
      ∧ (t.port p).lost = false ∧ (∀ c : Chan, (t.port p).ended.get c = false)
      ∧ (t.port p.other).ended = (s.port p.other).ended := by
  have hev : (doStatus p (refreshLink p s)).1.evals = [] := by
    rw [(doStatus_writes p (refreshLink p s)).evals_eq, refreshLink_eq_withPorts]; exact hs.1.2
  have hend := requestEnd_quiet (p := p) (k := .status) (body := body) (r := .status) (s := s)
    (u := (doStatus p (refreshLink p s)).1) (result := .done (.status ((refreshLink p s).report p))) rfl hev
  have hport : (requestEnd p .status body .status s).port p
      = { (refreshLink p s).port p with
          lost := false, ended := Vector.replicate 4 false
          replies := ((refreshLink p s).port p).replies ++
            [{ tag := bodyTag body, kind := RequestKind.status.code, result := .done (.status ((refreshLink p s).report p)) }] } := by
    rw [hend, port_pushReply, doStatus, port_modPort, if_pos rfl]
  have hother : ((requestEnd p .status body .status s).port p.other).ended = (s.port p.other).ended := by
    rw [hend, port_other_pushReply, doStatus, port_other_modPort, ended_refreshLink]
  refine ⟨_, exec_request (k := .status) hs rfl hd, ?_, answered_requestEnd, ?_, fun c => ?_, hother⟩
  · rw [hend, pushReply_eq_withPorts, doStatus, modPort_eq_withPorts, refreshLink_eq_withPorts]; rfl
  · rw [hport]
  · rw [hport]; simp [Vector.get_eq_getElem]

/-- Settles O14: each read's own rule. -/
theorem readsAnswerWithTheRecord : Obligations.ReadsAnswerWithTheRecord := by
  intro p body s hs
  refine ⟨fun i e hd he => ?_, fun i hd he => ?_, fun u hd => ?_, fun c hd => ?_, fun hd => ?_, status_does hs⟩
  · refine does_of_handle (k := .readEntry) (u := s) hs rfl hd hs.1.2 fun a b => ?_
    have he' : (s.withPorts a b).entry i = some e := he
    simp only [handle, doReadEntry, entryOf_val, he', Entry.remaining, raiseAll_nil]
  · refine refuses_of_handle (k := .readEntry) hs rfl hd fun a b => ?_
    have he' : (s.withPorts a b).entry i = none := he
    simp only [handle, doReadEntry, entryOf_val, he']
  · refine does_of_handle (k := .readTank) (u := s) hs rfl hd hs.1.2 fun a b => ?_
    simp only [handle, doReadTank, tankOf_val, raiseAll_nil, tank_withPorts, tankInUse_withPorts]
  · refine does_of_handle (k := .readChannel) (u := s) hs rfl hd hs.1.2 fun a b => ?_
    simp only [handle, doReadChannel, chanOf_val, raiseAll_nil]; rfl
  · refine does_of_refreshed (k := .readTrip) (u := s) hs rfl hd hs.1.2 ?_
    have hs1 := refreshLink_eq_withPorts p s
    have htrip : (refreshLink p s).trip = s.trip := by rw [hs1]; rfl
    have hchan : (refreshLink p s).chan = s.chan := by rw [hs1]; rfl
    simp only [handle, doReadTrip, htrip, hchan, raiseAll_nil, Channel.provenClosed]
    rw [← hs1]

/-! ### What the port refuses (R167) -/

/-- A frame answered without a request's own rule. -/
theorem reply_without_rule {i : Instr} {kind : Byte} {reason : Reason} (hs : s.Hears p) (hi : ofSupply i = false)
    (ht : commandEffect i s = pushReply p { tag := bodyTag body, kind := kind, result := .refused reason } (refreshLink p s)) :
    ∃ t : State, exec i s = .next t.startSending ∧ t = { s with portB := t.portB, portS := t.portS }
      ∧ Answered p (bodyTag body) kind (.refused reason) s t ∧ EndedKept s t ∧ Tells p [] s t := by
  refine ⟨_, exec_quiet hs.1.1 hi ht ?_, ?_, ⟨?_, ?_⟩, fun q => ?_, fun hl q => ?_⟩
  · rw [pushReply_eq_withPorts, refreshLink_eq_withPorts]; exact hs.1.2
  · rw [pushReply_eq_withPorts, refreshLink_eq_withPorts]; rfl
  · have hline := line_refreshLink p s
    have hr : ((refreshLink p s).port p).replies = (s.port p).replies := congrArg Line.replies hline
    rw [port_pushReply, hr]
    exact congrArg (fun l : Line => ({ l with replies := (s.port p).replies ++
      [{ tag := bodyTag body, kind := kind, result := .refused reason }] } : Line)) hline
  · rw [port_other_pushReply, line_other_refreshLink]
  · rw [ended_pushReply, ended_refreshLink]
  · have hpush := hearsAlike_pushReply p q { tag := bodyTag body, kind := kind, result := .refused reason } (refreshLink p s)
    have halike := hearsAlike_refreshLink hl q
    exact ⟨hpush.notices.trans halike.notices, hpush.lost.trans halike.lost⟩

theorem ofSupply_frameCommand (p : Side) (k : RequestKind) (body : List Byte) : ofSupply (frameCommand p k body) = false := by
  cases k <;> rfl

theorem commandEffect_frameCommand (p : Side) (k : RequestKind) (body : List Byte) (s : State) :
    commandEffect (frameCommand p k body) s = takeRequest p k body s := by cases k <;> rfl

theorem replies_refreshLink (p : Side) (s : State) : ((refreshLink p s).port p).replies = (s.port p).replies :=
  congrArg Line.replies (line_refreshLink p s)

/-- Settles O10: steps 1 to 4 of R167. -/
theorem requestsAreRefusedAtThePort : Obligations.RequestsAreRefusedAtThePort := by
  have hfree {p : Side} {s : State} (hr : (s.port p).replies.length < 4) : ¬ replyRoom ≤ ((refreshLink p s).port p).replies.length := by
    rw [replies_refreshLink]; exact Nat.not_le.mpr hr
  refine ⟨fun p k body s hs => ⟨fun hfull => ⟨refreshLink p s, ?_, ?_, fun q => ended_refreshLink p q s, fun hl q => ?_,
    line_refreshLink p s, line_other_refreshLink p s⟩, fun hr hp => ?_, fun hr hp hd => ?_⟩, fun p kind body s hs hk => ?_⟩
  · refine exec_quiet hs.1 (ofSupply_frameCommand ..) ?_ (by rw [refreshLink_eq_withPorts]; exact hs.2)
    rw [commandEffect_frameCommand, takeRequest]
    exact if_pos (by rw [replies_refreshLink]; exact hfull)
  · rw [refreshLink_eq_withPorts]; rfl
  · have halike := hearsAlike_refreshLink hl q
    exact ⟨halike.notices, halike.lost⟩
  · refine reply_without_rule ⟨hs, hr⟩ (ofSupply_frameCommand ..) ?_
    rw [commandEffect_frameCommand, takeRequest]
    simp only [if_neg (hfree hr), judgeRequest, hp, Bool.false_eq_true, if_false, refuse]
  · refine reply_without_rule ⟨hs, hr⟩ (ofSupply_frameCommand ..) ?_
    rw [commandEffect_frameCommand, takeRequest]
    simp only [if_neg (hfree hr), judgeRequest, hp, hd, if_true, refuse]
  · refine reply_without_rule hs rfl ?_
    simp only [commandEffect, takeFrame, hk, takeUnassigned, if_neg (hfree hs.2)]

/-! ### The transmitter (R171) -/

theorem startSending_settled (s : State) (p : Side) : (s.startSending.port p).Settled := by
  rw [port_startSending]; exact begin_settled _

/-- Settles O11: what `Port.begin` takes, and that a powered part's command ends with it (log 23). -/
theorem transmitterTakesRepliesBeforeNotices : Obligations.TransmitterTakesRepliesBeforeNotices := by
  have hbegin (x : Port) (hx : x.sending = none) :
      (∀ r rs, x.replies = r :: rs → x.begin = { x with replies := rs, sending := some (.reply r) })
        ∧ (∀ n ns, x.replies = [] → x.notices = n :: ns → x.begin = { x with notices := ns, sending := some (.notice n) })
        ∧ (x.replies = [] → x.notices = [] → x.begin = x) :=
    ⟨fun r rs h => begin_reply hx h, fun n ns hr hn => begin_notice hx hr hn, fun hr hn => begin_nothing hx hr hn⟩
  have hsent (p : Side) (s : State) : (frameSent p s).startSending.port p = ({ s.port p with sending := none } : Port).begin := by
    rw [port_startSending, frameSent, port_modPort, if_pos rfl]
  refine ⟨fun p s hs => ⟨(frameSent p s).startSending, exec_quiet hs.1 rfl rfl ?_, ?_, ?_, fun r rs h => ?_, fun n ns hr hn => ?_, fun hr hn => ?_⟩,
    fun x => ⟨fun hx => ?_, hbegin x⟩, fun i p s t ht hs hi hw => ?_⟩
  · rw [frameSent, modPort_eq_withPorts]; exact hs.2
  · rw [frameSent, modPort_eq_withPorts]; rfl
  · rw [port_startSending, frameSent, port_other_modPort]
  · rw [hsent]; exact begin_reply rfl h
  · rw [hsent]; exact begin_notice rfl hr hn
  · rw [hsent]; exact begin_nothing rfl hr hn
  · obtain ⟨f, hf⟩ := Option.ne_none_iff_exists'.mp hx
    exact begin_sending hf
  · have hset : (t.port p).Settled := by
      cases hsup : ofSupply i with
      | false => rw [exec_on hs hsup] at ht; cases ht; exact startSending_settled _ p
      | true =>
        cases i with
        | powerOn f => rw [exec_powerOn] at ht; cases ht; exact startSending_settled _ p
        | powerLoss => exact absurd rfl hi
        | _ => cases hsup
    cases hsend : (t.port p).sending with
    | none =>
      obtain ⟨hr, hn⟩ := hset hsend
      exact absurd hw (by rw [hr, hn]; simp)
    | some f => exact ⟨f, rfl, by rw [Port.lineBytes, hsend]; rfl⟩

/-! Bytes, frames and bodies (R163, R164, R167, R174). -/


/-! ### Fields written and read -/

theorem be2_put (n : Nat) (h : n < 65536) : be2 (BitVec.ofNat 8 (n / 256)) (BitVec.ofNat 8 n) = n := by
  simp only [be2, BitVec.toNat_ofNat]; omega

theorem be4_put (n : Nat) (h : n < 4294967296) : be4 (BitVec.ofNat 8 (n / 16777216)) (BitVec.ofNat 8 (n / 65536))
    (BitVec.ofNat 8 (n / 256)) (BitVec.ofNat 8 n) = n := by
  simp only [be4, BitVec.toNat_ofNat]; omega

theorem toNat_put1 (n : Nat) (h : n < 256) : (BitVec.ofNat 8 n).toNat = n := by
  simp only [BitVec.toNat_ofNat]; omega

theorem put1_toNat (b : Byte) : put1 b.toNat = [b] := by simp [put1]

theorem put2_be (h l : Byte) : put2 (be2 h l) = [h, l] := by
  have hh := h.isLt
  have hl := l.isLt
  simp only [put2, be2, List.cons.injEq, and_true]
  constructor <;> (apply BitVec.eq_of_toNat_eq; simp only [BitVec.toNat_ofNat]; omega)

theorem put4_be (a b c d : Byte) : put4 (be4 a b c d) = [a, b, c, d] := by
  have ha := a.isLt
  have hb := b.isLt
  have hc := c.isLt
  have hd := d.isLt
  simp only [put4, be4, List.cons.injEq, and_true]
  refine ⟨?_, ?_, ?_, ?_⟩ <;> (apply BitVec.eq_of_toNat_eq; simp only [BitVec.toNat_ofNat]; omega)

theorem byte_lt (b : Byte) : b.toNat < 256 := b.isLt

theorem be2_lt (h l : Byte) : be2 h l < 65536 := by
  have hh := h.isLt
  have hl := l.isLt
  simp only [be2]; omega

theorem be4_lt (a b c d : Byte) : be4 a b c d < 4294967296 := by
  have ha := a.isLt
  have hb := b.isLt
  have hc := c.isLt
  have hd := d.isLt
  simp only [be4]; omega

theorem modeOf_code (m : Mode) : modeOf (modeCode m) = some m := by cases m <;> rfl
theorem lineupOf_code (m : Lineup) : lineupOf (lineupCode m) = some m := by cases m <;> rfl
theorem qualityOf_code (m : Quality) : qualityOf (qualityCode m) = some m := by cases m <;> rfl
theorem groupOf_code (m : PriorityGroup) : groupOf (groupCode m) = some m := by cases m <;> rfl
theorem headerPolicyOf_code (m : HeaderPolicy) : headerPolicyOf (headerPolicyCode m) = some m := by cases m <;> rfl
theorem priorityPolicyOf_code (m : PriorityPolicy) : priorityPolicyOf (priorityPolicyCode m) = some m := by cases m <;> rfl
theorem alarmFlagsOf_code (a b : Bool) : alarmFlagsOf (alarmFlagsCode a b) = some (a, b) := by cases a <;> cases b <;> rfl

theorem code_of_modeOf {b : Byte} {m : Mode} (h : modeOf b = some m) : modeCode m = b := by
  unfold modeOf at h; split_ifs at h <;> cases h <;> simp_all [modeCode]
theorem code_of_lineupOf {b : Byte} {m : Lineup} (h : lineupOf b = some m) : lineupCode m = b := by
  unfold lineupOf at h; split_ifs at h <;> cases h <;> simp_all [lineupCode]
theorem code_of_qualityOf {b : Byte} {m : Quality} (h : qualityOf b = some m) : qualityCode m = b := by
  unfold qualityOf at h; split_ifs at h <;> cases h <;> simp_all [qualityCode]
theorem code_of_groupOf {b : Byte} {m : PriorityGroup} (h : groupOf b = some m) : groupCode m = b := by
  unfold groupOf at h; split_ifs at h <;> cases h <;> simp_all [groupCode]
theorem code_of_headerPolicyOf {b : Byte} {m : HeaderPolicy} (h : headerPolicyOf b = some m) : headerPolicyCode m = b := by
  unfold headerPolicyOf at h; split_ifs at h <;> cases h <;> simp_all [headerPolicyCode]
theorem code_of_priorityPolicyOf {b : Byte} {m : PriorityPolicy} (h : priorityPolicyOf b = some m) : priorityPolicyCode m = b := by
  unfold priorityPolicyOf at h; split_ifs at h <;> cases h <;> simp_all [priorityPolicyCode]

theorem code_of_alarmFlagsOf {b : Byte} {x y : Bool} (h : alarmFlagsOf b = some (x, y)) : alarmFlagsCode x y = b := by
  unfold alarmFlagsOf at h
  split_ifs at h with hb
  cases h
  have : ∀ b : Byte, b.toNat < 4 → alarmFlagsCode (b.getLsbD 0) (b.getLsbD 1) = b := by decide
  exact this b hb

/-! ### Bodies written and read -/

theorem decodeProposal_encode (b : RawProposal) (h : b.fits = true) : decodeProposal (encodeProposal b) = some b := by
  cases b with
  | plan c t a r m =>
    simp only [RawProposal.fits, Bool.and_eq_true, decide_eq_true_eq] at h
    obtain ⟨⟨⟨hc, ht⟩, ha⟩, hr⟩ := h
    simp [encodeProposal, decodeProposal, put1, put2, put4, modeOf_code, be2_put r hr, be4_put a ha, Nat.mod_eq_of_lt hc, Nat.mod_eq_of_lt ht]
  | amend e a r =>
    simp only [RawProposal.fits, Bool.and_eq_true, decide_eq_true_eq] at h
    obtain ⟨⟨he, ha⟩, hr⟩ := h
    simp [encodeProposal, decodeProposal, put1, put2, put4, be2_put r hr, be4_put a ha, Nat.mod_eq_of_lt he]
  | cancel n | start n | clear n =>
    simp only [RawProposal.fits, decide_eq_true_eq] at h
    simp [encodeProposal, decodeProposal, put1, Nat.mod_eq_of_lt h]
  | init => rfl

theorem encodeProposal_length (b : RawProposal) : (encodeProposal b).length ≤ 10 := by
  cases b <;> simp [encodeProposal, put1, put2, put4]

theorem encodeProposal_decode {fs : List Byte} {b : RawProposal} (h : decodeProposal fs = some b) :
    b.fits = true ∧ encodeProposal b = fs := by
  unfold decodeProposal at h
  split at h
  case h_1 k c t a3 a2 a1 a0 r1 r0 m =>
    split_ifs at h with hk
    obtain ⟨x, hx, rfl⟩ := Option.map_eq_some_iff.mp h
    simp [RawProposal.fits, encodeProposal, byte_lt, be2_lt, be4_lt, put1_toNat, put2_be, put4_be, code_of_modeOf hx, hk]
  case h_2 =>
    split_ifs at h with hk
    cases h
    simp [RawProposal.fits, encodeProposal, byte_lt, be2_lt, be4_lt, put1_toNat, put2_be, put4_be, hk]
  case h_3 =>
    split_ifs at h with hk hk hk <;> cases h <;> simp [RawProposal.fits, encodeProposal, byte_lt, put1_toNat, hk]
  case h_4 =>
    split_ifs at h with hk
    cases h
    simp [RawProposal.fits, encodeProposal, hk]
  case h_5 => cases h

theorem decodeFields_encode (r : Request) (h : r.fits = true) : decodeFields r.kind (encodeFields r) = some r := by
  cases r with
  | status | readTrip | silence | store => rfl
  | propose b => simp [decodeFields, encodeFields, Request.kind, decodeProposal_encode b h]
  | endorse i b =>
    simp only [Request.fits, Bool.and_eq_true, decide_eq_true_eq] at h
    simp [decodeFields, encodeFields, Request.kind, put1, Nat.mod_eq_of_lt h.1, decodeProposal_encode b h.2]
  | priority q => simp [decodeFields, encodeFields, Request.kind, priorityPolicyOf_code]
  | level t l q a b =>
    simp only [Request.fits, Bool.and_eq_true, decide_eq_true_eq] at h
    simp [decodeFields, encodeFields, Request.kind, put1, put2, Nat.mod_eq_of_lt h.1, be2_put l h.2, qualityOf_code, alarmFlagsOf_code]
  | lineup e v =>
    simp only [Request.fits, decide_eq_true_eq] at h
    simp [decodeFields, encodeFields, Request.kind, put1, Nat.mod_eq_of_lt h, lineupOf_code]
  | strapSeek t i =>
    simp only [Request.fits, Bool.and_eq_true, decide_eq_true_eq] at h
    simp [decodeFields, encodeFields, Request.kind, put1, Nat.mod_eq_of_lt h.1, Nat.mod_eq_of_lt h.2]
  | strapSeal n w =>
    simp only [Request.fits, Bool.and_eq_true, decide_eq_true_eq] at h
    simp [decodeFields, encodeFields, Request.kind, put1, put4, Nat.mod_eq_of_lt h.1, be4_put w h.2]
  | strapPut n p0 p1 p2 p3 =>
    simp only [Request.fits, Point.fits, Bool.and_eq_true, decide_eq_true_eq] at h
    obtain ⟨⟨⟨⟨hn, h0⟩, h1⟩, h2⟩, h3⟩ := h
    simp [decodeFields, encodeFields, Request.kind, decodeStrapPut, putPoint, put1, put2, put4, Nat.mod_eq_of_lt hn,
      be2_put _ h0.1, be4_put _ h0.2, be2_put _ h1.1, be4_put _ h1.2, be2_put _ h2.1, be4_put _ h2.2, be2_put _ h3.1, be4_put _ h3.2]
  | tankdef t d =>
    simp only [Request.fits, Bool.and_eq_true, decide_eq_true_eq] at h
    obtain ⟨⟨⟨⟨⟨⟨⟨⟨ht, hg⟩, h1⟩, h2⟩, h3⟩, h4⟩, h5⟩, h6⟩, h7⟩ := h
    simp [decodeFields, encodeFields, Request.kind, decodeTankdef, put1, put2, put4, Nat.mod_eq_of_lt ht, Nat.mod_eq_of_lt hg,
      be2_put _ h1, be2_put _ h2, be2_put _ h3, be4_put _ h4, be2_put _ h5, be4_put _ h6, be2_put _ h7]
  | chconfig c k =>
    simp only [Request.fits, Bool.and_eq_true, decide_eq_true_eq] at h
    obtain ⟨⟨⟨⟨⟨⟨⟨⟨⟨hc, hg⟩, h1⟩, h2⟩, h3⟩, h4⟩, h5⟩, h6⟩, h7⟩, h8⟩ := h
    simp [decodeFields, encodeFields, Request.kind, decodeChconfig, put1, put2, put4, Nat.mod_eq_of_lt hc, Nat.mod_eq_of_lt hg,
      be2_put _ h1, be4_put _ h2, be4_put _ h3, be2_put _ h4, be2_put _ h5, be2_put _ h6, be2_put _ h7, be2_put _ h8, groupOf_code]
  | headerconfig x d =>
    simp only [Request.fits, Bool.and_eq_true, decide_eq_true_eq] at h
    obtain ⟨⟨⟨⟨⟨⟨⟨⟨⟨⟨h1, h2⟩, h3⟩, h4⟩, h5⟩, h6⟩, h7⟩, h8⟩, h9⟩, h10⟩, h11⟩ := h
    simp [decodeFields, encodeFields, Request.kind, decodeHeaderconfig, put2, put4, be2_put _ h1, be2_put _ h2, be2_put _ h3, be2_put _ h4,
      be2_put _ h5, be2_put _ h6, be2_put _ h7, be2_put _ h8, be2_put _ h9, be2_put _ h10, be4_put _ h11, headerPolicyOf_code]
  | readEntry n | readTank n | readChannel n | stop n | pause n | continue_ n | entryEnd n | arm n | mask n | hose n =>
    simp only [Request.fits, decide_eq_true_eq] at h
    simp [decodeFields, encodeFields, Request.kind, put1, Nat.mod_eq_of_lt h]

theorem encodeFields_length (r : Request) : (encodeFields r).length ≤ 119 := by
  cases r with
  | propose b => exact (encodeProposal_length b).trans (by decide)
  | endorse i b =>
    have := encodeProposal_length b
    simp only [encodeFields, put1, List.length_append, List.length_singleton]; omega
  | _ => simp [encodeFields, put1, put2, put4, putPoint]

theorem encodeFields_decode {k : RequestKind} {fs : List Byte} {r : Request} (h : decodeFields k fs = some r) :
    r.fits = true ∧ encodeFields r = fs := by
  cases k with
  | propose =>
    obtain ⟨b, hb, rfl⟩ := Option.map_eq_some_iff.mp h
    exact encodeProposal_decode hb
  | endorse =>
    simp only [decodeFields] at h
    split at h
    · obtain ⟨b, hb, rfl⟩ := Option.map_eq_some_iff.mp h
      obtain ⟨hf, he⟩ := encodeProposal_decode hb
      simp [Request.fits, encodeFields, byte_lt, hf, he, put1_toNat]
    · cases h
  | tankdef =>
    simp only [decodeFields, decodeTankdef] at h
    split at h
    · cases h; simp [Request.fits, encodeFields, byte_lt, be2_lt, be4_lt, put1_toNat, put2_be, put4_be]
    · cases h
  | strapPut =>
    simp only [decodeFields, decodeStrapPut] at h
    split at h
    · cases h; simp [Request.fits, Point.fits, encodeFields, putPoint, byte_lt, be2_lt, be4_lt, put1_toNat, put2_be, put4_be]
    · cases h
  | chconfig =>
    simp only [decodeFields, decodeChconfig] at h
    split at h
    · obtain ⟨q, hq, rfl⟩ := Option.map_eq_some_iff.mp h
      simp [Request.fits, encodeFields, byte_lt, be2_lt, be4_lt, put1_toNat, put2_be, put4_be, code_of_groupOf hq]
    · cases h
  | headerconfig =>
    simp only [decodeFields, decodeHeaderconfig] at h
    split at h
    · obtain ⟨q, hq, rfl⟩ := Option.map_eq_some_iff.mp h
      simp [Request.fits, encodeFields, be2_lt, be4_lt, put2_be, put4_be, code_of_headerPolicyOf hq]
    · cases h
  | level =>
    simp only [decodeFields] at h
    split at h
    · split at h
      case h_1 hq hf =>
        cases h
        simp [Request.fits, encodeFields, byte_lt, be2_lt, put1_toNat, put2_be, code_of_qualityOf hq, code_of_alarmFlagsOf hf]
      case h_2 => cases h
    · cases h
  | lineup =>
    simp only [decodeFields] at h
    split at h
    · obtain ⟨q, hq, rfl⟩ := Option.map_eq_some_iff.mp h
      simp [Request.fits, encodeFields, byte_lt, put1_toNat, code_of_lineupOf hq]
    · cases h
  | priority =>
    simp only [decodeFields] at h
    split at h
    · obtain ⟨q, hq, rfl⟩ := Option.map_eq_some_iff.mp h
      simp [Request.fits, encodeFields, code_of_priorityPolicyOf hq]
    · cases h
  | _ =>
    simp only [decodeFields] at h
    split at h
    · cases h; simp [Request.fits, encodeFields, byte_lt, be4_lt, put1_toNat, put4_be]
    · cases h

/-! ### The bytes of a frame, one by one (R163, R164) -/

/-- The part with `rx` the bytes taken on port `p` since SYNC and `is` the commands waiting. -/
def State.reading (s : State) (p : Side) (rx : Option (List Byte)) (is : List Instr) : State :=
  ({ s with pending := is } : State).setPort p { s.port p with rx := rx }

variable {p : Side} {s : State}

theorem reading_self (h : (s.port p).rx = none) (is : List Instr) : s.reading p none is = { s with pending := is } := by
  have hp : ({ s.port p with rx := none } : Port) = s.port p := by rw [← h]
  rw [State.reading, hp]
  cases p <;> rfl

theorem rx_reading (o : Option (List Byte)) (is : List Instr) : ((s.reading p o is).port p).rx = o := by
  rw [State.reading, port_setPort, if_pos rfl]

/-- With no frame waiting for a free transmitter none is taken. -/
theorem begin_of_settled {x : Port} (h : x.Settled) : x.begin = x := by
  cases hs : x.sending with
  | none =>
    obtain ⟨hr, hn⟩ := h hs
    exact begin_nothing hs hr hn
  | some f => exact begin_sending hs

theorem reading_startSending (hs : s.PortsSettled) (o : Option (List Byte)) (is : List Instr) :
    (s.reading p o is).startSending = s.reading p o is := by
  obtain ⟨hB, hS⟩ := hs
  have hrx (x : Port) (hx : x.Settled) : ({ x with rx := o } : Port).begin = { x with rx := o } := begin_of_settled hx
  cases p with
  | barge => simp only [State.reading, State.startSending, State.setPort, State.port, hrx _ hB, begin_of_settled hS]
  | ship => simp only [State.reading, State.startSending, State.setPort, State.port, hrx _ hS, begin_of_settled hB]

/-- A byte is the command of its step. -/
theorem step_byte (hs : s.Ready) (o : Option (List Byte)) (b : Byte) (is : List Instr) :
    step (s.reading p o (.byteReceived p b :: is)) = .next (effect (takeByte p b) (s.reading p o is)).startSending := by
  have hp : (s.reading p o (.byteReceived p b :: is)).pending = .byteReceived p b :: is := by cases p <;> rfl
  have hrest : { s.reading p o (.byteReceived p b :: is) with pending := is } = s.reading p o is := by cases p <;> rfl
  have hon : (s.reading p o is).powered = true := by cases p <;> exact hs.1
  rw [step, hp]
  simp only [hrest]
  exact exec_on hon rfl

theorem reading_evals (hs : s.Ready) (o : Option (List Byte)) (is : List Instr) : (s.reading p o is).evals = [] := by
  cases p <;> exact hs.2

theorem modPort_reading (o r : Option (List Byte)) (is : List Instr) :
    (s.reading p o is).modPort p (fun x => { x with rx := r }) = s.reading p r is := by
  cases p <;> rfl

/-- A byte that only moves the frame in progress. -/
theorem step_byte_moves (hs : s.Ready) (hset : s.PortsSettled) {o r : Option (List Byte)} {b : Byte} {is : List Instr}
    (h : takeByte p b (s.reading p o is) = s.reading p r is) : step (s.reading p o (.byteReceived p b :: is)) = .next (s.reading p r is) := by
  rw [step_byte hs, effect_of_no_evals (by rw [h]; exact reading_evals hs ..), h, reading_startSending hset]

theorem takeByte_sync (is : List Instr) : takeByte p syncByte (s.reading p none is) = s.reading p (some []) is := by
  simp only [takeByte, rx_reading, if_true, modPort_reading]

theorem takeByte_more {bs : List Byte} {b : Byte} (is : List Instr) (h : judgeFrame (bs ++ [b]) = .more) :
    takeByte p b (s.reading p (some bs) is) = s.reading p (some (bs ++ [b])) is := by
  simp only [takeByte, rx_reading, h, modPort_reading]

theorem takeByte_discard {bs : List Byte} {b : Byte} (is : List Instr) (h : judgeFrame (bs ++ [b]) = .discard) :
    takeByte p b (s.reading p (some bs) is) = s.reading p none is := by
  simp only [takeByte, rx_reading, h, dropFrame, modPort_reading]

theorem run_step {s t : State} (h : step s = .next t) (n : Nat) : core.run (n + 1) s = core.run n t := by
  have hcore : core.step s = .next t := h
  simp only [Host.Core.run, hcore]

/-- Bytes that leave a frame incomplete join it one by one. -/
theorem run_more (hs : s.Ready) (hset : s.PortsSettled) (n : Nat) (is : List Instr) (xs bs : List Byte)
    (h : ∀ ys, ys <+: xs → ys ≠ [] → judgeFrame (bs ++ ys) = .more) :
    core.run (xs.length + n) (s.reading p (some bs) (xs.map (.byteReceived p) ++ is)) = core.run n (s.reading p (some (bs ++ xs)) is) := by
  induction xs generalizing bs with
  | nil => simp
  | cons x xs ih =>
    have hx : judgeFrame (bs ++ [x]) = .more := h [x] ⟨xs, rfl⟩ (by simp)
    have hstep := step_byte_moves hs hset (takeByte_more (s := s) (p := p) (xs.map (.byteReceived p) ++ is) hx)
    have hnext := ih (bs ++ [x]) fun ys hys hne => by
      rw [List.append_assoc]
      exact h (x :: ys) (List.cons_prefix_cons.mpr ⟨rfl, hys⟩) (by simp)
    rw [List.append_assoc] at hnext
    rw [List.length_cons, Nat.add_right_comm]
    exact (run_step hstep _).trans hnext

/-- A frame within the length that has not all its bytes. -/
theorem judgeFrame_short {len : Byte} {rest : List Byte} (hl : len.toNat ≤ 120) (h : rest.length < len.toNat + 3) :
    judgeFrame (len :: rest) = .more := by
  unfold judgeFrame
  simp only [maxBody, if_neg (Nat.not_lt.mpr hl), if_pos h]

/-- The bytes of a frame from SYNC on, but for the last: all are taken (R163). -/
theorem run_frame (hs : s.Ready) (hset : s.PortsSettled) (hrx : (s.port p).rx = none) {len : Byte} {rest : List Byte} {last : Byte}
    (hl : len.toNat ≤ 120) (hlen : rest.length = len.toNat + 2) :
    core.run (rest.length + 3) { s with pending := (syncByte :: len :: (rest ++ [last])).map (.byteReceived p) }
      = core.run 1 (s.reading p (some (len :: rest)) [.byteReceived p last]) := by
  have hsync := step_byte_moves hs hset (takeByte_sync (s := s) (p := p) ((len :: (rest ++ [last])).map (.byteReceived p)))
  have hmore := run_more hs hset (p := p) 1 [.byteReceived p last] (len :: rest) [] fun ys hys hne => by
    obtain ⟨zs, rfl⟩ : ∃ zs, ys = len :: zs := by
      cases ys with
      | nil => exact absurd rfl hne
      | cons y ys => exact ⟨ys, by rw [(List.cons_prefix_cons.mp hys).1]⟩
    have hle := (List.cons_prefix_cons.mp hys).2.length_le
    exact judgeFrame_short hl (by omega)
  rw [← reading_self hrx]
  refine (run_step hsync _).trans ?_
  simpa using hmore

theorem ofNat_length {body : List Byte} (h : body.length ≤ 120) : (BitVec.ofNat 8 body.length : Byte).toNat = body.length := by
  simp only [BitVec.toNat_ofNat]; omega

theorem judgeFrame_whole {kind : Byte} {body crc : List Byte} (h : body.length ≤ 120) (hc : crc.length = 2) :
    judgeFrame (BitVec.ofNat 8 body.length :: kind :: (body ++ crc))
      = if crc = crcBytes (BitVec.ofNat 8 body.length :: kind :: body) then .valid kind body else .discard := by
  have hn := ofNat_length h
  have hlong : ¬ (kind :: (body ++ crc)).length < body.length + 3 := by
    simp only [List.length_cons, List.length_append, hc]; omega
  unfold judgeFrame
  simp only [maxBody, hn, if_neg (Nat.not_lt.mpr h), if_neg hlong, List.take_left, List.drop_left]

/-- The frame's refresh drops the frame in progress, so it does not matter which it was. -/
theorem takeFrame_reading (o : Option (List Byte)) (kind : Byte) (body : List Byte) (hrx : (s.port p).rx = none) :
    takeFrame p kind body (s.reading p o []) = takeFrame p kind body { s with pending := [] } := by
  have hlink : refreshLink p (s.reading p o []) = refreshLink p (s.reading p none []) := by
    cases p <;> rfl
  rw [reading_self hrx] at hlink
  unfold takeFrame takeRequest takeUnassigned
  rw [hlink]

theorem crcBytes_eq (bs : List Byte) : ∃ a b, crcBytes bs = [a, b] := ⟨_, _, rfl⟩

theorem ofCode_code (k : RequestKind) : RequestKind.ofCode k.code = some k := by cases k <;> rfl

/-- Settles O8: fields, bodies and frames, each written and read back. -/
theorem framesAndBodiesAreReadWhole : Obligations.FramesAndBodiesAreReadWhole := by
  refine ⟨⟨fun tag r hr => ⟨decodeFields_encode r hr, rfl, ?_⟩, fun k body r h => ?_⟩, fun p kind body s hs hset hrx hb => ?_, fun p k body s => ?_⟩
  · have := encodeFields_length r
    simp only [encodeRequest, List.length_cons]; omega
  · cases body with
    | nil => cases h
    | cons t fs =>
      obtain ⟨hf, he⟩ := encodeFields_decode h
      exact ⟨kind_of_decode h, hf, by rw [encodeRequest, he]; rfl⟩
  · obtain ⟨a, b, hab⟩ := crcBytes_eq (BitVec.ofNat 8 body.length :: kind :: body)
    have hn := ofNat_length hb
    have hframe : encodeFrame kind body = syncByte :: BitVec.ofNat 8 body.length :: ((kind :: (body ++ [a])) ++ [b]) := by
      simp only [encodeFrame, hab]; simp
    have hlen : (kind :: (body ++ [a])).length = (BitVec.ofNat 8 body.length : Byte).toNat + 2 := by
      rw [hn]; simp only [List.length_cons, List.length_append, List.length_nil]
    have hwhole : judgeFrame ((BitVec.ofNat 8 body.length :: kind :: (body ++ [a])) ++ [b]) = .valid kind body := by
      have := judgeFrame_whole (kind := kind) (body := body) (crc := [a, b]) hb rfl
      rw [hab, if_pos rfl] at this
      simpa using this
    have hrun := run_frame hs hset hrx (last := b) (by rw [hn]; exact hb) hlen
    have htake : takeByte p b (s.reading p (some (BitVec.ofNat 8 body.length :: kind :: (body ++ [a]))) [])
        = takeFrame p kind body { s with pending := [] } := by
      simp only [takeByte, rx_reading, hwhole, takeFrame_reading _ _ _ hrx]
    have hcount : (encodeFrame kind body).length = (kind :: (body ++ [a])).length + 3 := by
      rw [hframe]; simp
    rw [hcount, hframe, hrun, run_step (step_byte hs _ b []), exec_on (show State.powered { s with pending := [] } = true from hs.1) rfl]
    have heff : effect (takeByte p b) (s.reading p (some (BitVec.ofNat 8 body.length :: kind :: (body ++ [a]))) [])
        = effect (commandEffect (.unassignedKindFrame p kind body)) { s with pending := [] } := by
      rw [effect, effect, htake]; rfl
    rw [heff]; rfl
  · have htake : takeFrame p k.code body = takeRequest p k body := by
      funext u
      simp only [takeFrame, ofCode_code]
    rw [exec_frameCommand]
    change whileOn s (withEvals (takeFrame p k.code body)) = _
    rw [htake]

/-- Settles O9: each discarded frame byte by byte, and the single bytes. -/
theorem discardedBytesLeaveEveryItem : Obligations.DiscardedBytesLeaveEveryItem := by
  refine ⟨fun p kind body crc s hs hset hrx hb hc hne => ?_, fun p len s hs hset hrx hlen => ?_,
    fun p s hs => ⟨fun b hrx => ?_, fun cause => ?_, ?_⟩⟩
  · obtain ⟨a, b, rfl⟩ : ∃ a b, crc = [a, b] := List.length_eq_two.mp hc
    have hn := ofNat_length hb
    have hlen : (kind :: (body ++ [a])).length = (BitVec.ofNat 8 body.length : Byte).toNat + 2 := by
      rw [hn]; simp only [List.length_cons, List.length_append, List.length_nil]
    have hbad : judgeFrame ((BitVec.ofNat 8 body.length :: kind :: (body ++ [a])) ++ [b]) = .discard := by
      have := judgeFrame_whole (kind := kind) (body := body) (crc := [a, b]) hb rfl
      rw [if_neg hne] at this
      simpa using this
    have hrun := run_frame hs hset hrx (last := b) (by rw [hn]; exact hb) hlen
    have hlast := step_byte_moves hs hset (takeByte_discard (s := s) (p := p) [] hbad)
    have hframe : syncByte :: BitVec.ofNat 8 body.length :: kind :: (body ++ [a, b])
        = syncByte :: BitVec.ofNat 8 body.length :: ((kind :: (body ++ [a])) ++ [b]) := by simp
    have hcount : body.length + 5 = (kind :: (body ++ [a])).length + 3 := by simp
    rw [hframe, hcount, hrun, run_step hlast, reading_self hrx]; rfl
  · have hsync := step_byte_moves hs hset (takeByte_sync (s := s) (p := p) [.byteReceived p len])
    have hbad : judgeFrame ([] ++ [len]) = .discard := if_pos hlen
    have hlast := step_byte_moves hs hset (takeByte_discard (s := s) (p := p) [] hbad)
    rw [reading_self hrx] at hsync
    rw [run_step hsync, run_step hlast, reading_self hrx]; rfl
  · refine exec_quiet hs.1 rfl ?_ ?_
    · simp only [commandEffect, takeByte, hrx]; rfl
    · split
      · cases p <;> exact hs.2
      · exact hs.2
  · exact exec_quiet hs.1 rfl rfl (by cases p <;> exact hs.2)
  · exact exec_quiet hs.1 rfl rfl (by cases p <;> exact hs.2)

/-! The Consent Queue's requests (R129 to R139): what PROPOSE and ENDORSE refuse, what joins the queue, what an adoption does. -/


variable {i : Instr} {p : Side} {k : RequestKind} {body : List Byte} {q : Proposal} {s u : State}

/-- A consent is a request that carries the adoption of its proposal out. -/
theorem Consents.handle (h : Consents i p k body q s) : ∃ r, i = frameCommand p k body ∧ permits k p = true
    ∧ decodeRequest k body = some r
    ∧ ∀ u : State, u.queue = s.queue → u.assigned q.body = s.assigned q.body → Machine.handle p r u = adopt q p u := by
  obtain ⟨⟨hfind, hside, hlo, hhi, hmay⟩, raw, hraw, ⟨rfl, rfl, hd⟩ | ⟨rfl, rfl, hd, has, hbody⟩⟩ := h
  · refine ⟨_, rfl, rfl, hd, fun u hu _ => ?_⟩
    have hne : q.side ≠ p := by rw [hside]; cases p <;> nofun
    simp only [Machine.handle, endorse, hraw, (inRange_iff 1 255 q.id).mpr ⟨hlo, hhi⟩, hu, hfind, if_true, if_neg hne, ne_eq,
      not_true_eq_false, if_false, hmay]
  · refine ⟨_, rfl, rfl, hd, fun u hu ha => ?_⟩
    have hne : q.side ≠ p := by rw [hside]; cases p <;> nofun
    simp only [Machine.handle, propose, hraw, ha, has, if_true, arrive, hu, hbody, if_neg hne, hmay]

theorem assigned_congr (h : u.entry = s.entry) (b : ProposalBody) : u.assigned b = s.assigned b := by
  cases b <;> simp [State.assigned, h]

theorem boundOf_congr (h : u.entry = s.entry) (b : ProposalBody) : u.boundOf b = s.boundOf b := by
  cases b <;> simp [State.boundOf, h]

/-! ### Arrival (R129 to R133) -/

/-- A PROPOSE that finds no equal body and room is placed in the queue (R131 row 4). -/
theorem propose_enqueues {raw : RawProposal} {b : ProposalBody} (hraw : proposalOf raw = some b) (ha : u.assigned b = true)
    (hnew : ∀ x ∈ u.queue.proposals, x.body ≠ b) (h8 : u.queue.proposals.length < 8) (h4 : (u.queue.ofSide p).length < 4) :
    propose p raw u = enqueue p b u := by
  have hfind : (u.queue.proposals.find? fun x => x.body == b) = none := List.find?_eq_none.mpr fun x hx => by simpa using hnew x hx
  simp only [propose, hraw, ha, if_true, arrive, hfind]
  exact if_neg (by omega)

/-- Settles O17: R132's id is free among at most eight. -/
theorem proposeJoinsTheTailUnderAFreeId : Obligations.ProposeJoinsTheTailUnderAFreeId := by
  intro p body raw b s hs hb hd hraw ha hnew h8 h4
  obtain ⟨hlen, -, -, -, -, hnext⟩ := hb
  let id := freeId (s.queue.proposals.map Proposal.id) 9 s.queue.nextId
  have hfree : id ∉ s.queue.proposals.map Proposal.id := freeId_not_mem hnext (by simpa using hlen)
  obtain ⟨hlo, hhi⟩ : 1 ≤ id ∧ id ≤ 255 := freeId_range 9 hnext
  refine ⟨{ id := id, side := p, body := b, bound := s.boundOf b, arrival := s.now, lapseAt := s.expiry s.config.device.consentWindow },
    rfl, hlo, hhi, fun x hx hxid => hfree (List.mem_map.mpr ⟨x, hx, hxid⟩), fun hn => ?_, ?_⟩
  · have hnot : s.queue.nextId ∉ s.queue.proposals.map Proposal.id := fun hm => by
      obtain ⟨x, hx, hxid⟩ := List.mem_map.mp hm
      exact hn x hx hxid
    exact if_neg hnot
  · refine does_of_handle (k := .propose) hs rfl hd hs.1.2 fun a b' => ?_
    have hprop := propose_enqueues (u := s.withPorts a b') (p := p) hraw ha hnew h8 h4
    rw [handle, hprop]; rfl

/-! ### Refusals (R130, R131, R134, R135) -/

/-- Settles O18: the rows of R131 and R134 in their order. -/
theorem proposeAndEndorseRefusals : Obligations.ProposeAndEndorseRefusals := by
  refine fun p body s hs => ⟨fun raw hd => ⟨fun hno => ?_, fun b hb ha => ⟨fun q hq => ⟨fun hside => ?_, fun hside hmay => ?_⟩, fun hq hroom => ?_⟩⟩,
    fun id raw hd => ⟨fun hno => ?_, fun b hb hid => ⟨fun hq => ?_, fun q hq => ⟨fun hside => ?_, fun hside hne => ?_, fun hside he hmay => ?_⟩⟩⟩⟩
  · refine refuses_of_handle (k := .propose) hs rfl hd fun a b => ?_
    simp only [handle, propose]
    split
    case h_1 b' hb' =>
      have hna : (s.withPorts a b).assigned b' = false := hno b' hb'
      rw [hna]; rfl
    case h_2 => rfl
  · refine refuses_of_handle (k := .propose) hs rfl hd fun a b' => ?_
    have ha' : (s.withPorts a b').assigned b = true := ha
    have hq' : ((s.withPorts a b').queue.proposals.find? fun x => x.body == b) = some q := hq
    simp only [handle, propose, hb, ha', if_true, arrive, hq', hside, refuse]
  · refine refuses_of_handle (k := .propose) hs rfl hd fun a b' => ?_
    have ha' : (s.withPorts a b').assigned b = true := ha
    have hq' : ((s.withPorts a b').queue.proposals.find? fun x => x.body == b) = some q := hq
    have hmay' : (s.withPorts a b').queue.mayAdopt q = false := hmay
    simp only [handle, propose, hb, ha', if_true, arrive, hq', if_neg hside, hmay', Bool.false_eq_true, if_false, refuse]
  · refine refuses_of_handle (k := .propose) hs rfl hd fun a b' => ?_
    have ha' : (s.withPorts a b').assigned b = true := ha
    have hq' : ((s.withPorts a b').queue.proposals.find? fun x => x.body == b) = none := hq
    simp only [handle, propose, hb, ha', if_true, arrive, hq', refuse]
    exact if_pos hroom
  · refine refuses_of_handle (k := .endorse) hs rfl hd fun a b => ?_
    simp only [handle, endorse]
    split
    case h_1 b' hb' =>
      obtain rfl := hno.resolve_left (by rw [hb']; nofun)
      rfl
    case h_2 => rfl
  all_goals
    have hrange : inRange 1 255 id = true := by
      have hlt : id < 256 := by
        have := (framesAndBodiesAreReadWhole.1.2 .endorse body _ hd).2.1
        simp only [Request.fits, Bool.and_eq_true, decide_eq_true_eq] at this
        exact this.1
      exact (inRange_iff 1 255 id).mpr ⟨Nat.one_le_iff_ne_zero.mpr hid, by omega⟩
    refine refuses_of_handle (k := .endorse) hs rfl hd fun a b' => ?_
  · have hq' : (s.withPorts a b').queue.find id = none := hq
    simp only [handle, endorse, hb, hrange, if_true, hq', refuse]
  · have hq' : (s.withPorts a b').queue.find id = some q := hq
    simp only [handle, endorse, hb, hrange, if_true, hq', hside, refuse]
  · have hq' : (s.withPorts a b').queue.find id = some q := hq
    simp only [handle, endorse, hb, hrange, if_true, hq', if_neg hside, ne_eq, hne, not_false_eq_true, refuse]
  · have hq' : (s.withPorts a b').queue.find id = some q := hq
    have hmay' : (s.withPorts a b').queue.mayAdopt q = false := hmay
    simp only [handle, endorse, hb, hrange, if_true, hq', if_neg hside, ne_eq, he, not_true_eq_false, if_false, hmay',
      Bool.false_eq_true, refuse]

/-! ### Adoption (R137 to R139) -/

/-- An adoption check does not look at the queue. -/
theorem reject_without (u : State) (x : ConsentQueue) (b : ProposalBody) : ({ u with queue := x } : State).reject b = u.reject b := by
  cases b <;> rfl

theorem adopt_rejected {r : Rejection} (h : u.reject q.body = some r) : adopt q p u
    = (noteProposal (.rejected p r) q { u with queue := u.queue.without q.id }, .done (.proposal q.id)) := by
  unfold adopt
  simp only [reject_without, h]

theorem adopt_carried (h : u.reject q.body = none) : adopt q p u
    = (carryOut q.body (noteProposal (.adopted p) q { u with queue := u.queue.without q.id }), .adopted q.id) := by
  unfold adopt
  simp only [reject_without, h]

/-- Settles O19: a failed check takes the proposal out and tells of it (R139). -/
theorem rejectedProposalOnlyLeavesTheQueue : Obligations.RejectedProposalOnlyLeavesTheQueue := by
  intro i p k body q r s hs hc hr
  obtain ⟨req, rfl, hp, hd, hh⟩ := hc.handle
  refine does_of_refreshed hs hp hd hs.1.2 ?_
  have hs1 := refreshLink_eq_withPorts p s
  rw [hh _ (by rw [hs1]; rfl) (assigned_congr (by rw [hs1]; rfl) _), adopt_rejected hr]
  generalize refreshLink p s = v at hs1
  rw [hs1]; rfl

/-- N-ENTRY of an entry just written (R17). -/
theorem noteEntry_of {ev : EntryEvent} {n : EntryId} {e : Entry} (h : u.entry n = some e) :
    noteEntry ev n u = raise (.entry ev (e.view n) u.now) u := by
  rw [noteEntry, h]

theorem entry_slots_set (x : Plan) (n : EntryId) (e : Entry) (m : Nat) (h : u.plan = { slots := x.slots.set n (some e), nextId := m }) :
    u.entry n = some e := by
  simp [State.entry, h, Vector.get_eq_getElem]

theorem adoptPlan_eq {c : Chan} {t : TankNo} {a r : Nat} {m : Mode} {n : EntryId} (hn : u.plan.nextId = n) : adoptPlan c t a r m u
    = raise (.entry .adopted ((Entry.fresh c t m a (u.clampRate c r) (if (u.current c).isNone then .await else .queued)).view n) u.now)
        { u with plan := u.plan.add n (Entry.fresh c t m a (u.clampRate c r) (if (u.current c).isNone then .await else .queued)) } := by
  have hof : entryOf u.plan.nextId = some n := by rw [hn]; exact entryOf_val n
  simp only [adoptPlan, hof]
  exact noteEntry_of (entry_slots_set u.plan n _ (u.plan.nextId + 1) rfl)

/-- The fresh entry of an adoption depends on the plan and the configuration only. -/
theorem adoptPlan_alike {c : Chan} {t : TankNo} {a r : Nat} {m : Mode} {n : EntryId} {s v : State} (hn : s.plan.nextId = n)
    (hplan : v.plan = s.plan) (hconfig : v.config = s.config) (hnow : v.now = s.now) {e : Entry}
    (he : Entry.fresh c t m a (s.clampRate c r) (if s.currentId c = none then .await else .queued) = e) :
    adoptPlan c t a r m v = raise (.entry .adopted (e.view n) s.now) { v with plan := s.plan.add n e } := by
  have hentry : v.entry = s.entry := by unfold State.entry; rw [hplan]
  have hclamp : v.clampRate c r = s.clampRate c r := by unfold State.clampRate State.chanConfig; rw [hconfig]
  rw [adoptPlan_eq (n := n) (by rw [hplan]; exact hn)]
  simp only [current_isNone_iff]
  rw [currentId_congr hentry, hclamp, he, hplan, hnow]

/-- Settles O20: the fresh entry of R6 in the next slot. -/
theorem adoptedPlanTakesTheNextSlot : Obligations.AdoptedPlanTakesTheNextSlot := by
  intro i p k body q c u a r m n s hs hc hb hrej hn e he
  obtain ⟨req, rfl, hp, hd, hh⟩ := hc.handle
  refine does_of_handle hs hp hd hs.1.2 fun x y => ?_
  have hnone : (s.withPorts x y).reject q.body = none := by rw [hb]; exact hrej
  have hfresh : Entry.fresh c u m a (s.clampRate c r) (if s.currentId c = none then .await else .queued) = e := by
    rw [he]; rfl
  rw [hh (s.withPorts x y) rfl (assigned_congr rfl _), adopt_carried hnone, hb, carryOut,
    adoptPlan_alike (s := s) hn ?_ ?_ ?_ hfresh, noteProposal, hb]
  all_goals rfl

/-! PROOFS. The adoptions that act on the part: START, CLEAR and INIT (R77, R156, R180). -/


variable {s u : State} {p : Side} {q : Proposal} {i : Instr} {k : RequestKind} {body : List Byte}

/-! ### The adoption of a proposal, its check passed (R137) -/

/-- The part as an adopted proposal is carried out: the link refreshed, the proposal out of the queue and N-PROPOSAL told. -/
def State.adopting (s : State) (p : Side) (q : Proposal) : State :=
  noteProposal (.adopted p) q { refreshLink p s with queue := (refreshLink p s).queue.without q.id }

theorem State.adopting_eq (s : State) (p : Side) (q : Proposal) : s.adopting p q
    = { s with queue := s.queue.without q.id, portB := (s.adopting p q).portB, portS := (s.adopting p q).portS } := by
  have h := refreshLink_eq_withPorts p s
  unfold State.adopting
  generalize refreshLink p s = v at h
  rw [h]; rfl

theorem State.ended_adopting (s : State) (p : Side) (q : Proposal) (x : Side) :
    ((s.adopting p q).port x).ended = ((refreshLink p s).port x).ended :=
  (noteProposal_writes (.adopted p) q { refreshLink p s with queue := (refreshLink p s).queue.without q.id }).ended_eq (by decide) x

/-- An adoption that makes `u` of the part, its ports apart, and hands on no evaluation. -/
theorem adoption (hs : s.Hears p) (hc : Consents i p k body q s) (hrej : (refreshLink p s).reject q.body = none) (hu : u.evals = [])
    (hh : carryOut q.body (s.adopting p q) = { u with
      portB := (carryOut q.body (s.adopting p q)).portB, portS := (carryOut q.body (s.adopting p q)).portS })
    (he : ∀ x, ((carryOut q.body (s.adopting p q)).port x).ended = ((s.adopting p q).port x).ended) :
    ∃ t : State, exec i s = .next t.startSending ∧ Answered p (bodyTag body) k.code (.adopted q.id) s t ∧ EndedKept s t
      ∧ t = { u with portB := t.portB, portS := t.portS } := by
  obtain ⟨r, rfl, hp, hd, hr⟩ := hc.handle
  have hs1 := refreshLink_eq_withPorts p s
  have hhandle : handle p r (refreshLink p s) = (carryOut q.body (s.adopting p q), .adopted q.id) :=
    (hr _ (by rw [hs1]; rfl) (assigned_congr (by rw [hs1]; rfl) _)).trans (adopt_carried hrej)
  have hmakes := request_makes hs hp hd hu (by rw [hhandle]; exact hh)
    (fun x => by rw [hhandle]; exact (he x).trans (s.ended_adopting p q x))
  rw [hhandle] at hmakes
  exact hmakes

/-! ### START (R77, R158) -/

/-- A channel's record as an adopted START leaves it. -/
def Channel.starting (k : Channel) : Channel :=
  { k with authorised := true, lastStop := k.lastStop.map fun l => { l with acknowledged := true } }

theorem setAuth_eq (c : Chan) (v : Bool) (s : State) : setAuth c v s
    = { s.modChan c (fun k => { k with authorised := v }) with portB := (setAuth c v s).portB, portS := (setAuth c v s).portS } := by
  unfold setAuth
  split
  case isTrue h => rw [modChan_self (by rw [← h])]
  case isFalse => rfl

theorem ended_setAuth (c : Chan) (v : Bool) (s : State) (x : Side) : ((setAuth c v s).port x).ended = (s.port x).ended := by
  unfold setAuth
  split
  · rfl
  · exact (noteChan_writes .auth c (s.modChan c fun k => { k with authorised := v })).ended_eq (by decide) x

/-- An adopted START where the start conditions do not hold: the record, and the horn judged. -/
theorem adoptStart_of_cannot {c : Chan} {w : State} (h : (judgeHorn none ((setAuth c true w).modChan c fun k =>
      { k with lastStop := k.lastStop.map fun l => { l with acknowledged := true } })).canStart c = false) :
    adoptStart c w = judgeHorn none ((setAuth c true w).modChan c fun k =>
      { k with lastStop := k.lastStop.map fun l => { l with acknowledged := true } }) :=
  judgeStart_of_cannot h

theorem started_record_eq (c : Chan) (w : State) : (setAuth c true w).modChan c (fun k =>
      { k with lastStop := k.lastStop.map fun l => { l with acknowledged := true } })
    = { w with channels := w.channels.set c (w.chan c).starting, portB := (setAuth c true w).portB, portS := (setAuth c true w).portS } := by
  have h := setAuth_eq c true w
  generalize setAuth c true w = v at h
  rw [h]
  simp [State.modChan, State.setChan, State.chan, Channel.starting, Vector.get_eq_getElem]

/-- Settles O22: the authorisation, the acknowledged stop and the horn's judgement; R78 starts nothing. -/
theorem adoptedStartAuthorisesTheChannel : Obligations.AdoptedStartAuthorisesTheChannel := by
  intro i p k body q c s hs hc hb hidle hnormal hready
  have hs1 := refreshLink_eq_withPorts p s
  have hrej : (refreshLink p s).reject q.body = none := by
    rw [hb, hs1]
    exact if_pos ⟨hidle, hnormal⟩
  have hw := s.adopting_eq p q
  generalize hX : (setAuth c true (s.adopting p q)).modChan c (fun k =>
    { k with lastStop := k.lastStop.map fun l => { l with acknowledged := true } }) = x
  have hx := started_record_eq c (s.adopting p q)
  rw [hX] at hx
  have hj := (judgeHorn_writes none x).only_trip
  have hcannot : (judgeHorn none x).canStart c = false := by
    refine Bool.eq_false_iff.mpr fun h => ?_
    obtain ⟨j, e, hcur, -, -, ha, hl, he, ht, -⟩ := canStart_cases h
    have hplan : (judgeHorn none x).plan = s.plan := by rw [hj, hx, hw]
    have htanks : (judgeHorn none x).tanks = s.tanks := by rw [hj, hx, hw]
    have hentry : (judgeHorn none x).entry = s.entry := by unfold State.entry; rw [hplan]
    rw [current_congr hentry] at hcur
    rw [show (judgeHorn none x).tank = s.tank by unfold State.tank; rw [htanks]] at ht
    exact hready j e hcur ⟨ha, hl, he, ht⟩
  have hstart : carryOut q.body (s.adopting p q) = judgeHorn none x := by
    rw [hb, ← hX]
    exact adoptStart_of_cannot (by rw [hX]; exact hcannot)
  have hended (y : Side) : ((judgeHorn none x).port y).ended = ((s.adopting p q).port y).ended := by
    rw [(judgeHorn_writes none x).ended_eq (by decide) y, ← hX]
    exact ended_setAuth c true _ y
  have hhorn := hornOnly_judgeHorn none x
  have hclass := horn_judgeHorn none x
  have hxtrip : x.trip = s.trip := by rw [hx, hw]
  obtain ⟨t, hexec, hans, hkept, ht⟩ := adoption (u := { s with
    queue := s.queue.without q.id, channels := s.channels.set c (s.chan c).starting, trip := (judgeHorn none x).trip })
    hs hc hrej hs.1.2 (by rw [hstart, hj, hx, hw]; rfl) (by rw [hstart]; exact hended)
  have htrip : t.trip = (judgeHorn none x).trip := by rw [ht]
  refine ⟨t, hexec, hans, hkept, ?_, ?_, ?_⟩
  · rw [htrip]; exact ht
  · rw [htrip, ← hxtrip]; exact hhorn
  · rw [htrip, hclass]
    have hstate : t.trip.state = x.trip.state := by rw [htrip, hhorn]
    have hcautions : t.trip.cautions = x.trip.cautions := by rw [htrip, hhorn]
    have hchan : t.chan = x.chan := by unfold State.chan; rw [ht, hx, hw]; rfl
    unfold State.hornClass
    rw [hstate, hcautions, hchan]

/-! PROOFS. The adopted CLEAR (R156). -/


variable {s t u : State} {p : Side} {q : Proposal} {i : Instr} {k : RequestKind} {body : List Byte}

/-- Writes of hold sets and notices leave every other item. -/
theorem Writes.only_lift (h : Writes [.lift, .notices] s t) : t = { s with channels := t.channels, portB := t.portB, portS := t.portS } := by
  refine h.keeps (I := fun u => u = { s with channels := u.channels, portB := u.portB, portS := u.portS }) (fun p hp u v hw hu => ?_) rfl
  simp only [List.mem_cons, List.not_mem_nil, or_false] at hp
  rcases hp with rfl | rfl
  · cases hw with
    | lift c x _ => rw [hu]; rfl
  · cases hw with
    | notice n _ => rw [hu]; rfl

theorem ended_clearRecord (s : State) (x : Side) : ((clearRecord s).port x).ended = (s.port x).ended := by
  rcases port_clearRecord s x with h | ⟨n, h⟩
  · rw [h]
  · rw [h]; exact ended_offer ..

/-- Both pauses gone from a hold set (R156 step 4). -/
def HoldSet.unpaused (h : HoldSet) : HoldSet := { h with pauseB := false, pauseS := false }

theorem Channel.holdsWithout_pauses {k : Channel} (h : k.state ≠ .held) : k.holdsWithout [.pauseB, .pauseS] = k.holds.unpaused := by
  simp only [Channel.holdsWithout, h, decide_false, Bool.false_and, Bool.false_eq_true, if_false]
  rfl

theorem chan_liftAll (s : State) (c : Chan) : (chans.foldl (fun x c => liftPauses c x) s).chan c
    = { s.chan c with holds := (s.chan c).holdsWithout [.pauseB, .pauseS] } :=
  foldl_chans_each (f := fun x c => liftPauses c x) (π := fun x d => x.chan d)
    (g := fun k => { k with holds := k.holdsWithout [.pauseB, .pauseS] }) (fun s c d => by
      rw [liftPauses, chan_removeHolds]) s c

theorem afterClear_of_cannot {w : State}
    (h : ∀ c, (noteTrip .state (noteTrip .cleared (judgeHorn none w))).canStart c = false) :
    afterClear w = noteTrip .state (noteTrip .cleared (judgeHorn none w)) :=
  foldl_self (f := fun x c => judgeStart c x) (fun c => judgeStart_of_cannot (h c)) chans

/-- Steps 5 and 6 of R156 leave all but the horn and its notices. -/
theorem clearTold_writes (w : State) : Writes [.trip, .notices] w (noteTrip .state (noteTrip .cleared (judgeHorn none w))) :=
  (judgeHorn_writes none w).then ((noteTrip_writes ..).then (noteTrip_writes ..) (R := [.trip, .notices]))

/-- No channel of a tripped part can start when its record is emptied: its authorisation went with the trip (R147, R156). -/
theorem canStart_of_unauthorised {c : Chan} (h : (s.chan c).authorised = false) : s.canStart c = false :=
  Bool.eq_false_iff.mpr fun hc => by
    obtain ⟨_, _, _, _, ha, _⟩ := canStart_cases hc
    rw [h] at ha
    cases ha

/-- Where every valve is commanded closed and no channel holds a grant, the regrant of a CLEAR gives nothing (R108). -/
theorem clearLifted_of_shut (h : ∀ c, (s.chan c).state.command = .toClose ∧ (s.chan c).grant = 0) :
    clearLifted s = chans.foldl (fun x c => liftPauses c x) (clearRecord s) := by
  have hchan (c : Chan) : (clearRecord s).chan c = s.chan c := by rw [State.chan, clearRecord_eq]; rfl
  have hgrants : (chans.foldl (fun x c => liftPauses c x) (clearRecord s)).GrantsOk := grantsOk_of_resting fun c => by
    rw [chan_liftAll, hchan]
    refine ⟨⟨fun hf => ?_, fun hf => ?_⟩, (h c).2⟩
    all_goals have hc := (h c).1; rw [show (s.chan c).state = _ from hf] at hc; cases hc
  have hidle : (chans.foldl (fun x c => liftPauses c x) (clearRecord s)).header.state = .idle := by
    rw [(lifted_writes _).header_eq, clearRecord_header]
  rw [clearLifted, regrant_of_not_serving (by rw [hidle]; decide) hgrants]
  rfl

/-- Settles O23: the record emptied, the pauses lifted and the horn judged; without authorisations R78 starts nothing. -/
theorem adoptedClearEndsTheShutdown : Obligations.AdoptedClearEndsTheShutdown := by
  intro i p k body q code s hs hshut hgrants hheader hbounded hc hb hreject
  have hrej : (refreshLink p s).reject q.body = none := by rw [hb]; exact hreject
  have hs1 := refreshLink_eq_withPorts p s
  obtain ⟨-, f, hf, -, -⟩ := clearReject_cases hreject
  have htripped : s.trip.state ≠ .normal := fun hn => by
    have hfirst := (hbounded.2.1 hn).1
    rw [hs1] at hf
    rw [show s.trip.firstOut = some f from hf] at hfirst
    cases hfirst
  have hzero (c : Chan) : (s.chan c).grant = 0 := hgrants.2.1 (by rw [hheader.mpr htripped]; decide) c
  have hw := s.adopting_eq p q
  have hchan (c : Chan) : (s.adopting p q).chan c = s.chan c := by rw [State.chan, hw]; rfl
  generalize hW : s.adopting p q = w at hw hchan
  have hlift := clearLifted_of_shut (s := w) fun c => by rw [hchan]; exact ⟨(hshut htripped c).1, hzero c⟩
  generalize hx : clearLifted w = x at hlift
  have hxw := (lifted_writes (clearRecord w)).only_lift
  rw [← hlift, clearRecord_eq] at hxw
  have hxchan (c : Chan) : x.chan c = { s.chan c with holds := (s.chan c).holds.unpaused } := by
    have hheld : (s.chan c).state ≠ .held := fun h => by
      have := (hshut htripped c).1
      rw [h] at this; cases this
    rw [hlift, chan_liftAll, show (clearRecord w).chan c = s.chan c by rw [← hchan c, State.chan, clearRecord_eq]; rfl,
      Channel.holdsWithout_pauses hheld]
  have htold := clearTold_writes x
  generalize hT : noteTrip .state (noteTrip .cleared (judgeHorn none x)) = y at htold
  have hy := htold.only_trip
  have hychan (c : Chan) : y.chan c = x.chan c := by rw [State.chan, hy]; rfl
  have hclear : carryOut q.body w = y := by
    rw [hb, carryOut, adoptClear_eq, hx, afterClear_of_cannot, hT]
    intro c
    rw [hT]
    exact canStart_of_unauthorised (by rw [hychan, hxchan]; exact (hshut htripped c).2)
  have hended (z : Side) : (y.port z).ended = (w.port z).ended := by
    rw [htold.ended_eq (by decide) z, hlift, (lifted_writes (clearRecord w)).ended_eq (by decide) z, ended_clearRecord]
  have hytrip : y.trip.HornOnly x.trip := by
    rw [← hT]; exact hornOnly_judgeHorn none x
  have hyhorn : y.trip.horn = x.hornClass := by
    rw [← hT]; exact horn_judgeHorn none x
  have hxtrip : x.trip = { s.trip with
      firstOut := none, later := [], more := false, unproven := Vector.replicate 4 false, state := .normal } := by
    rw [hxw, clearRecord_trip, hw]
  have hyall : y = { s with
      queue := s.queue.without q.id, channels := x.channels, header := { s.header with state := .idle }, trip := y.trip
      portB := y.portB, portS := y.portS } := by
    rw [hy, hxw, clearRecord_header, hw]
  obtain ⟨t, hexec, hans, hkept, ht⟩ := adoption (u := { s with
    queue := s.queue.without q.id, channels := x.channels, header := { s.header with state := .idle }, trip := y.trip })
    hs hc hrej hs.1.2 (by rw [hW, hclear]; exact hyall) (by rw [hW, hclear]; exact hended)
  have htrip : t.trip = y.trip := by rw [ht]
  have htchan : t.chan = x.chan := by unfold State.chan; rw [ht]
  refine ⟨t, hexec, hans, hkept, ?_, fun c => by rw [htchan, hxchan]; rfl, ?_, ?_⟩
  · rw [htrip, show t.channels = x.channels by rw [ht]]; exact ht
  · rw [htrip, ← hxtrip]; exact hytrip
  · rw [htrip, hyhorn]
    unfold State.hornClass
    rw [htchan, htrip, show y.trip.state = x.trip.state by rw [hytrip], show y.trip.cautions = x.trip.cautions by rw [hytrip]]

/-! PROOFS. The adopted INIT (R180, R142). -/


variable {s t u : State} {p : Side} {q : Proposal} {i : Instr} {k : RequestKind} {body : List Byte}

/-! ### Cautions taken off (R159) -/

/-- Only the horn, the mute and some cautions gone. -/
def Trip.Quietened (t u : Trip) : Prop := u.HornOnly { t with cautions := u.cautions } ∧ u.cautions.Sublist t.cautions

theorem Trip.Quietened.refl (t : Trip) : t.Quietened t := ⟨rfl, List.Sublist.refl _⟩

theorem Trip.Quietened.trans {t x y : Trip} (h : t.Quietened x) (g : x.Quietened y) : t.Quietened y :=
  ⟨h.1.cautions g.1, g.2.trans h.2⟩

theorem quietened_cautionOff (k : Caution) (s : State) : s.trip.Quietened (cautionOff k s).trip :=
  ⟨hornOnly_cautionOff k s, by rw [cautions_cautionOff]; exact List.filter_sublist⟩

theorem quietened_setHighSoon (c : Chan) (s : State) : s.trip.Quietened (setHighSoon c false s).trip := by
  unfold setHighSoon
  split
  · exact .refl _
  · exact quietened_cautionOff _ (s.modChan c _)

theorem quietened_setStrain (c : Chan) (s : State) : s.trip.Quietened (setStrain c false s).trip := by
  unfold setStrain
  split
  · exact .refl _
  · exact quietened_cautionOff _ (s.modChan c _)

theorem quietened_setUnmetered (c : Chan) (t : TankNo) (s : State) : s.trip.Quietened (setUnmetered c t false s).trip := by
  unfold setUnmetered
  split
  · exact .refl _
  · exact quietened_cautionOff _ (s.modMeter c _)

theorem quietened_setGaugeStep (t : TankNo) (s : State) : s.trip.Quietened (setGaugeStep t false s).trip := by
  unfold setGaugeStep
  split
  · exact .refl _
  · exact quietened_cautionOff _ (s.modTank t _)

theorem quietened_foldl {α : Type} {f : State → α → State} (h : ∀ (s : State) a, s.trip.Quietened (f s a).trip) (xs : List α) (s : State) :
    s.trip.Quietened (xs.foldl f s).trip := by
  induction xs generalizing s with
  | nil => exact .refl _
  | cons a xs ih => exact (h s a).trans (ih _)

/-! ### The tanks and channels cleared (R180 steps 1 and 2) -/

theorem tank_setGaugeStep (t : TankNo) (v : Bool) (s : State) (x : TankNo) :
    (setGaugeStep t v s).tank x = if t = x then { s.tank t with gaugeStep := v } else s.tank x := by
  unfold setGaugeStep
  split
  case isTrue h => split <;> simp_all [← h]
  case isFalse => rw [(setCaution_writes (by simp) ..).tank_eq, tank_modTank]

theorem chan_setStrain (c : Chan) (v : Bool) (s : State) (d : Chan) :
    (setStrain c v s).chan d = if c = d then { s.chan c with strain := v } else s.chan d := by
  unfold setStrain
  split
  case isTrue h => split <;> simp_all [← h]
  case isFalse => rw [(setCaution_writes (by simp) ..).chan_eq, chan_modChan]

theorem tank_clearTank (t : TankNo) (s : State) (x : TankNo) : (clearTank t s).tank x = if t = x then Tank.blank else s.tank x := by
  rw [clearTank, tank_setTank, tank_setGaugeStep]
  split <;> rfl

/-- A channel's record as an INIT leaves it, its cautions off (R180 step 2). -/
def Channel.cleared (k : Channel) : Channel :=
  { k.initialised with highSoon := false, strain := false, meter := { k.initialised.meter with unmeteredGain := false } }

theorem chan_clearChannel (c : Chan) (s : State) (d : Chan) :
    (clearChannel c s).chan d = if c = d then (s.chan c).cleared else s.chan d := by
  rw [clearChannel, chan_setUnmetered]
  simp only [chan_setStrain, chan_setHighSoon, chan_modChan, if_true]
  by_cases h : c = d
  · simp only [h, if_true]; rfl
  · simp only [h, if_false]

theorem mem_tankNos (t : TankNo) : t ∈ tankNos := by revert t; decide

theorem tank_clearAll (s : State) (x : TankNo) : (tankNos.foldl (fun x t => clearTank t x) s).tank x = Tank.blank := by
  have hkept (ts : List TankNo) (s : State) (h : s.tank x = Tank.blank) : (ts.foldl (fun x t => clearTank t x) s).tank x = Tank.blank := by
    induction ts generalizing s with
    | nil => exact h
    | cons t ts ih => exact ih _ (by rw [tank_clearTank]; split <;> simp [h])
  have hhit (ts : List TankNo) (hx : x ∈ ts) (s : State) : (ts.foldl (fun x t => clearTank t x) s).tank x = Tank.blank := by
    induction ts generalizing s with
    | nil => cases hx
    | cons t ts ih =>
      rcases List.mem_cons.mp hx with rfl | h
      · exact hkept ts _ (by rw [tank_clearTank, if_pos rfl])
      · exact ih h _
  exact hhit tankNos (mem_tankNos x) s

theorem chan_clearAll (s : State) (c : Chan) : (chans.foldl (fun x c => clearChannel c x) s).chan c = (s.chan c).cleared :=
  foldl_chans_each (f := fun x c => clearChannel c x) (π := fun x d => x.chan d) (g := Channel.cleared)
    (fun s c d => by rw [chan_clearChannel]) s c

/-! ### The steps of R180 together -/

/-- The tanks' part of step 1. -/
theorem clearTanks_writes (u : State) : Writes [.reset, .tanks, .trip, .notices] u (tankNos.foldl (fun x t => clearTank t x) u) := by
  refine Writes.foldl (fun x t => ?_) _ _
  have hreset (u : State) : Writes [.reset] u (u.setTank t Tank.blank) := (Write.reset t u).writes
  exact (setGaugeStep_writes t false x).then (hreset _)

theorem clearChannels_writes (u : State) : Writes [.chans, .trip, .notices] u (chans.foldl (fun x c => clearChannel c x) u) :=
  Writes.foldl (fun x c => clearChannel_writes c x) _ _

theorem quietened_initCleared (s : State) : s.trip.Quietened (initCleared s).trip := by
  have htank (t : TankNo) (x : State) : x.trip.Quietened (clearTank t x).trip := quietened_setGaugeStep t x
  have hchan (c : Chan) (x : State) : x.trip.Quietened (clearChannel c x).trip :=
    (quietened_setHighSoon c (x.modChan c Channel.initialised)).trans
      ((quietened_setStrain c _).trans (quietened_setUnmetered c _ _))
  have hout : s.trip.Quietened (withdrawWhere (fun _ => true) .init s).trip := by
    rw [(withdrawWhere_writes (fun _ => true) .init s).trip_eq]
    exact .refl _
  exact hout.trans ((quietened_foldl (fun x t => htank t x) tankNos { withdrawWhere (fun _ => true) .init s with plan := Plan.blank }).trans
    (quietened_foldl (fun x c => hchan c x) chans _))

theorem chan_initCleared (s : State) (c : Chan) : (initCleared s).chan c = (s.chan c).cleared := by
  rw [initCleared, chan_clearAll, (clearTanks_writes _).chan_eq]
  exact congrArg (fun f : Chan → Channel => (f c).cleared) (withdrawWhere_writes (fun _ => true) .init s).chan_eq

theorem tanks_initCleared (s : State) : (initCleared s).tanks = Vector.replicate 12 Tank.blank := by
  refine tanks_ext (s := { s with tanks := Vector.replicate 12 Tank.blank }) fun t => ?_
  rw [initCleared, (clearChannels_writes _).tank_eq, tank_clearAll]
  simp [State.tank, Vector.get_eq_getElem]

theorem plan_initCleared (s : State) : (initCleared s).plan = Plan.blank := by
  rw [initCleared, (clearChannels_writes _).plan_eq, (clearTanks_writes _).plan_eq]

theorem queue_initCleared (s : State) : (initCleared s).queue = { proposals := [], nextId := s.queue.nextId } := by
  rw [initCleared, (clearChannels_writes _).queue_eq, (clearTanks_writes _).queue_eq]
  exact (withdrawWhere_queue ..).trans (by simp)

theorem initCleared_rest (s : State) : initCleared s = { s with
    plan := (initCleared s).plan, tanks := (initCleared s).tanks, channels := (initCleared s).channels, queue := (initCleared s).queue
    trip := (initCleared s).trip, portB := (initCleared s).portB, portS := (initCleared s).portS } := by
  refine (initCleared_writes s).keeps (I := fun u => u = { s with
    plan := u.plan, tanks := u.tanks, channels := u.channels, queue := u.queue, trip := u.trip, portB := u.portB, portS := u.portS })
    (fun p hp u v hw hu => ?_) rfl
  simp only [List.mem_cons, List.not_mem_nil, or_false] at hp
  have hframe (hv : v = { u with
      plan := v.plan, tanks := v.tanks, channels := v.channels, queue := v.queue, trip := v.trip
      portB := v.portB, portS := v.portS }) : v = { s with
      plan := v.plan, tanks := v.tanks, channels := v.channels, queue := v.queue, trip := v.trip
      portB := v.portB, portS := v.portS } := by
    rw [hu] at hv
    exact hv
  rcases hp with rfl | rfl | rfl | rfl | rfl | rfl | rfl
  all_goals cases hw; exact hframe rfl

/-- Step 4 of R180 tells, and changes nothing. -/
theorem initNoted_tells (s u : State) : Writes [.notices] (u.modHeader fun h => h.initialised u.trip.state u.config) (initNoted s u) := by
  have hnotes (v : State) : Writes [.notices] v (chans.foldl (fun x c => noteCleared s c x) v) :=
    Writes.foldl (fun x c => noteCleared_writes s c x) _ _
  have hstate (v : State) := Writes.ite (b := s.header.state = v.header.state) (.refl v) (noteHeader_writes .state v)
  have horder (v : State) := Writes.ite (b := s.header.high = v.header.high ∧ s.header.low = v.header.low) (.refl v)
    (noteHeader_writes .order v)
  exact (hnotes _).then ((hstate _).then (horder _) (R := [.notices]))

theorem adoptInit_made (s : State) : adoptInit s = { s with
    plan := Plan.blank, tanks := Vector.replicate 12 Tank.blank, queue := { proposals := [], nextId := s.queue.nextId }
    header := s.header.initialised s.trip.state s.config, channels := (initCleared s).channels, trip := (initCleared s).trip
    portB := (adoptInit s).portB, portS := (adoptInit s).portS } := by
  have hstate : (initCleared s).trip.state = s.trip.state := by rw [(quietened_initCleared s).1]
  have hrest := initCleared_rest s
  rw [plan_initCleared, tanks_initCleared, queue_initCleared] at hrest
  have htold := (initNoted_tells s (initCleared s)).only_ports
  rw [← adoptInit_eq, State.modHeader, hstate] at htold
  generalize initCleared s = u at hrest htold ⊢
  rw [htold, hrest]

theorem ended_adoptInit (s : State) (x : Side) : ((adoptInit s).port x).ended = (s.port x).ended := by
  have hclear : ((initCleared s).port x).ended = (s.port x).ended := (initCleared_writes s).ended_eq (by decide) x
  have hmod (u : State) (f : Header → Header) : ((u.modHeader f).port x).ended = (u.port x).ended := by cases x <;> rfl
  rw [adoptInit_eq, (initNoted_tells s _).ended_eq (by decide) x, hmod, hclear]

/-- Settles O24. -/
theorem adoptedInitClearsPlanTanksAndQueue : Obligations.AdoptedInitClearsPlanTanksAndQueue := by
  intro i p k body q s hs hc hb hrest
  have hw := s.adopting_eq p q
  have hrej : (refreshLink p s).reject q.body = none := by
    have hs1 := refreshLink_eq_withPorts p s
    rw [hb, hs1]
    exact if_pos (List.all_eq_true.mpr fun c _ => hrest c)
  have hinit : carryOut q.body (s.adopting p q) = adoptInit (s.adopting p q) := by rw [hb, carryOut]
  have hended := ended_adoptInit (s.adopting p q)
  have hmade := adoptInit_made (s.adopting p q)
  have hchan (c : Chan) : (initCleared (s.adopting p q)).chan c = (s.chan c).cleared := by
    rw [chan_initCleared, State.chan, hw]; rfl
  have hquiet := quietened_initCleared (s.adopting p q)
  rw [show (s.adopting p q).trip = s.trip by rw [hw]] at hquiet
  generalize initCleared (s.adopting p q) = x at hmade hchan hquiet
  generalize adoptInit (s.adopting p q) = y at hinit hended hmade
  have hy : y = { s with
      plan := Plan.blank, tanks := Vector.replicate 12 Tank.blank, queue := { proposals := [], nextId := s.queue.nextId }
      header := s.header.initialised s.trip.state s.config, channels := x.channels, trip := x.trip
      portB := y.portB, portS := y.portS } := by
    generalize s.adopting p q = w at hw hmade
    rw [hmade, hw]; rfl
  obtain ⟨t, hexec, hans, hkept, ht⟩ := adoption (u := { s with
    plan := Plan.blank, tanks := Vector.replicate 12 Tank.blank, queue := { proposals := [], nextId := s.queue.nextId }
    header := s.header.initialised s.trip.state s.config, channels := x.channels, trip := x.trip }) hs hc hrej hs.1.2
    (by rw [hinit]; exact hy) (by rw [hinit]; exact hended)
  have htrip : t.trip = x.trip := by rw [ht]
  refine ⟨t, hexec, hans, hkept, ?_, fun c => ?_, ?_, ?_⟩
  · rw [htrip, show t.channels = x.channels by rw [ht]]; exact ht
  · rw [State.chan, ht]; exact hchan c
  · rw [htrip]; exact hquiet.1
  · rw [htrip]; exact hquiet.2

/-! PROOFS. The requests that declare a tank, replace the configuration, and arm, mask or drain a channel (R19, R73, R85, R95, R98, R112). -/


variable {P : List Part} {s t u : State} {p : Side} {k : RequestKind} {body : List Byte} {r : Request}

/-! ### What a request makes -/

/-- The items a consequence may write; the rest is the given part (R75, R175) and the store. -/
def Item.Plant (i : Item) : Prop :=
  i = .channels ∨ i = .tanks ∨ i = .plan ∨ i = .header ∨ i = .trip ∨ i = .queue ∨ i = .evals ∨ i = .ports

theorem Writes.only_plant (h : Writes P s t) (hP : ∀ p ∈ P, p.item.Plant := by unfold Item.Plant; decide) : t = { s with
    channels := t.channels, tanks := t.tanks, plan := t.plan, header := t.header, trip := t.trip, queue := t.queue
    evals := t.evals, portB := t.portB, portS := t.portS } := by
  have hnot (i : Item) (hi : ¬ i.Plant) : ∀ p ∈ P, p.item ≠ i ∧ p.item ≠ .many := fun p hp =>
    ⟨fun he => hi (he ▸ hP p hp), fun he => by have := hP p hp; rw [he] at this; simp [Item.Plant] at this⟩
  have hsame (i : Item) (hi : ¬ i.Plant) : i.Same s t := h.leaves i (hnot i hi)
  have h1 : t.powered = s.powered := hsame .powered (by simp [Item.Plant])
  have h2 : t.now = s.now := hsame .now (by simp [Item.Plant])
  have h3 : t.cursor = s.cursor := hsame .cursor (by simp [Item.Plant])
  have h4 : t.config = s.config := hsame .config (by simp [Item.Plant])
  have h5 : t.store = s.store := hsame .store (by simp [Item.Plant])
  have h6 : t.freeCount = s.freeCount := hsame .freeCount (by simp [Item.Plant])
  have h7 : t.pending = s.pending := hsame .pending (by simp [Item.Plant])
  rw [← h1, ← h2, ← h3, ← h4, ← h5, ← h6, ← h7]

/-- A request, said of whatever its rule makes of the part with its link refreshed, when that hands on no evaluation and sets no ended
flag. -/
theorem request_made {result : Result} {Q : State → Prop} (hs : s.Hears p) (hp : permits k p = true) (hd : decodeRequest k body = some r)
    (hv : ∀ x y, ∃ v, handle p r (s.withPorts x y) = (v, result) ∧ v.evals = []
      ∧ (∀ q, (v.port q).ended = ((s.withPorts x y).port q).ended) ∧ Q v) :
    ∃ t v : State, exec (frameCommand p k body) s = .next t.startSending ∧ Answered p (bodyTag body) k.code result s t
      ∧ EndedKept s t ∧ Q v ∧ t = { v with portB := t.portB, portS := t.portS } := by
  obtain ⟨v, hv, hev, hended, hq⟩ := hv (refreshLink p s).portB (refreshLink p s).portS
  rw [← refreshLink_eq_withPorts] at hv hended
  have hmade := request_makes (u := v) hs hp hd hev (by rw [hv]) (by rw [hv]; exact hended)
  rw [hv] at hmade
  obtain ⟨t, hexec, hans, hkept, ht⟩ := hmade
  exact ⟨t, v, hexec, hans, hkept, hq, ht⟩

/-! ### TANKDEF (R19, R20) -/

theorem tank_setAbove (t : TankNo) (v : Bool) (s : State) (x : TankNo) :
    (setAbove t v s).tank x = if t = x then { s.tank t with aboveTable := v } else s.tank x := by
  unfold setAbove
  split
  case isTrue h => split <;> simp_all [← h]
  case isFalse => rw [(noteTank_writes ..).tank_eq, tank_modTank]

/-- A tank's record with its window flushed (R42). -/
def Tank.flushed (k : Tank) : Tank := { k with window := [], stale := false, staleTimer := none, aboveTable := false }

theorem tank_flushWindow (t : TankNo) (s : State) (x : TankNo) :
    (flushWindow t s).tank x = if t = x then (s.tank t).flushed else s.tank x := by
  rw [flushWindow, tank_setAbove]
  simp only [tank_modTank, if_true]
  split <;> rfl

/-- The tank's record as an accepted TANKDEF leaves it (R20, R34). -/
def Tank.redeclared (k : Tank) (d : TankDecl) : Tank := { (k.declare d).flushed with gaugeStep := false }

theorem tank_declareTank (t : TankNo) (d : TankDecl) (s : State) (x : TankNo) :
    (declareTank t d s).tank x = if t = x then (s.tank t).redeclared d else s.tank x := by
  unfold declareTank
  rw [(noteTank_writes ..).tank_eq, (noteLevelChange_writes ..).tank_eq, tank_setGaugeStep]
  simp only [tank_flushWindow, tank_modTank, if_true]
  split <;> rfl

theorem noteDeclared_writes (t : TankNo) (b : LevelState) (x : Option Origin) (s : State) :
    Writes [.notices] s (noteTank .defined t (noteLevelChange t b x none s)) :=
  (noteLevelChange_writes ..).then (noteTank_writes ..)

theorem quietened_declareTank (t : TankNo) (d : TankDecl) (s : State) : s.trip.Quietened (declareTank t d s).trip := by
  have hflush : (flushWindow t (s.modTank t fun k => k.declare d)).trip = s.trip := (flushWindow_writes ..).trip_eq
  unfold declareTank
  rw [(noteDeclared_writes ..).trip_eq, ← hflush]
  exact quietened_setGaugeStep t _

theorem trip_declareTank (t : TankNo) (d : TankDecl) (s : State) (h : (s.tank t).gaugeStep = false) : (declareTank t d s).trip = s.trip := by
  have hflush : (flushWindow t (s.modTank t fun k => k.declare d)).trip = s.trip := (flushWindow_writes ..).trip_eq
  have hstep : ((flushWindow t (s.modTank t fun k => k.declare d)).tank t).gaugeStep = false := by
    simp only [tank_flushWindow, tank_modTank, if_true]; exact h
  unfold declareTank
  rw [(noteDeclared_writes ..).trip_eq, setGaugeStep, if_pos hstep, hflush]

theorem declareTank_made (t : TankNo) (d : TankDecl) (s : State) : declareTank t d s = { s with
    tanks := s.tanks.set t ((s.tank t).redeclared d), trip := (declareTank t d s).trip
    portB := (declareTank t d s).portB, portS := (declareTank t d s).portS } := by
  have hw := declareTank_writes t d s
  have htanks : (declareTank t d s).tanks = s.tanks.set t ((s.tank t).redeclared d) :=
    tanks_ext (s := s.setTank t ((s.tank t).redeclared d)) fun x => by rw [tank_declareTank, tank_setTank]
  have h := hw.only_plant
  rw [hw.channels_eq, hw.plan_eq, hw.header_eq, hw.queue_eq, hw.evals_eq, htanks] at h
  exact h

/-- The order of the alarm levels makes the second the one that decides (R18, R19). -/
theorem TankDecl.hi_le {d : TankDecl} (h : d.ok = true) : d.hHi ≤ d.hHihi := by
  simp only [TankDecl.ok, Bool.and_eq_true, decide_eq_true_eq] at h
  omega

/-- Settles O38: the checks of R19 in order, and the declaration of R20. -/
theorem tankdefDeclaresTheTank : Obligations.TankdefDeclaresTheTank := by
  intro body u d s hs hd
  refine ⟨fun hok => ?_, fun hok huse => ?_, fun hok huse htop => ?_, fun hok huse htop => ?_⟩
  · refine refuses_of_handle (k := .tankdef) hs rfl hd fun a b => ?_
    simp [handle, doTankdef, tankOf_val, hok]
  · refine refuses_of_handle (k := .tankdef) hs rfl hd fun a b => ?_
    have huse' : (s.withPorts a b).tankInUse u = true := huse
    simp [handle, doTankdef, tankOf_val, hok, huse']
  · refine refuses_of_handle (k := .tankdef) hs rfl hd fun a b => ?_
    obtain ⟨top, ht, hlt⟩ := htop
    have huse' : (s.withPorts a b).tankInUse u = false := huse
    simp only [handle, doTankdef, tankOf_val, hok, huse', Bool.not_true, Bool.false_eq_true, if_false]
    rw [show ((s.withPorts a b).tank u).topLevel = some top from ht]
    exact if_pos (.inr hlt)
  · have hmade := request_made (k := .tankdef) (result := .done .nothing) (Q := fun v => v = { s with
        tanks := s.tanks.set u ((s.tank u).redeclared d), trip := v.trip, portB := v.portB, portS := v.portS }
      ∧ s.trip.Quietened v.trip ∧ ((s.tank u).gaugeStep = false → v.trip = s.trip)) hs rfl hd fun x y => ?_
    · obtain ⟨t, v, hexec, hans, hkept, ⟨hv, hquiet, htrip⟩, ht⟩ := hmade
      have htv : t.trip = v.trip := by rw [ht]
      refine ⟨t, hexec, hans, hkept, ?_, ?_, ?_⟩
      · rw [htv, ht, hv]; rfl
      · rw [htv]; exact hquiet.1
      · rw [htv]; exact htrip
    · have hw := declareTank_writes u d (s.withPorts x y)
      refine ⟨declareTank u d (s.withPorts x y), ?_, ?_, hw.ended_eq (by decide), ?_, quietened_declareTank u d (s.withPorts x y),
        trip_declareTank u d (s.withPorts x y)⟩
      · have huse' : (s.withPorts x y).tankInUse u = false := huse
        simp only [handle, doTankdef, tankOf_val, hok, huse', Bool.not_true, Bool.false_eq_true, if_false]
        split
        case h_1 top ht =>
          have hle := htop top ht
          have hhi := TankDecl.hi_le hok
          rw [if_neg (by omega)]; rfl
        case h_2 => rfl
      · rw [hw.evals_eq]; exact hs.1.2
      · exact declareTank_made u d (s.withPorts x y)

/-! PROOFS. The requests that replace the configuration (R73, R98, R112, R113). -/


variable {s t u : State} {p : Side} {k : RequestKind} {body : List Byte} {r : Request}

/-! ### The lists of the HIGH and the LOW group (R113) -/

theorem header_putLists (high : List HighItem) (low : List Chan) (s : State) :
    (putLists high low s).header = { s.header with high := high, low := low } := by
  unfold putLists
  split
  case isTrue h => rw [← h.1, ← h.2]
  case isFalse => rfl

theorem header_moveGroup (c : Chan) (g : PriorityGroup) (s : State) : (moveGroup c g s).header = { s.header with
    high := s.header.high.filter (· ≠ .chan c) ++ (match g with | .high => [.chan c] | .low => [])
    low := s.header.low.filter (· ≠ c) ++ (match g with | .high => [] | .low => [c]) } := by
  cases g <;> simp [moveGroup, header_putLists]

/-! ### CHCONFIG (R73, R119) -/

/-- A channel's record with the window count zeroed where its K-factor changes (R119). -/
def Channel.reconfigured (k : Channel) (old new : ChannelConfig) : Channel :=
  { k with meter := { k.meter with windowCount := if old.kFactor = new.kFactor then k.meter.windowCount else 0 } }

/-- The part with the ten fields replaced and the window count judged (R73, R119). -/
def State.replaced (s : State) (c : Chan) (k : ChannelConfig) : State :=
  { s with config := { s.config with channels := s.config.channels.set c k }
           channels := s.channels.set c ((s.chan c).reconfigured (s.chanConfig c) k) }

theorem configure_eq (c : Chan) (k : ChannelConfig) (s : State) : configure c k s
    = if (s.chanConfig c).group = k.group then noteChan .config c (s.replaced c k)
      else moveGroup c k.group (noteChan .config c (s.replaced c k)) := by
  have hcount : (if (s.chanConfig c).kFactor = k.kFactor then { s with config := { s.config with channels := s.config.channels.set c k } }
      else ({ s with config := { s.config with channels := s.config.channels.set c k } } : State).modMeter c
        fun m => { m with windowCount := 0 }) = s.replaced c k := by
    unfold State.replaced Channel.reconfigured
    split
    case isTrue => exact (modChan_self (c := c) (f := id) (s := { s with config := { s.config with channels := s.config.channels.set c k } }) rfl).symm
    case isFalse => rfl
  unfold configure
  simp only [hcount]

theorem configure_made (c : Chan) (k : ChannelConfig) (s : State) : configure c k s = { s.replaced c k with
    header := (configure c k s).header, portB := (configure c k s).portB, portS := (configure c k s).portS } := by
  have hnote := (noteChan_writes .config c (s.replaced c k)).only_ports
  rw [configure_eq]
  split
  · rw [hnote]
  · have hw := moveGroup_writes c k.group (noteChan .config c (s.replaced c k))
    have h := hw.only_plant
    rw [hw.channels_eq, hw.tanks_eq, hw.plan_eq, hw.trip_eq, hw.queue_eq, hw.evals_eq] at h
    generalize moveGroup c k.group (noteChan .config c (s.replaced c k)) = v at h
    rw [h, hnote]

theorem header_configure (c : Chan) (k : ChannelConfig) (s : State) : (configure c k s).header
    = if (s.chanConfig c).group = k.group then s.header else { s.header with
        high := s.header.high.filter (· ≠ .chan c) ++ (match k.group with | .high => [.chan c] | .low => [])
        low := s.header.low.filter (· ≠ c) ++ (match k.group with | .high => [] | .low => [c]) } := by
  have hnote : (noteChan .config c (s.replaced c k)).header = s.header := (noteChan_writes ..).header_eq
  rw [configure_eq]
  split
  · exact hnote
  · rw [header_moveGroup, hnote]

/-- Where no channel calls and the grants are in order, a regrant changes nothing (R108, R110). -/
theorem regrant_of_not_calling (hc : s.anyCalling = false) (hg : s.GrantsOk) (z : Bool) :
    regrant z s = if z then noteHeader .grants s else s := by
  have hcalling (c : Chan) : (s.chan c).calling = false := by
    have := List.any_eq_false.mp hc c (mem_chans c)
    simpa using this
  have hasks (c : Chan) : (s.chan c).asks = false := by
    have h := hcalling c
    unfold Channel.calling at h
    unfold Channel.asks
    cases hst : (s.chan c).state <;> simp_all
  have hz (c : Chan) : (s.chan c).grant = 0 := by
    refine Nat.eq_zero_of_not_pos fun hpos => ?_
    have h := hcalling c
    rw [Channel.calling, (hg.2.2 c).1.mp hpos] at h
    cases h
  have hn (c : Chan) : s.newGrant c = 0 := Nat.eq_zero_of_not_pos fun hpos => by
    have := asks_of_newGrant hpos
    rw [hasks c] at this; cases this
  exact regrant_still z (fun c => by rw [hn, hz]) fun c => by rw [hn]; exact Channel.granted_self (hg.2.2 c) (hz c) _

/-- Settles O54. -/
theorem configurationRequests : Obligations.ConfigurationRequests := by
  intro body s hs
  refine ⟨fun c k hd => ⟨fun hok => ?_, fun hok hst => ?_, fun hok hst hgrade hcur => ?_, fun hok hst hfree => ?_⟩,
    fun h d hd => ⟨fun hok => ?_, fun hh hdv hst => ?_, fun hh hdv hst => ⟨_, rfl, ?_⟩⟩,
    fun y hd => ⟨fun hcall => ?_, fun hcall hg => ⟨_, rfl, ?_⟩⟩⟩
  · refine refuses_of_handle (k := .chconfig) hs rfl hd fun a b => ?_
    simp [handle, doChconfig, chanOf_val, hok]
  · refine refuses_of_handle (k := .chconfig) hs rfl hd fun a b => ?_
    have hst' : ((s.withPorts a b).chan c).state ≠ .masked := hst
    simp [handle, doChconfig, chanOf_val, hok, hst']
  · refine refuses_of_handle (k := .chconfig) hs rfl hd fun a b => ?_
    have hst' : ((s.withPorts a b).chan c).state = .masked := hst
    have hcur' : ((s.withPorts a b).current c).isSome = true := by
      rw [Option.isSome_iff_ne_none, ne_eq, ← Option.isNone_iff_eq_none, current_isNone_iff]
      exact hcur
    have hgrade' : k.grade ≠ ((s.withPorts a b).chanConfig c).grade := hgrade
    simp [handle, doChconfig, chanOf_val, hok, hst', hcur', hgrade']
  · have hmade := request_made (k := .chconfig) (result := .done .nothing) (Q := fun v => v = { s.replaced c k with
        header := v.header, portB := v.portB, portS := v.portS }
      ∧ v.header = if (s.chanConfig c).group = k.group then s.header else { s.header with
        high := s.header.high.filter (· ≠ .chan c) ++ (match k.group with | .high => [.chan c] | .low => [])
        low := s.header.low.filter (· ≠ c) ++ (match k.group with | .high => [] | .low => [c]) }) hs rfl hd fun x y => ?_
    · obtain ⟨t, v, hexec, hans, hkept, ⟨hv, hheader⟩, ht⟩ := hmade
      have htv : t.header = v.header := by rw [ht]
      rw [← htv] at hheader
      refine ⟨t, hexec, hans, hkept, ?_, ?_, fun hg => ?_, fun hg hhigh => ?_, fun hg hlow => ?_⟩
      · rw [htv, ht, hv]; rfl
      · rw [hheader]; split <;> rfl
      · rw [hheader, if_pos hg.symm]
      · rw [hheader, if_neg fun h => hg h.symm, hhigh]; exact ⟨rfl, List.append_nil _⟩
      · rw [hheader, if_neg fun h => hg h.symm, hlow]; exact ⟨List.append_nil _, rfl⟩
    · have hw := configure_writes c k (s.withPorts x y)
      refine ⟨configure c k (s.withPorts x y), ?_, ?_, hw.ended_eq (by decide), configure_made c k (s.withPorts x y),
        header_configure c k (s.withPorts x y)⟩
      · have hst' : ((s.withPorts x y).chan c).state = .masked := hst
        have hfree' : ¬(k.grade ≠ ((s.withPorts x y).chanConfig c).grade ∧ ((s.withPorts x y).current c).isSome = true) := by
          rintro ⟨hne, hsome⟩
          have hnone := hfree.resolve_left hne
          rw [show (s.withPorts x y).current c = s.current c from rfl, hnone] at hsome
          cases hsome
        simp only [handle, doChconfig, chanOf_val, hok, hst', Bool.not_true, Bool.false_eq_true, if_false, ne_eq, not_true_eq_false]
        exact if_neg hfree'
      · rw [hw.evals_eq]; exact hs.1.2
  · refine refuses_of_handle (k := .headerconfig) hs rfl hd fun a b => ?_
    rcases hok with hok | hok <;> simp [handle, doHeaderconfig, hok]
  · refine refuses_of_handle (k := .headerconfig) hs rfl hd fun a b => ?_
    have hst' : (s.withPorts a b).header.state ≠ .idle := hst
    simp [handle, doHeaderconfig, hh, hdv, hst']
  · refine does_of_handle (k := .headerconfig) hs rfl hd hs.1.2 fun a b => ?_
    have hst' : (s.withPorts a b).header.state = .idle := hst
    simp only [handle, doHeaderconfig, hh, hdv, hst', Bool.not_true, Bool.or_self, Bool.false_eq_true, if_false, ne_eq,
      not_true_eq_false]
    rfl
  · refine refuses_of_handle (k := .priority) hs rfl hd fun a b => ?_
    have hcall' : (s.withPorts a b).anyCalling = true := hcall
    simp [handle, doPriority, hcall']
  · refine does_of_handle (k := .priority) hs rfl hd hs.1.2 fun a b => ?_
    have hcall' : (s.withPorts a b).anyCalling = false := hcall
    simp only [handle, doPriority, hcall', Bool.false_eq_true, if_false]
    rw [regrant_of_not_calling (s := noteHeader .priority { s.withPorts a b with config := { (s.withPorts a b).config with priority := y } })
      hcall hg]
    rfl

/-! PROOFS. ARM, MASK and HOSE by the channel's state (R85, R92, R95). -/


variable {P : List Part} {s t u : State}

/-- Channel, trip and port writes that leave each channel but `c` alone, told as what they make of the part. -/
theorem Writes.made_chan (h : Writes [.chans, .trip, .notices] s t) {c : Chan} {k : Channel}
    (hc : ∀ d, t.chan d = if c = d then k else s.chan d) :
    t = { s with channels := s.channels.set c k, trip := t.trip, portB := t.portB, portS := t.portS } := by
  have hchannels : t.channels = s.channels.set c k :=
    channels_ext (s := s.setChan c k) fun d => by rw [hc, chan_setChan]
  have ht := h.only_plant
  rw [h.tanks_eq, h.plan_eq, h.header_eq, h.queue_eq, h.evals_eq, hchannels] at ht
  exact ht

theorem updateChan_made (c : Chan) (f : Channel → Channel) (s : State) : updateChan c f s
    = { s.modChan c f with portB := (updateChan c f s).portB, portS := (updateChan c f s).portS } :=
  (noteMoved_writes s c (s.modChan c f)).only_ports

theorem ended_updateChan (c : Chan) (f : Channel → Channel) (s : State) (q : Side) :
    ((updateChan c f s).port q).ended = (s.port q).ended :=
  (noteMoved_writes s c (s.modChan c f)).ended_eq (by decide) q

/-- The horn may follow a caution of one channel; nothing else of the trip items does (R159, R160). -/
theorem hornOnly_setStrain (c : Chan) (v : Bool) (s : State) :
    (setStrain c v s).trip.HornOnly { s.trip with cautions := (setStrain c v s).trip.cautions } := by
  unfold setStrain
  split
  · exact Trip.HornOnly.refl _
  · exact hornOnly_setCaution _ v (s.modChan c _)

/-! ### The channel's record at an ARM and at a MASK (R85) -/

theorem chan_armIdle (c : Chan) (s : State) (d : Chan) :
    (armIdle c s).chan d = if c = d then { s.chan c with state := .idle, command := .toClose } else s.chan d := chan_updateChan ..

/-- The strain watch as an ARM from MASKED starts it (R92). -/
def Channel.strained (k : Channel) (g : ChannelConfig) (timer : Nat) : Channel :=
  { k with strain := decide (g.strainWarn ≤ k.tension), strainTimer := if g.strainTrip ≤ k.tension then some timer else none }

theorem chan_startStrain (c : Chan) (s : State) (d : Chan) : (startStrain c s).chan d
    = if c = d then (s.chan c).strained (s.chanConfig c) (s.expiry s.config.device.strainDwell) else s.chan d := by
  unfold startStrain
  simp only [chan_setStrain, chan_modChan, if_true]
  by_cases h : c = d
  · simp only [if_pos h]; rfl
  · simp only [if_neg h]

/-- A channel's record as a MASK leaves it (R85). -/
def Channel.maskedOut (k : Channel) : Channel :=
  { k with state := .masked, command := .toClose, authorised := false, strain := false, strainTimer := none }

theorem chan_maskChannel (c : Chan) (s : State) (d : Chan) :
    (maskChannel c s).chan d = if c = d then (s.chan c).maskedOut else s.chan d := by
  unfold maskChannel
  simp only [chan_setStrain, chan_setAuth, chan_updateChan, if_true]
  by_cases h : c = d
  · simp only [if_pos h]; rfl
  · simp only [if_neg h]

theorem hornOnly_maskChannel (c : Chan) (s : State) :
    (maskChannel c s).trip.HornOnly { s.trip with cautions := (maskChannel c s).trip.cautions } := by
  have hquiet : (setAuth c false (updateChan c (fun k => { k with state := .masked, command := .toClose, strainTimer := none }) s)).trip
      = s.trip := by
    rw [(setAuth_false_writes ..).trip_eq, updateChan_made]; rfl
  unfold maskChannel
  have h := hornOnly_setStrain c false
    (setAuth c false (updateChan c (fun k => { k with state := .masked, command := .toClose, strainTimer := none }) s))
  rwa [hquiet] at h

/-! ### The requests -/

theorem not_masked_nor_idle_nor_fault {k : Channel} (h : k.watched = true ∨ k.state = .closing) :
    k.state = .opening ∨ k.state = .flowing ∨ k.state = .held ∨ k.state = .closing := by
  rcases h with h | h
  · unfold Channel.watched at h; cases hk : k.state <;> simp_all
  · exact .inr (.inr (.inr h))

/-- ARM, by the channel's state (R85). -/
theorem arm_by_state (body : List Byte) (c : Chan) (s : State) (hs : s.Hears .barge) (hd : decodeRequest .arm body = some (.arm c)) :
    ((s.chan c).watched = true ∨ (s.chan c).state = .closing → Refuses (.arm .barge body) .barge .arm body .state s)
      ∧ ((s.chan c).state = .masked → (s.chan c).closedLimit = false → Refuses (.arm .barge body) .barge .arm body .state s)
      ∧ ((s.chan c).state = .fault → (s.chan c).provenClosed = false → Refuses (.arm .barge body) .barge .arm body .state s)
      ∧ ((s.chan c).state = .idle → Does (.arm .barge body) .barge .arm body (.done .nothing) [] s s) := by
  refine ⟨fun hst => ?_, fun hst hl => ?_, fun hst hl => ?_, fun hst => ?_⟩
  · refine refuses_of_handle (k := .arm) hs rfl hd fun a b => ?_
    rcases not_masked_nor_idle_nor_fault hst with h | h | h | h
    all_goals
      have h' : ((s.withPorts a b).chan c).state = _ := h
      simp only [handle, doArm, chanOf_val, h']
  · refine refuses_of_handle (k := .arm) hs rfl hd fun a b => ?_
    have h' : ((s.withPorts a b).chan c).state = _ := hst
    have hl' : ((s.withPorts a b).chan c).closedLimit = false := hl
    simp only [handle, doArm, chanOf_val, h', hl', Bool.false_eq_true, if_false]
  · refine refuses_of_handle (k := .arm) hs rfl hd fun a b => ?_
    have h' : ((s.withPorts a b).chan c).state = _ := hst
    have hl' : ((s.withPorts a b).chan c).provenClosed = false := hl
    simp only [handle, doArm, chanOf_val, h', hl', Bool.false_eq_true, if_false]
  · refine does_of_handle (k := .arm) hs rfl hd hs.1.2 fun a b => ?_
    have h' : ((s.withPorts a b).chan c).state = _ := hst
    simp only [handle, doArm, chanOf_val, h']
    rfl

theorem arm_masked (body : List Byte) (c : Chan) (s : State) (hs : s.Hears .barge) (hd : decodeRequest .arm body = some (.arm c))
    (hst : (s.chan c).state = .masked) (hl : (s.chan c).closedLimit = true) (ha : (s.chan c).authorised = false) :
    ∃ t : State, exec (.arm .barge body) s = .next t.startSending
      ∧ Answered .barge (bodyTag body) RequestKind.arm.code (.done .nothing) s t ∧ EndedKept s t
      ∧ t = { s with
          channels := s.channels.set c (({ s.chan c with state := .idle, command := .toClose } : Channel).strained (s.chanConfig c)
            (s.expiry s.config.device.strainDwell))
          trip := t.trip, portB := t.portB, portS := t.portS }
      ∧ t.trip.HornOnly { s.trip with cautions := t.trip.cautions } := by
  have hmade := request_made (k := .arm) (result := .done .nothing) (Q := fun v => v = { s with
      channels := s.channels.set c (({ s.chan c with state := .idle, command := .toClose } : Channel).strained (s.chanConfig c)
        (s.expiry s.config.device.strainDwell))
      trip := v.trip, portB := v.portB, portS := v.portS }
    ∧ v.trip.HornOnly { s.trip with cautions := v.trip.cautions }) hs rfl hd fun x y => ?_
  · obtain ⟨t, v, hexec, hans, hkept, ⟨hv, hhorn⟩, ht⟩ := hmade
    have htv : t.trip = v.trip := by rw [ht]
    refine ⟨t, hexec, hans, hkept, ?_, by rw [htv]; exact hhorn⟩
    rw [htv, ht, hv]
  · have h' : ((s.withPorts x y).chan c).state = .masked := hst
    have hl' : ((s.withPorts x y).chan c).closedLimit = true := hl
    have hidle := armIdle_writes (c := c) (s := s.withPorts x y) (by rw [h']; decide)
    have hw := hidle.then (startStrain_writes c _) (R := [.chans, .trip, .notices])
    have hchan (d : Chan) : (startStrain c (armIdle c (s.withPorts x y))).chan d = if c = d then
        ({ s.chan c with state := .idle, command := .toClose } : Channel).strained (s.chanConfig c) (s.expiry s.config.device.strainDwell)
        else (s.withPorts x y).chan d := by
      rw [chan_startStrain]
      simp only [chan_armIdle, if_true, hidle.chanConfig_eq]
      rw [State.expiry, hidle.now_eq, hidle.config_eq]
      by_cases h : c = d
      · simp only [if_pos h]; rfl
      · simp only [if_neg h]
    have hcannot : (startStrain c (armIdle c (s.withPorts x y))).canStart c = false :=
      canStart_of_unauthorised (by rw [hchan, if_pos rfl]; exact ha)
    refine ⟨startStrain c (armIdle c (s.withPorts x y)), ?_, ?_, hw.ended_eq (by decide), hw.made_chan hchan, ?_⟩
    · simp only [handle, doArm, chanOf_val, h', hl', if_true, judgeStart_of_cannot hcannot]; rfl
    · rw [hw.evals_eq]; exact hs.1.2
    · have h := hornOnly_setStrain c (decide (((armIdle c (s.withPorts x y)).chanConfig c).strainWarn
        ≤ ((armIdle c (s.withPorts x y)).chan c).tension)) ((armIdle c (s.withPorts x y)).modChan c fun k =>
          { k with strainTimer := if ((armIdle c (s.withPorts x y)).chanConfig c).strainTrip ≤ k.tension
                    then some ((armIdle c (s.withPorts x y)).expiry (armIdle c (s.withPorts x y)).config.device.strainDwell) else none })
      rw [show (State.modChan (armIdle c (s.withPorts x y)) c _).trip = s.trip from hidle.trip_eq] at h
      exact h

theorem arm_fault (body : List Byte) (c : Chan) (s : State) (hs : s.Hears .barge) (hd : decodeRequest .arm body = some (.arm c))
    (hst : (s.chan c).state = .fault) (hl : (s.chan c).provenClosed = true) (ha : (s.chan c).authorised = false) :
    ∃ t : State, exec (.arm .barge body) s = .next t.startSending
      ∧ Answered .barge (bodyTag body) RequestKind.arm.code (.done .nothing) s t ∧ EndedKept s t
      ∧ t = { s with channels := s.channels.set c { s.chan c with state := .idle, command := .toClose }
                     portB := t.portB, portS := t.portS } := by
  have hmade := request_made (k := .arm) (result := .done .nothing) (Q := fun v => v = { s with
      channels := s.channels.set c { s.chan c with state := .idle, command := .toClose }, portB := v.portB, portS := v.portS })
    hs rfl hd fun x y => ?_
  · obtain ⟨t, v, hexec, hans, hkept, hv, ht⟩ := hmade
    exact ⟨t, hexec, hans, hkept, by rw [ht, hv]⟩
  · have h' : ((s.withPorts x y).chan c).state = .fault := hst
    have hl' : ((s.withPorts x y).chan c).provenClosed = true := hl
    have hcannot : (armIdle c (s.withPorts x y)).canStart c = false :=
      canStart_of_unauthorised (by rw [chan_armIdle, if_pos rfl]; exact ha)
    refine ⟨armIdle c (s.withPorts x y), ?_, ?_, ended_updateChan c _ _, updateChan_made ..⟩
    · simp only [handle, doArm, chanOf_val, h', hl', if_true, judgeStart_of_cannot hcannot]; rfl
    · rw [armIdle, updateChan_made]; exact hs.1.2

/-- MASK of a channel that is not at rest is refused (R85). -/
theorem mask_refused (body : List Byte) (c : Chan) (s : State) (hs : s.Hears .barge) (hd : decodeRequest .mask body = some (.mask c)) :
    ((s.chan c).watched = true ∨ (s.chan c).state = .closing → Refuses (.mask .barge body) .barge .mask body .state s)
      ∧ ((s.chan c).state = .fault → (s.chan c).provenClosed = false → Refuses (.mask .barge body) .barge .mask body .state s) := by
  refine ⟨fun hst => ?_, fun hst hl => ?_⟩
  · refine refuses_of_handle (k := .mask) hs rfl hd fun a b => ?_
    rcases not_masked_nor_idle_nor_fault hst with h | h | h | h
    all_goals
      have h' : ((s.withPorts a b).chan c).state = _ := h
      simp only [handle, doMask, chanOf_val, h']
  · refine refuses_of_handle (k := .mask) hs rfl hd fun a b => ?_
    have h' : ((s.withPorts a b).chan c).state = _ := hst
    have hl' : ((s.withPorts a b).chan c).provenClosed = false := hl
    simp only [handle, doMask, chanOf_val, h', hl', Bool.false_eq_true, if_false]

theorem mask_at_rest (body : List Byte) (c : Chan) (s : State) (hs : s.Hears .barge) (hd : decodeRequest .mask body = some (.mask c))
    (hst : (s.chan c).state = .idle ∨ ((s.chan c).state = .fault ∧ (s.chan c).provenClosed = true)) :
    ∃ t : State, exec (.mask .barge body) s = .next t.startSending
      ∧ Answered .barge (bodyTag body) RequestKind.mask.code (.done .nothing) s t ∧ EndedKept s t
      ∧ t = { s with channels := s.channels.set c (s.chan c).maskedOut, trip := t.trip, portB := t.portB, portS := t.portS }
      ∧ t.trip.HornOnly { s.trip with cautions := t.trip.cautions } := by
  have hmade := request_made (k := .mask) (result := .done .nothing) (Q := fun v => v = { s with
      channels := s.channels.set c (s.chan c).maskedOut, trip := v.trip, portB := v.portB, portS := v.portS }
    ∧ v.trip.HornOnly { s.trip with cautions := v.trip.cautions }) hs rfl hd fun x y => ?_
  · obtain ⟨t, v, hexec, hans, hkept, ⟨hv, hhorn⟩, ht⟩ := hmade
    have htv : t.trip = v.trip := by rw [ht]
    exact ⟨t, hexec, hans, hkept, by rw [htv, ht, hv], by rw [htv]; exact hhorn⟩
  · have hw := maskChannel_writes (c := c) (s := s.withPorts x y) (by
      rcases hst with h | ⟨h, -⟩ <;> rw [show ((s.withPorts x y).chan c).state = _ from h] <;> decide)
    refine ⟨maskChannel c (s.withPorts x y), ?_, ?_, hw.ended_eq (by decide), hw.made_chan (chan_maskChannel c _),
      hornOnly_maskChannel c _⟩
    · rcases hst with h | ⟨h, hl⟩
      all_goals have h' : ((s.withPorts x y).chan c).state = _ := h
      · simp only [handle, doMask, chanOf_val, h']; rfl
      · have hl' : ((s.withPorts x y).chan c).provenClosed = true := hl
        simp only [handle, doMask, chanOf_val, h', hl', if_true]; rfl
    · rw [hw.evals_eq]; exact hs.1.2

/-- Settles O49. -/
theorem armMaskAndHoseByState : Obligations.ArmMaskAndHoseByState := by
  intro body c s hs
  refine ⟨fun hd => ?_, fun hd => ?_, fun hd => ⟨fun hst hl => ⟨_, rfl, ?_⟩, fun hno => ?_⟩⟩
  · obtain ⟨h1, h2, h3, h4⟩ := arm_by_state body c s hs hd
    exact ⟨h1, h2, h3, h4, arm_masked body c s hs hd, arm_fault body c s hs hd⟩
  · obtain ⟨h1, h2⟩ := mask_refused body c s hs hd
    exact ⟨h1, h2, mask_at_rest body c s hs hd⟩
  · refine does_of_handle (k := .hose) hs rfl hd hs.1.2 fun a b => ?_
    have hdo : (((s.withPorts a b).chan c).state = .idle ∨ ((s.withPorts a b).chan c).state = .masked)
        ∧ ((s.withPorts a b).chan c).provenClosed = true := ⟨hst, hl⟩
    simp only [handle, doHose, chanOf_val, if_pos hdo, drainHose]
    split
    case isTrue h =>
      have hdrained : (s.chan c).hose = .drained := h
      rw [if_pos hdrained,
        show ({ s with channels := s.channels.set c { s.chan c with hose := .drained } } : State) = s from
          modChan_self (c := c) (f := fun k => { k with hose := .drained }) (by rw [← hdrained])]
      rfl
    case isFalse h => rw [if_neg (show ¬ (s.chan c).hose = .drained from h)]; rfl
  · refine refuses_of_handle (k := .hose) hs rfl hd fun a b => ?_
    have hno' : ¬((((s.withPorts a b).chan c).state = .idle ∨ ((s.withPorts a b).chan c).state = .masked)
        ∧ ((s.withPorts a b).chan c).provenClosed = true) := by
      rintro ⟨hst, hl⟩
      rcases hno with ⟨h1, h2⟩ | h
      · exact hst.elim h1 h2
      · rw [show ((s.withPorts a b).chan c).provenClosed = false from h] at hl; cases hl
    simp only [handle, doHose, chanOf_val, if_neg hno']

/-! PROOFS. Hold sets changed while no regrant can give (R76, R108), and the field watches (R91 to R93). -/


variable {s t u : State} {c : Chan} {r : HoldReason}

/-! ### Hold sets -/

theorem HoldSet.has_put_same (h : HoldSet) (r : HoldReason) (v : Bool) : (h.put r v).has r = v := by cases r <;> rfl

theorem HoldSet.has_put_of_ne {h : HoldSet} {r x : HoldReason} (hr : r ≠ x) (v : Bool) : (h.put x v).has r = h.has r := by
  cases r <;> cases x <;> first | rfl | exact absurd rfl hr

theorem HoldSet.put_ne_empty (h : HoldSet) (r : HoldReason) : h.put r true ≠ HoldSet.empty := fun he => by
  have := HoldSet.has_put_same h r true
  rw [he] at this
  cases r <;> cases this

/-- What removing a reason other than NO_GRANT leaves has it no more (R76). -/
theorem Channel.holdsWithout_ne {k : Channel} (hr : r ≠ .noGrant) (hk : k.holds.has r = true) : k.holdsWithout [r] ≠ k.holds := fun he => by
  have hput : (k.holds.put r false).has r = false := HoldSet.has_put_same ..
  have : (k.holdsWithout [r]).has r = false := by
    rw [Channel.holdsWithout_eq, apply_ite (fun h : HoldSet => h.has r), HoldSet.has_put_of_ne hr]
    exact (ite_self _).trans hput
  rw [he, hk] at this
  cases this

theorem Channel.holdsWithout_held_ne_empty {k : Channel} (hs : k.state = .held) (hg : k.grant = 0) (rs : List HoldReason) :
    k.holdsWithout rs ≠ HoldSet.empty := by
  unfold Channel.holdsWithout
  simp only [hs, hg, decide_true, Bool.and_self, Bool.true_and]
  split
  · exact (k.holds.minus rs).put_ne_empty .noGrant
  · rename_i h
    exact fun he => h ((HoldSet.isEmpty_iff _).mpr he)

/-! ### A change of a hold set outside SERVING (R76, R108) -/

/-- A change of the hold set alone is told once (R96). -/
theorem updateChan_holds {h : HoldSet} (hne : h ≠ (s.chan c).holds) :
    updateChan c (fun k => { k with holds := h }) s = noteChan .holds c (s.modChan c fun k => { k with holds := h }) := by
  have hchan : (s.modChan c fun k => { k with holds := h }).chan c = { s.chan c with holds := h } := by rw [chan_modChan, if_pos rfl]
  rw [updateChan, noteHoldsChange, hchan, if_neg hne, noteStateChange, (noteChan_writes ..).chan_eq, hchan]
  exact if_pos rfl

theorem updateChan_congr {f g : Channel → Channel} (h : f (s.chan c) = g (s.chan c)) : updateChan c f s = updateChan c g s := by
  unfold updateChan State.modChan; rw [h]

/-- A hold set replaced on a channel that does not flow keeps the grants in order, a HELD one keeping a reason (R110). -/
theorem State.GrantsOk.holds (hg : s.GrantsOk) {h : HoldSet} (hf : (s.chan c).state ≠ .flowing)
    (hh : (s.chan c).state = .held → h ≠ HoldSet.empty) : (s.modChan c fun k => { k with holds := h }).GrantsOk := by
  refine hg.of_le rfl rfl (fun d => ?_) fun d => ?_
  · rw [chan_modChan]; split
    case isTrue hd => subst hd; exact Nat.le_refl _
    case isFalse => exact Nat.le_refl _
  · rw [chan_modChan]; split
    case isTrue hd =>
      subst hd
      exact ⟨(hg.2.2 c).1, fun h => absurd h hf, hh⟩
    case isFalse => exact hg.2.2 d

theorem State.GrantsOk.not_flowing (hg : s.GrantsOk) (hs : s.header.state ≠ .serving) (c : Chan) : (s.chan c).state ≠ .flowing := fun h => by
  have hpos := (hg.2.2 c).1.mpr h
  rw [hg.2.1 hs c] at hpos
  exact absurd hpos (Nat.lt_irrefl 0)

/-- Outside SERVING a reason added is the whole of it, and N-CHANNEL HOLDS (R76, R108). -/
theorem addHold_quiet (hs : s.header.state ≠ .serving) (hg : s.GrantsOk) (hno : (s.chan c).holds.has r = false) :
    addHold c r s = noteChan .holds c (s.modChan c fun k => { k with holds := (s.chan c).holds.put r true }) := by
  have hf := hg.not_flowing hs c
  have hne : (s.chan c).holds.put r true ≠ (s.chan c).holds := fun he => by
    have := HoldSet.has_put_same (s.chan c).holds r true
    rw [he, hno] at this; cases this
  have hadd : addHolds c [r] s = noteChan .holds c (s.modChan c fun k => { k with holds := (s.chan c).holds.put r true }) := by
    rw [← updateChan_holds hne, addHolds]
    refine updateChan_congr ?_
    rw [Channel.holdWith_eq, if_neg (fun h => hne h.symm), if_neg hf]
    rfl
  rw [addHold, if_neg (by rw [hno]; decide), hadd, hg.2.1 hs c]
  have hok := hg.holds (c := c) hf (fun _ => (s.chan c).holds.put_ne_empty r)
  exact regrant_of_not_serving (s := noteChan .holds c (s.modChan c fun k => { k with holds := (s.chan c).holds.put r true })) hs hok false

/-- Outside SERVING a reason taken off is the whole of it, and N-CHANNEL HOLDS (R76, R108). -/
theorem removeHold_quiet (hs : s.header.state ≠ .serving) (hg : s.GrantsOk) (hr : r ≠ .noGrant) (hyes : (s.chan c).holds.has r = true) :
    removeHold c r s = noteChan .holds c (s.modChan c fun k => { k with holds := (s.chan c).holdsWithout [r] }) := by
  have hf := hg.not_flowing hs c
  have hne := Channel.holdsWithout_ne hr hyes
  have hremove : removeHolds c [r] s = noteChan .holds c (s.modChan c fun k => { k with holds := (s.chan c).holdsWithout [r] }) := by
    rw [← updateChan_holds hne, removeHolds]
    exact updateChan_congr rfl
  rw [removeHold, if_pos hyes, hremove]
  have hok := hg.holds (c := c) hf (fun h => Channel.holdsWithout_held_ne_empty h (hg.2.1 hs c) [r])
  exact regrant_of_not_serving (s := noteChan .holds c (s.modChan c fun k => { k with holds := (s.chan c).holdsWithout [r] })) hs hok false

theorem setStrain_made (c : Chan) (v : Bool) (s : State) : setStrain c v s = { s with
    channels := s.channels.set c { s.chan c with strain := v }
    trip := (setStrain c v s).trip, portB := (setStrain c v s).portB, portS := (setStrain c v s).portS } :=
  (setStrain_writes c v s).made_chan (chan_setStrain c v s)

theorem modChan_modChan (c : Chan) (f g : Channel → Channel) (s : State) : (s.modChan c f).modChan c g = s.modChan c fun k => g (f k) := by
  simp [State.modChan, State.setChan, State.chan, Vector.get_eq_getElem]

/-- A change of a channel's record but for state, grant and hold set keeps the grants in order (R110). -/
theorem State.GrantsOk.modChan (hg : s.GrantsOk) {f : Channel → Channel} (hs : (f (s.chan c)).state = (s.chan c).state)
    (hgr : (f (s.chan c)).grant = (s.chan c).grant) (hh : (f (s.chan c)).holds = (s.chan c).holds) : (s.modChan c f).GrantsOk := by
  refine hg.of_le rfl rfl (fun d => ?_) fun d => ?_
  · rw [chan_modChan]; split
    case isTrue hd => subst hd; exact hgr.le
    case isFalse => exact Nat.le_refl _
  · rw [chan_modChan]; split
    case isTrue hd =>
      subst hd
      unfold Channel.FlowsByGrant
      rw [hs, hgr, hh]
      exact hg.2.2 c
    case isFalse => exact hg.2.2 d

/-! ### The field watches (R91 to R93) -/

theorem takePressure_eq (c : Chan) (v : Nat) (s : State) : takePressure c v s = { s with channels := s.channels.set c { s.chan c with
    pressure := v
    pressureTimer := if v < (s.chanConfig c).pressureMax then none
      else if (s.chan c).pressure < (s.chanConfig c).pressureMax ∧ (s.chan c).watched = true then some (s.expiry pressureDwell)
      else (s.chan c).pressureTimer } } := rfl

/-- What the tension events do when the value read is as their name says (log 28). -/
theorem commandEffect_tension {i : Instr} {v : Nat}
    (h : (i = .tensionReachesStrainWarn c v ∧ (s.chanConfig c).strainWarn ≤ v)
      ∨ (i = .tensionFallsBelowStrainWarn c v ∧ v < (s.chanConfig c).strainWarn)
      ∨ (i = .tensionReachesStrainTrip c v ∧ (s.chanConfig c).strainTrip ≤ v)
      ∨ (i = .tensionFallsBelowStrainTrip c v ∧ v < (s.chanConfig c).strainTrip)) :
    ofSupply i = false ∧ commandEffect i s = takeTension c v s := by
  rcases h with ⟨rfl, h⟩ | ⟨rfl, h⟩ | ⟨rfl, h⟩ | ⟨rfl, h⟩ <;> exact ⟨rfl, if_pos h⟩

/-- Settles O52. -/
theorem fieldWatchesFollowTheirInputs : Obligations.FieldWatchesFollowTheirInputs := by
  intro c v s hr
  refine ⟨fun hv => ?_, fun hv => ?_, fun hst i hi => ?_, fun hst i hi => ?_, fun hlow hw => ?_, fun hg hs => ⟨fun hlow hw hhold => ⟨_, rfl, ?_⟩,
    fun hlow hhold hno => ⟨_, rfl, ?_⟩⟩⟩
  · refine exec_quiet hr.1 rfl ?_ hr.2
    rw [show commandEffect (.pressureReachesMax c v) s = takePressure c v s from if_pos hv, takePressure_eq, if_neg (Nat.not_lt.mpr hv)]
    rfl
  · refine exec_quiet hr.1 rfl ?_ hr.2
    rw [show commandEffect (.pressureFallsBelowMax c v) s = takePressure c v s from if_pos hv, takePressure_eq, if_pos hv]
  · obtain ⟨hsup, heff⟩ := commandEffect_tension hi
    refine exec_quiet hr.1 hsup ?_ hr.2
    rw [heff]
    exact if_pos hst
  · obtain ⟨hsup, heff⟩ := commandEffect_tension hi
    have htake : takeTension c v s = setStrain c (decide ((s.chanConfig c).strainWarn ≤ v)) (s.modChan c fun k =>
        { k with tension := v,
                 strainTimer := k.dwellAfter v (s.chanConfig c).strainTrip (s.expiry s.config.device.strainDwell) }) := if_neg hst
    have hmade := setStrain_made c (decide ((s.chanConfig c).strainWarn ≤ v)) (s.modChan c fun k =>
        { k with tension := v,
                 strainTimer := k.dwellAfter v (s.chanConfig c).strainTrip (s.expiry s.config.device.strainDwell) })
    have hhorn := hornOnly_setStrain c (decide ((s.chanConfig c).strainWarn ≤ v)) (s.modChan c fun k =>
        { k with tension := v,
                 strainTimer := k.dwellAfter v (s.chanConfig c).strainTrip (s.expiry s.config.device.strainDwell) })
    rw [← htake] at hmade hhorn
    refine ⟨takeTension c v s, exec_quiet hr.1 hsup heff ?_, ?_, hhorn, fun hsame => ?_⟩
    · rw [hmade]; exact hr.2
    · rw [chan_modChan, if_pos rfl] at hmade
      generalize takeTension c v s = t at hmade
      rw [hmade]
      simp [State.modChan, State.setChan, Channel.dwellAfter]
    · rw [htake, setStrain, if_pos (by rw [chan_modChan, if_pos rfl]; exact hsame)]; rfl
  · refine exec_quiet hr.1 rfl ?_ hr.2
    have hw' : ((s.modChan c fun k => { k with sourceLow := true }).chan c).watched = false := by
      rw [chan_modChan, if_pos rfl]; exact hw
    rw [show commandEffect (.sourceLowAsserts c) s = sourceLowOn c s from rfl, sourceLowOn, if_neg (by rw [hlow]; decide)]
    simp only [hw', Bool.false_eq_true, if_false]
    rfl
  · refine exec_quiet hr.1 rfl ?_ hr.2
    have hw' : ((s.modChan c fun k => { k with sourceLow := true }).chan c).watched = true := by
      rw [chan_modChan, if_pos rfl]; exact hw
    have hg' : (s.modChan c fun k => { k with sourceLow := true, sourceLowTimer := some (s.expiry s.config.device.sourceLowLimit) }).GrantsOk :=
      hg.modChan rfl rfl rfl
    have hchan : (s.modChan c fun k => { k with sourceLow := true, sourceLowTimer := some (s.expiry s.config.device.sourceLowLimit) }).chan c
        = { s.chan c with sourceLow := true, sourceLowTimer := some (s.expiry s.config.device.sourceLowLimit) } := by
      rw [chan_modChan, if_pos rfl]
    rw [show commandEffect (.sourceLowAsserts c) s = sourceLowOn c s from rfl, sourceLowOn, if_neg (by rw [hlow]; decide)]
    simp only [hw', if_true, sourceLowHold]
    have hq := addHold_quiet (r := .sourceLow) (s := s.modChan c fun k =>
      { k with sourceLow := true, sourceLowTimer := some (s.expiry s.config.device.sourceLowLimit) }) hs hg' (by rw [hchan]; exact hhold)
    rw [modChan_modChan, hchan] at hq
    exact (congrArg (addHold c .sourceLow) (modChan_modChan ..)).trans (hq.trans rfl)
  · refine exec_quiet hr.1 rfl ?_ hr.2
    have hg' : (s.modChan c fun k => { k with sourceLow := false, sourceLowTimer := none }).GrantsOk := hg.modChan rfl rfl rfl
    have hchan : (s.modChan c fun k => { k with sourceLow := false, sourceLowTimer := none }).chan c
        = { s.chan c with sourceLow := false, sourceLowTimer := none } := by rw [chan_modChan, if_pos rfl]
    have hkept : ({ s.chan c with sourceLow := false, sourceLowTimer := none } : Channel).holdsWithout [.sourceLow]
        = { (s.chan c).holds with sourceLow := false } := by
      rw [Channel.holdsWithout_eq, if_neg]
      · rfl
      · rintro ⟨-, -, he⟩
        have := congrArg HoldSet.noGrant he
        rw [show (HoldSet.minus (s.chan c).holds [.sourceLow]).noGrant = (s.chan c).holds.noGrant from rfl, hno] at this
        cases this
    have hq := removeHold_quiet (c := c) (r := .sourceLow) (s := s.modChan c fun k => { k with sourceLow := false, sourceLowTimer := none })
      hs hg' (by decide) (by rw [hchan]; exact hhold)
    rw [modChan_modChan, hchan, hkept] at hq
    exact (if_pos hlow).trans (hq.trans rfl)

/-! PROOFS. The share-out, the regrant and the rotation (R110 to R113). -/


variable {s t u : State} {c : Chan}

/-! ### The share-out, ask by ask (R110 step 3) -/

theorem shareOut_chans (asks : List Ask) (left : Nat) : (shareOut left asks).map Prod.fst = asks.map Ask.chan := by
  induction asks generalizing left with
  | nil => rfl
  | cons a rest ih =>
    rw [shareOut_cons]
    split <;> rw [List.map_cons, List.map_cons, ih]

theorem shareOut_get (asks : List Ask) (left i : Nat) (a : Ask) (g : Chan × Nat) (ha : asks[i]? = some a)
    (hg : (shareOut left asks)[i]? = some g) : g.2 = 0 ∨ (a.minFlow ≤ g.2 ∧ g.2 ≤ a.r) := by
  induction asks generalizing left i with
  | nil => cases ha
  | cons b rest ih =>
    rw [shareOut_cons] at hg
    cases i with
    | zero =>
      obtain rfl := Option.some.inj ha
      split at hg
      case isTrue hm => obtain rfl := Option.some.inj hg; exact .inr ⟨hm, Nat.min_le_left ..⟩
      case isFalse => obtain rfl := Option.some.inj hg; exact .inl rfl
    | succ i =>
      split at hg
      · exact ih _ i ha hg
      · exact ih _ i ha hg

/-- In a list that names no channel twice a lookup finds what is there. -/
theorem lookup_of_mem {ps : List (Chan × Nat)} {c : Chan} {g : Nat} (hn : (ps.map Prod.fst).Nodup) (h : (c, g) ∈ ps) :
    ps.lookup c = some g := by
  induction ps with
  | nil => cases h
  | cons p ps ih =>
    obtain ⟨d, x⟩ := p
    rw [List.map_cons, List.nodup_cons] at hn
    rw [List.lookup_cons]
    rcases List.mem_cons.mp h with heq | hmem
    · cases heq; simp
    · have hne : (c == d) = false := by
        rw [beq_eq_false_iff_ne]
        rintro rfl
        exact hn.1 (List.mem_map.mpr ⟨(c, g), hmem, rfl⟩)
      rw [hne]
      exact ih hn.2 hmem

theorem newGrant_of_share (hs : s.header.state = .serving) (hl : s.lockedIn c = false) (hn : s.priorityOrder.Nodup) {g : Nat}
    (h : (c, g) ∈ s.shares) : s.newGrant c = g := by
  have hkeys : (s.shares.map Prod.fst).Nodup := by
    rw [State.shares, shareOut_chans, State.asks, List.map_map]
    exact (List.map_id' (List.filter _ _)).symm ▸ hn.filter _
  rw [newGrant_of_serving hs, hl, lookup_of_mem hkeys h]
  rfl

theorem newGrant_of_no_share (hs : s.header.state = .serving) (hl : s.lockedIn c = false) (h : ∀ g, (c, g) ∉ s.shares) :
    s.newGrant c = 0 := by
  rw [newGrant_of_serving hs, hl]
  cases hlook : s.shares.lookup c with
  | none => rfl
  | some g => exact absurd (mem_of_lookup hlook) (h g)

/-! ### The channels a regrant gives to (R111) -/

theorem regrant_calling (z : Bool) (hc : (s.chan c).calling = true) (hf : (s.chan c).FlowsByGrant) :
    ((regrant z s).chan c).grant = s.newGrant c
      ∧ (0 < s.newGrant c → ((regrant z s).chan c).state = .flowing ∧ ((regrant z s).chan c).holds.noGrant = false)
      ∧ (s.newGrant c = 0 → ((regrant z s).chan c).state = .held ∧ ((regrant z s).chan c).holds ≠ HoldSet.empty
          ∧ ((s.chan c).state = .flowing → ((regrant z s).chan c).holds.noGrant = true)) := by
  rw [chan_regrant]
  have hstate : (s.chan c).state = .flowing ∨ (s.chan c).state = .held := by
    unfold Channel.calling at hc
    cases h : (s.chan c).state <;> simp_all
  rcases hstate with h | h
  all_goals
    unfold Channel.granted
    simp only [h]
    by_cases hg : s.newGrant c = 0
  · rw [if_pos hg]
    exact ⟨hg.symm, fun hp => absurd hg (Nat.pos_iff_ne_zero.mp hp), fun _ => ⟨rfl, (s.chan c).holds.put_ne_empty .noGrant, fun _ => rfl⟩⟩
  · rw [if_neg hg]
    refine ⟨rfl, fun _ => ⟨rfl, ?_⟩, fun h0 => absurd h0 hg⟩
    rw [hf.2.1 h]; rfl
  · rw [if_pos hg]
    refine ⟨hg.symm, fun hp => absurd hg (Nat.pos_iff_ne_zero.mp hp), fun _ => ⟨rfl, ?_, fun h' => nomatch h'⟩⟩
    simp only
    split
    · exact HoldSet.put_ne_empty _ _
    · rename_i hne
      exact fun he => hne ((HoldSet.isEmpty_iff _).mpr he)
  · rw [if_neg hg]
    exact ⟨rfl, fun _ => ⟨rfl, rfl⟩, fun h0 => absurd h0 hg⟩

/-! ### The rotation (R113) -/

theorem header_rotate (c : Chan) (s : State) : (rotate c s).header
    = if c ∈ s.header.low then { s.header with high := toTail .lowToken s.header.high, low := toTail c s.header.low }
      else { s.header with high := toTail (.chan c) s.header.high } := by
  unfold rotate
  split <;> rw [header_putLists]

/-- Settles O60. -/
theorem sharesStayWithinTheCapacityLeft : Obligations.SharesStayWithinTheCapacityLeft := by
  refine ⟨fun left asks => ⟨shareOut_chans asks left, shareOut_sum asks left, shareOut_get asks left, fun a rest h => ?_⟩,
    fun c s => ⟨fun hs => newGrant_of_not_serving hs c, fun hs hl => ?_, fun hs hl hn => ⟨fun g hg => newGrant_of_share hs hl hn hg,
      fun hno => newGrant_of_no_share hs hl hno⟩⟩,
    fun z c s hc hf _ => regrant_calling z hc hf, fun c s => ⟨fun hh hl => ?_, fun hl hh => ?_⟩⟩
  · subst h
    rw [shareOut_cons]
    exact ⟨fun hm => if_pos hm, fun hm => if_neg (Nat.not_le.mpr hm)⟩
  · rw [newGrant_of_serving hs, if_pos hl]; rfl
  · rw [header_rotate, if_neg hl, toTail, if_pos hh]
  · rw [header_rotate, if_pos hl, toTail, if_pos hh, toTail, if_pos hl]

/-! SUPPORT. What the events of one channel leave of another: a channel that does not ask keeps its record through every regrant, and its
entries are touched by its own evaluations alone (R53, R109, R111). -/


variable {P : List Part} {s t u : State} {c d : Chan} {i : EntryId}

/-! ### The entries of a channel, and what spares a channel -/

/-- The entry in slot `i` where it is channel `c`'s (R2). -/
def State.own (s : State) (c : Chan) (i : EntryId) : Option Entry := (s.entry i).filter fun e => e.chan = c

theorem own_eq_some_iff {e : Entry} : s.own c i = some e ↔ s.entry i = some e ∧ e.chan = c := by
  rw [State.own, Option.filter_eq_some_iff, decide_eq_true_eq]

theorem own_eq_none_of {e : Entry} (he : s.entry i = some e) (hc : e.chan ≠ c) : s.own c i = none := by
  simp [State.own, he, hc]

/-- A channel but for what a regrant writes: its grant, NO_GRANT, and FLOWING or HELD by it (R111). -/
def Channel.ungranted (k : Channel) : Channel :=
  let k0 := { k with grant := 0, holds := k.holds.put .noGrant false, meter := { k.meter with stallTimer := none } }
  match k.state with
  | .flowing | .held => { k0 with state := .held, command := .toOpen }
  | .masked | .idle | .opening | .closing | .fault => k0

theorem Channel.ungranted_granted (k : Channel) (g n : Nat) : (k.granted g n).ungranted = k.ungranted := by
  have hput (b : Bool) : (k.holds.put .noGrant b).put .noGrant false = k.holds.put .noGrant false := rfl
  unfold Channel.granted
  cases hs : k.state with
  | flowing =>
    simp only
    split
    · simp only [Channel.ungranted, hs, hput]
    · simp only [Channel.ungranted, hs]
  | held =>
    simp only
    split
    · split
      · simp only [Channel.ungranted, hs, hput]
      · simp only [Channel.ungranted, hs]
    · simp only [Channel.ungranted, hs, hput]
  | masked | idle | opening | closing | fault => simp only [Channel.ungranted, hs]

theorem currentId_of_own (h : t.own c = s.own c) : t.currentId c = s.currentId c := by
  have hlive (u : State) (i : EntryId) : (match u.entry i with | some e => e.live c | none => false) = (u.own c i).any (fun e => e.live c) := by
    unfold State.own
    cases u.entry i with
    | none => rfl
    | some e =>
      by_cases hc : e.chan = c
      · simp [hc]
      · simp [hc, Entry.live]
  have hsame : (fun i => match t.entry i with | some e => e.live c | none => false)
      = fun i => match s.entry i with | some e => e.live c | none => false := by
    funext i
    rw [hlive t, hlive s, h]
  exact congrArg entryIds.find? hsame

theorem entry_of_own {e : Entry} (h : t.own c = s.own c) (he : s.entry i = some e) (hc : e.chan = c) : t.entry i = some e :=
  (own_eq_some_iff.mp (by rw [h]; exact own_eq_some_iff.mpr ⟨he, hc⟩)).1

theorem current_of_own (h : t.own c = s.own c) : t.current c = s.current c := by
  have hid := currentId_of_own h
  cases hc : s.current c with
  | none =>
    rw [← Option.isNone_iff_eq_none, current_isNone_iff] at hc ⊢
    rw [hid, hc]
  | some p =>
    obtain ⟨i, e⟩ := p
    obtain ⟨hi, he⟩ := current_eq_some_iff.mp hc
    exact current_eq_some_iff.mpr ⟨hid.trans hi, entry_of_own h he (current_live hc).2.1⟩

theorem activeEntry_of_own (h : t.own c = s.own c) : t.activeEntry c = s.activeEntry c := by
  unfold State.activeEntry; rw [current_of_own h]

/-- The most a regrant can give channel `c`: its request as it would ask (R109, R110). -/
def State.capOf (s : State) (c : Chan) : Nat :=
  match s.current c with
  | some (_, e) => capped (min e.planRate (s.chanConfig c).hoseMaxRate) (s.ladderCap e)
  | none => 0

theorem request_le_capOf (s : State) (c : Chan) : s.request c ≤ s.capOf c := by
  unfold State.request State.capOf
  split
  · exact Nat.le_refl _
  · exact Nat.zero_le _

theorem topRate_congr (h : ∀ x, (t.tank x).declared = (s.tank x).declared) (x : TankNo) : t.topRate x = s.topRate x := by
  have hd : (t.tank x).decl = (s.tank x).decl := congrArg Declared.decl (h x)
  unfold State.topRate
  rw [hd]

/-- Consequences keep what a tank is declared as (R19). -/
theorem Writes.declared_eq (h : Writes P s t) (hP : ∀ p ∈ P, p = .tanks ∨ p.item ≠ .tanks ∧ p.item ≠ .many := by decide) (x : TankNo) :
    (t.tank x).declared = (s.tank x).declared := by
  refine h.keeps (I := fun v => (v.tank x).declared = (s.tank x).declared) (fun p hp v w hw hv => ?_) rfl
  rcases hP p hp with rfl | hp
  · cases hw with
    | tank y k v hk =>
      rw [tank_setTank]
      split
      case isTrue hy => rw [hk.declared, hy]; exact hv
      case isFalse => exact hv
  · rw [(hw.writes (P := [p]) (by simp)).tank_eq (by simpa using hp)]; exact hv

theorem capOf_congr (ho : t.own c = s.own c) (hc : t.config = s.config) (hd : ∀ x, (t.tank x).declared = (s.tank x).declared) :
    t.capOf c = s.capOf c := by
  unfold State.capOf State.ladderCap State.chanConfig
  rw [current_of_own ho, hc]
  cases s.current c with
  | none => rfl
  | some p => simp only [topRate_congr hd]

theorem Channel.granted_le (k : Channel) (g n : Nat) : (k.granted g n).grant ≤ g := by
  unfold Channel.granted
  split
  · split
    · exact Nat.zero_le _
    · exact Nat.le_refl _
  · split
    · exact Nat.zero_le _
    · exact Nat.le_refl _
  all_goals exact Nat.zero_le _

/-- What a step that does not concern channel `c` does to it: its entries stay, and its record but for what regrants write; while `c` does not
ask (R109) all its record stays and no evaluation of it is handed on. -/
structure State.Spares (s : State) (c : Chan) (t : State) : Prop where
  own : t.own c = s.own c
  cap : t.capOf c = s.capOf c
  ungranted : (t.chan c).ungranted = (s.chan c).ungranted
  grant : (t.chan c).grant ≤ max (s.chan c).grant (s.capOf c)
  chan : (s.chan c).asks = false → (s.chan c).FlowsByGrant → t.chan c = s.chan c
  evals : (s.chan c).asks = false → (s.chan c).FlowsByGrant → c ∉ s.evals → c ∉ t.evals

theorem State.Spares.refl (c : Chan) (s : State) : s.Spares c s := ⟨rfl, rfl, rfl, Nat.le_max_left .., fun _ _ => rfl, fun _ _ => id⟩

theorem State.Spares.trans (h : s.Spares c t) (g : t.Spares c u) : s.Spares c u where
  own := g.own.trans h.own
  cap := g.cap.trans h.cap
  ungranted := g.ungranted.trans h.ungranted
  grant := by
    refine g.grant.trans ?_
    rw [h.cap]
    exact max_le h.grant (Nat.le_max_right ..)
  chan ha hf := by
    have hc := h.chan ha hf
    exact (g.chan (by rw [hc]; exact ha) (by rw [hc]; exact hf)).trans hc
  evals ha hf hv := by
    have hc := h.chan ha hf
    exact g.evals (by rw [hc]; exact ha) (by rw [hc]; exact hf) (h.evals ha hf hv)

theorem State.Spares.ite {b : Prop} [Decidable b] (ht : s.Spares c t) (hu : s.Spares c u) : s.Spares c (if b then t else u) := by
  split
  · exact ht
  · exact hu

theorem State.Spares.foldl {α : Type} {f : State → α → State} (h : ∀ (s : State) a, s.Spares c (f s a)) (xs : List α) (s : State) :
    s.Spares c (xs.foldl f s) := by
  induction xs generalizing s with
  | nil => exact .refl c s
  | cons a xs ih => exact (h s a).trans (ih _)

theorem own_congr (h : t.entry = s.entry) : t.own c = s.own c := by
  funext i; rw [State.own, h]; rfl

/-- Writes of no entry and no evaluation that leave channel `c`'s record spare it. -/
theorem Writes.spares_of (h : Writes P s t) (hc : t.chan c = s.chan c)
    (hP : ∀ p ∈ P, p.item ≠ .plan ∧ p.item ≠ .evals ∧ p.item ≠ .config ∧ p.item ≠ .many ∧ (p = .tanks ∨ p.item ≠ .tanks) := by decide) :
    s.Spares c t := by
  have hown : t.own c = s.own c := own_congr (h.entry_eq fun p hp => ⟨(hP p hp).1, (hP p hp).2.2.2.1⟩)
  exact {
    own := hown
    cap := capOf_congr hown (h.config_eq fun p hp => ⟨(hP p hp).2.2.1, (hP p hp).2.2.2.1⟩)
      (h.declared_eq fun p hp => (hP p hp).2.2.2.2.imp_right fun ht => ⟨ht, (hP p hp).2.2.2.1⟩)
    ungranted := by rw [hc]
    grant := by rw [hc]; exact Nat.le_max_left ..
    chan := fun _ _ => hc
    evals := fun _ _ hv => by rw [h.evals_eq fun p hp => ⟨(hP p hp).2.1, (hP p hp).2.2.2.1⟩]; exact hv }

/-- Writes of no entry, no channel and no evaluation. -/
theorem Writes.spares (h : Writes P s t)
    (hP : ∀ p ∈ P, (p.item ≠ .plan ∧ p.item ≠ .evals ∧ p.item ≠ .config ∧ p.item ≠ .many ∧ (p = .tanks ∨ p.item ≠ .tanks))
      ∧ p.item ≠ .channels := by decide) : s.Spares c t :=
  h.spares_of (by rw [h.chan_eq fun p hp => ⟨(hP p hp).2, (hP p hp).1.2.2.2.1⟩]) fun p hp => (hP p hp).1

/-! ### The regrant (R108 to R111) -/

theorem evals_regrant (z : Bool) (s : State) : (regrant z s).evals = s.evals ++ s.regranted := by
  have htold : (regrantTold z s (giveAll s)).evals = s.evals := by
    have hw : Writes [.notices] (giveAll s) (regrantTold z s (giveAll s)) :=
      (Writes.ite (P := [.notices]) (noteHeader_writes .grants (giveAll s)) (.refl _)).then
        (Writes.foldl (P := [.notices]) (fun x c => noteRegrant_writes s c x) chans _)
    rw [hw.evals_eq, giveAll_eq]
  rw [regrant_eq, htold]

/-- A channel that does not ask has no grant to lose and none to win (R109). -/
theorem newGrant_of_not_asks (ha : (s.chan c).asks = false) : s.newGrant c = 0 :=
  Nat.eq_zero_of_not_pos fun h => by
    have := asks_of_newGrant h
    rw [ha] at this; cases this

theorem Channel.grant_of_not_asks {k : Channel} (ha : k.asks = false) (hf : k.FlowsByGrant) : k.grant = 0 :=
  Nat.eq_zero_of_not_pos fun h => by
    rw [Channel.asks, hf.1.mp h] at ha; cases ha

theorem not_mem_regranted (ha : (s.chan c).asks = false) (hf : (s.chan c).FlowsByGrant) : c ∉ s.regranted := by
  rw [State.regranted, List.mem_filter, newGrant_of_not_asks ha, Channel.grant_of_not_asks ha hf]
  simp

theorem regrant_spares (z : Bool) (c : Chan) (s : State) : s.Spares c (regrant z s) where
  own := own_congr (regrant_writes z s).entry_eq
  cap := capOf_congr (own_congr (regrant_writes z s).entry_eq) (regrant_writes z s).config_eq (regrant_writes z s).declared_eq
  grant := by
    rw [chan_regrant]
    exact (Channel.granted_le ..).trans ((newGrant_le_request s c).trans ((request_le_capOf s c).trans (Nat.le_max_right ..)))
  ungranted := by rw [chan_regrant]; exact Channel.ungranted_granted ..
  chan ha hf := by
    rw [chan_regrant, newGrant_of_not_asks ha]
    exact Channel.granted_self hf (Channel.grant_of_not_asks ha hf) _
  evals ha hf hv := by
    rw [evals_regrant, List.mem_append, not_or]
    exact ⟨hv, not_mem_regranted ha hf⟩

/-! ### Another channel's record and another's entries -/

section
variable (hd : d ≠ c)
include hd

theorem updateChan_spares (f : Channel → Channel) (s : State) : s.Spares c (updateChan d f s) where
  own := own_congr (by rw [updateChan_made]; rfl)
  cap := by rw [updateChan_made]; rfl
  ungranted := by rw [chan_updateChan, if_neg hd]
  grant := by rw [chan_updateChan, if_neg hd]; exact Nat.le_max_left ..
  chan _ _ := by rw [chan_updateChan, if_neg hd]
  evals _ _ hv := by rw [updateChan_made]; exact hv

theorem modChan_spares (f : Channel → Channel) (s : State) : s.Spares c (s.modChan d f) where
  own := rfl
  cap := rfl
  ungranted := by rw [chan_modChan, if_neg hd]
  grant := by rw [chan_modChan, if_neg hd]; exact Nat.le_max_left ..
  chan _ _ := by rw [chan_modChan, if_neg hd]
  evals _ _ := id

theorem moveChan_spares (f : Channel → Channel) (s : State) : s.Spares c (moveChan d f s) :=
  (modChan_spares hd f s).trans
    ((noteStateChange_writes s d _).then (noteHoldsChange_writes ..) (R := [.notices])).spares

theorem closeValve_spares (s : State) : s.Spares c (closeValve d s) := by
  unfold closeValve
  split
  case h_1 => exact updateChan_spares hd _ s
  case h_2 => exact updateChan_spares hd _ s
  case h_3 => exact moveChan_spares hd _ s
  all_goals exact .refl c s

theorem setAuth_spares (v : Bool) (s : State) : s.Spares c (setAuth d v s) :=
  .ite (.refl c s) ((modChan_spares hd _ s).trans (noteChan_writes ..).spares)

theorem setHighSoon_spares (v : Bool) (s : State) : s.Spares c (setHighSoon d v s) :=
  (setHighSoon_writes d v s).spares_of (by rw [chan_setHighSoon, if_neg hd])

theorem setUnmetered_spares (t : TankNo) (v : Bool) (s : State) : s.Spares c (setUnmetered d t v s) :=
  (setUnmetered_writes d t v s).spares_of (by rw [chan_setUnmetered, if_neg hd])

omit hd in
theorem headerUncall_spares (s : State) : s.Spares c (headerUncall s) := (headerUncall_writes s).spares

theorem closeChannel_spares (s : State) : s.Spares c (closeChannel d s) := by
  unfold closeChannel
  simp only
  exact .ite (((closeValve_spares hd s).trans (.ite (headerUncall_spares _) (.refl c _))).trans (regrant_spares ..)) (.refl c s)

theorem leaveActive_spares (t : TankNo) (s : State) : s.Spares c (leaveActive d t s) :=
  (leaveActive_writes d t s).spares_of (by
    rw [leaveActive, chan_removeHolds, if_neg hd, chan_modTank, chan_setUnmetered, if_neg hd, chan_setHighSoon, if_neg hd])

end

/-- An entry that is not channel `c`'s, rewritten under its own channel, leaves the channel's own. -/
theorem own_modEntry {f : Entry → Entry} (h : s.own c i = none) (hf : ∀ e, (f e).chan = e.chan) : (s.modEntry i f).own c = s.own c := by
  funext j
  rw [State.own, entry_modEntry]
  split
  case isTrue hij =>
    subst hij
    rw [h]
    cases he : s.entry i with
    | none => rfl
    | some e =>
      have hne : e.chan ≠ c := fun hc => by
        rw [own_eq_some_iff.mpr ⟨he, hc⟩] at h; cases h
      simp [hf, hne]
  case isFalse => rfl

theorem modEntry_spares {f : Entry → Entry} (h : s.own c i = none) (hf : ∀ e, (f e).chan = e.chan) : s.Spares c (s.modEntry i f) where
  own := own_modEntry h hf
  cap := capOf_congr (own_modEntry h hf) rfl fun _ => rfl
  grant := Nat.le_max_left ..
  ungranted := rfl
  chan _ _ := rfl
  evals _ _ := id

theorem State.Spares.own_none (h : s.Spares c t) (hn : s.own c i = none) : t.own c i = none := by rw [h.own]; exact hn

theorem noteEntry_spares (ev : EntryEvent) (i : EntryId) (s : State) : s.Spares c (noteEntry ev i s) := (noteEntry_writes ..).spares

theorem clearSlug_spares (h : s.own c i = none) : s.Spares c (clearSlug i s) := by
  unfold clearSlug
  split
  case h_1 e he =>
    have hd : e.chan ≠ c := fun hc => by
      rw [own_eq_some_iff.mpr ⟨he, hc⟩] at h; cases h
    have hslug := modEntry_spares (f := fun e => { e with slug := some { phase := .idle, size := none, base := none } }) h fun _ => rfl
    split
    · exact .ite (hslug.trans (updateChan_spares hd _ _)) hslug
    · exact .refl c s
  case h_2 => exact .refl c s

theorem markEnd_spares (r : EndReason) (h : s.own c i = none) : s.Spares c (markEnd i r s) := by
  unfold markEnd
  split
  · split
    · have hend := (modEntry_spares (f := fun e => { e with endPending := some r }) h fun _ => rfl).trans
        (noteEntry_spares .endPending i _)
      exact hend.trans (clearSlug_spares (hend.own_none h))
    · exact .refl c s
  · exact .refl c s

theorem own_none_of_current {e : Entry} (h : s.current d = some (i, e)) (hd : d ≠ c) : s.own c i = none :=
  own_eq_none_of (current_live h).1 (by rw [(current_live h).2.1]; exact hd)

theorem promote_spares (hd : d ≠ c) (s : State) : s.Spares c (promote d s).1 := by
  unfold promote
  split
  case h_1 j e hc =>
    split
    · exact modEntry_spares (own_none_of_current hc hd) fun _ => rfl
    · exact .refl c s
  case h_2 => exact .refl c s

theorem setEnded_spares (d : Chan) (s : State) : s.Spares c (setEnded d s) := ⟨rfl, rfl, rfl, Nat.le_max_left .., fun _ _ => rfl, fun _ _ => id⟩

theorem afterFinish_spares (hd : d ≠ c) (i : EntryId) (r : EndReason) (n : Nat) (s : State) : s.Spares c (afterFinish d i r n s) := by
  have hrotate : s.Spares c (if terminalState r n = .cancelled then (promote d s).1 else rotate d (promote d s).1) :=
    .ite (promote_spares hd s) ((promote_spares hd s).trans (rotate_writes ..).spares)
  have hgrant := (hrotate.trans (regrant_spares false c _)).trans (setEnded_spares d _)
  have hauth (u : State) : u.Spares c (if (u.current d).isNone then setAuth d false u else u) :=
    .ite (setAuth_spares hd false u) (.refl c u)
  have htold := (hgrant.trans (hauth _)).trans (noteEntry_spares .state i _)
  unfold afterFinish
  simp only
  split
  · exact htold.trans (noteEntry_spares ..)
  · exact htold

theorem applyEnd_spares (hd : d ≠ c) (h : s.own c i = none) : s.Spares c (applyEnd d i s) := by
  cases he : s.entry i with
  | none => unfold applyEnd; rw [he]; exact .refl c s
  | some e =>
    cases hr : e.endPending with
    | none => unfold applyEnd; rw [he]; simp only [hr]; exact .refl c s
    | some r =>
      have hfinish := modEntry_spares (f := fun e => e.finish r s.now) h fun _ => rfl
      rw [applyEnd_eq he hr]
      exact (hfinish.trans (.ite (leaveActive_spares hd _ _) (.refl c _))).trans (afterFinish_spares hd ..)

theorem settleEnd_spares (hd : d ≠ c) (s : State) : s.Spares c (settleEnd d s) := by
  unfold settleEnd
  split
  case h_1 j e hc => exact .ite (applyEnd_spares hd (own_none_of_current hc hd)) (.refl c s)
  case h_2 => exact .refl c s

theorem settleSet_spares (hd : d ≠ c) (b : Option EndReason) (s : State) : s.Spares c (settleSet b d s) :=
  .ite (.refl c s) (settleEnd_spares hd s)

theorem endCurrent_spares (hd : d ≠ c) (r : EndReason) (h : s.own c i = none) : s.Spares c (endCurrent d i r s) := by
  unfold endCurrent
  split
  · simp only
    refine .ite (.refl c s) (((markEnd_spares r h).trans (.ite (closeChannel_spares hd _) (.refl c _))).trans (settleEnd_spares hd _))
  · exact .refl c s

/-! ### An evaluation of another channel (R53, R54) -/

theorem lowerStage_spares (st : Stage) (h : s.own c i = none) : s.Spares c (lowerStage i st s) :=
  (modEntry_spares (f := fun e => { e with stage := some st }) h fun _ => rfl).trans (noteEntry_spares .stage i _)

theorem finalStage_spares (hd : d ≠ c) (h : s.own c i = none) : s.Spares c (finalStage d i s) := by
  have hmark := markEnd_spares .levelFinal h
  exact (hmark.trans (clearSlug_spares (hmark.own_none h))).trans (closeChannel_spares hd _)

theorem sizeSlug_spares (hd : d ≠ c) (v : Nat) (m : Int) (h : s.own c i = none) : s.Spares c (sizeSlug d i v m s) := by
  have hlower := lowerStage_spares .final h
  unfold sizeSlug
  split
  · simp only
    exact .ite (.ite (modEntry_spares h fun _ => rfl) (hlower.trans (finalStage_spares hd (hlower.own_none h)))) (.refl c s)
  · exact .refl c s

theorem applyStage_spares (hd : d ≠ c) (k : EvalKind) (x : LevelHalf) (y : TankDecl) (h : s.own c i = none) :
    s.Spares c (applyStage k d i x y s) := by
  unfold applyStage
  split
  case h_2 => exact .refl c s
  case h_1 e _ =>
    simp only
    split
    · have hset := modEntry_spares (f := fun e => { e with stage := some x.computed }) h fun _ => rfl
      exact .ite (hset.trans (finalStage_spares hd (hset.own_none h)))
        (.ite (hset.trans (sizeSlug_spares hd _ _ (hset.own_none h))) hset)
    case h_2 held _ =>
      have hfell : s.Spares c (if decide (held.lower x.computed ≠ held) = true then lowerStage i (held.lower x.computed) s else s) :=
        .ite (lowerStage_spares _ h) (.refl c s)
      have hgrant (b : Prop) [Decidable b] := State.Spares.ite (b := b) (hfell.trans (regrant_spares false c _)) hfell
      exact .ite (.ite (hfell.trans (finalStage_spares hd (hfell.own_none h))) hfell)
        (.ite ((hgrant _).trans (sizeSlug_spares hd _ _ ((hgrant _).own_none h))) (hgrant _))

theorem endSettling_spares (hd : d ≠ c) (v : Nat) (m : Int) (h : s.own c i = none) : s.Spares c (endSettling d i v m s) := by
  have hclear := clearSlug_spares h
  unfold endSettling
  split
  · exact .ite (.refl c s) ((hclear.trans (sizeSlug_spares hd v m (hclear.own_none h))).trans (regrant_spares ..))
  · exact .refl c s

theorem meterHalf_spares (hd : d ≠ c) (a : Nat) (h : s.own c i = none) : s.Spares c (meterHalf d i a s) := by
  unfold meterHalf
  split
  · exact .ite ((markEnd_spares .allotment h).trans (closeChannel_spares hd _)) (.refl c s)
  · exact .refl c s

theorem writeMargin_spares (q a : Nat) (x : Option LevelHalf) (h : s.own c i = none) : s.Spares c (writeMargin i q a x s) := by
  unfold writeMargin
  exact modEntry_spares h fun _ => rfl

theorem levelSteps_spares (hd : d ≠ c) (k : EvalKind) (e : Entry) (h : s.own c i = none) : s.Spares c (levelSteps k d i e s) := by
  unfold levelSteps
  split
  case h_2 => exact .refl c s
  case h_1 x y _ _ =>
    have hsoon := ((judgeAbove_writes e.tank s).spares (c := c)).trans (setHighSoon_spares hd x.t.soon (judgeAbove e.tank s))
    have hstage := hsoon.trans (applyStage_spares hd k x y (hsoon.own_none h))
    exact .ite (hstage.trans (endSettling_spares hd _ _ (hstage.own_none h))) hstage

theorem evaluate_spares (hd : d ≠ c) (k : EvalKind) (s : State) : s.Spares c (evaluate k d s) := by
  cases h : s.activeEntry d with
  | none => rw [evaluate_none h]; exact .refl c s
  | some p =>
    obtain ⟨i, e⟩ := p
    have hn : s.own c i = none := own_none_of_current (activeEntry_eq_some_iff.mp h).1 hd
    have hlevel := levelSteps_spares hd k e hn
    have hmeter := hlevel.trans (meterHalf_spares hd (closureAllowance (s.marginRate d e k) (s.chanConfig d).strokeTime) (hlevel.own_none hn))
    rw [evaluate_eq h]
    exact (hmeter.trans (writeMargin_spares _ _ _ (hmeter.own_none hn))).trans (settleSet_spares hd e.endPending _)

/-- A channel that does not ask and is not itself to be evaluated is as it was past the evaluations (R111 step 4). -/
theorem runEvals_spares (n : Nat) {s : State} (ha : (s.chan c).asks = false) (hf : (s.chan c).FlowsByGrant) (hv : c ∉ s.evals) :
    (runEvals n s).chan c = s.chan c ∧ (runEvals n s).own c = s.own c := by
  induction n generalizing s with
  | zero => exact ⟨rfl, rfl⟩
  | succ n ih =>
    unfold runEvals
    split
    case h_1 => exact ⟨rfl, rfl⟩
    case h_2 d rest he =>
      have hd : d ≠ c := by rintro rfl; exact hv (by rw [he]; exact List.mem_cons_self ..)
      have hrest : c ∉ rest := fun hm => hv (by rw [he]; exact List.mem_cons_of_mem _ hm)
      have hspare := evaluate_spares hd .change { s with evals := rest }
      have hc := hspare.chan ha hf
      obtain ⟨h1, h2⟩ := ih (s := evaluate .change d { s with evals := rest }) (by rw [hc]; exact ha) (by rw [hc]; exact hf)
        (hspare.evals ha hf hrest)
      exact ⟨h1.trans hc, h2.trans hspare.own⟩

theorem effect_spares {f : State → State} (ha : ((f s).chan c).asks = false) (hf : ((f s).chan c).FlowsByGrant) (hv : c ∉ (f s).evals) :
    (effect f s).chan c = (f s).chan c ∧ (effect f s).own c = (f s).own c := runEvals_spares evalBudget ha hf hv

/-! ### Cautions and the horn (R160) -/

/-- The class in force and the horn at it, through writes that leave the record and the last stops. -/
theorem Writes.horn_trip (h : Writes P s t) (hn : s.trip.state ≠ .normal) (hh : s.trip.horn = .trip)
    (hP : ∀ p ∈ P, p = .trip ∨ p.item ≠ .trip ∧ p.item ≠ .many := by decide) : t.trip.horn = .trip := by
  refine (h.keeps (I := fun u => u.trip.state ≠ .normal ∧ u.trip.horn = .trip) (fun p hp u v hw hu => ?_) ⟨hn, hh⟩).2
  rcases hP p hp with rfl | ⟨h1, h2⟩
  · cases hw with
    | trip x _ hx hor =>
      have hstate : x.state ≠ .normal := by rw [hx.state]; exact hu.1
      refine ⟨hstate, hor.elim (fun h => h.trans hu.2) fun h => h.trans ?_⟩
      exact hornClass_of_tripped hstate
  · rw [(hw.writes (P := [p]) (by simp)).trip_eq (by simpa using ⟨h1, h2⟩)]; exact hu

theorem hornClass_of_alarm (hn : s.trip.state = .normal) (ha : (s.chan c).alarm = true) : s.hornClass = .alarm := by
  unfold State.hornClass
  rw [if_neg (by rw [hn]; decide), if_pos (List.any_eq_true.mpr ⟨c, mem_chans c, ha⟩)]

/-- A channel stop not acknowledged keeps the horn at ALARM while the part is NORMAL (R158, R160). -/
theorem Writes.horn_alarm (h : Writes P s t) (hn : s.trip.state = .normal) (hh : s.trip.horn = .alarm) (ha : (s.chan c).alarm = true)
    (hP : ∀ p ∈ P, p = .trip ∨ p.item ≠ .trip ∧ p.item ≠ .many := by decide)
    (hL : ∀ p ∈ P, p = .chans ∨ p = .grants ∨ p = .zero ∨ p = .opens ∨ p = .inputs ∨ p.item ≠ .channels ∧ p.item ≠ .many := by decide) :
    t.trip.horn = .alarm := by
  refine (h.keeps (I := fun u => u.trip.state = .normal ∧ (u.chan c).alarm = true ∧ u.trip.horn = .alarm) (fun p hp u v hw hu => ?_)
    ⟨hn, ha, hh⟩).2.2
  obtain ⟨hu1, hu2, hu3⟩ := hu
  have hlast : (v.chan c).lastStop = (u.chan c).lastStop := (hw.writes (P := [p]) (by simp)).lastStop_eq (by simpa using hL p hp) c
  have halarm : (v.chan c).alarm = true := by unfold Channel.alarm at hu2 ⊢; rw [hlast]; exact hu2
  rcases hP p hp with rfl | ⟨h1, h2⟩
  · cases hw with
    | trip x _ hx hor =>
      have hstate : x.state = .normal := by rw [hx.state]; exact hu1
      refine ⟨hstate, halarm, hor.elim (fun h => h.trans hu3) fun h => h.trans ?_⟩
      exact hornClass_of_alarm (s := { u with trip := x }) hstate halarm
  · rw [(hw.writes (P := [p]) (by simp)).trip_eq (by simpa using ⟨h1, h2⟩)]; exact ⟨hu1, halarm, hu3⟩

/-! SUPPORT. What a command's effect can be: no CLEAR and no INIT, or a PROPOSE or an ENDORSE that may adopt one. -/


/-- The kinds of a step that bring no CLEAR and no INIT about. -/
abbrev plainParts : List Part := stepParts.filter fun p => p ≠ .clear ∧ p ≠ .init

/-- The kinds in `P` but a CLEAR's and an INIT's. -/
abbrev plainOf (P : List Part) : List Part := P.filter fun p => p ≠ .clear ∧ p ≠ .init

/-- From `s` to `t` by a PROPOSE or an ENDORSE: the frame's arrival, the request judged, the reply. -/
def ByConsent (s t : State) : Prop := ∃ u v, Writes [.line, .notices] s u ∧ ConsentOutcome u v ∧ Writes [.line] v t

theorem requestParts_plain {k : RequestKind} (h1 : k ≠ .propose) (h2 : k ≠ .endorse) (p : Side) :
    frameParts p k ⊆ plainOf (frameParts p k) := by
  cases k with
  | propose => exact absurd rfl h1
  | endorse => exact absurd rfl h2
  | _ => cases p <;> decide

theorem judgeRequest_outcome {k : RequestKind} (hk : k = .propose ∨ k = .endorse) (p : Side) (body : List Byte) (s : State) :
    ConsentOutcome s (judgeRequest p k body s).1 := by
  unfold judgeRequest
  split
  case isFalse => exact .refl s
  split
  case h_2 => exact .refl s
  case h_1 r hr =>
    have hkind := kind_of_decode hr
    cases r with
    | propose b => exact propose_outcome p b s
    | endorse i b => exact endorse_outcome p i b s
    | _ => rcases hk with rfl | rfl <;> cases hkind

theorem takeRequest_outcome (p : Side) (k : RequestKind) (body : List Byte) (s : State) :
    Writes (plainOf (frameParts p k)) s (takeRequest p k body s) ∨ ((k = .propose ∨ k = .endorse) ∧ ByConsent s (takeRequest p k body s)) := by
  by_cases hk : k = .propose ∨ k = .endorse
  case neg =>
    rw [not_or] at hk
    exact .inl ((takeRequest_writes p k body s).mono (requestParts_plain hk.1 hk.2 p))
  have hlink := refreshLink_writes p s
  have hjudge := judgeRequest_outcome hk p body (refreshLink p s)
  unfold takeRequest
  simp only
  split
  case isTrue => exact .inl (hlink.mono (by simp [frameParts, plainOf]))
  case isFalse hr =>
    have hline := line_judgeRequest p k body (refreshLink p s) p
    exact .inr ⟨hk, _, _, hlink, hjudge, pushReply_writes ((congrArg Line.link hline).trans (live_refreshLink p s))
      ((congrArg (fun l => l.replies.length) hline).trans_lt (Nat.lt_of_not_le hr))⟩

theorem plainOf_mono {P Q : List Part} (h : P ⊆ Q) : plainOf P ⊆ plainOf Q := fun _ hp =>
  List.mem_filter.mpr ⟨h (List.mem_filter.mp hp).1, (List.mem_filter.mp hp).2⟩

theorem frameParts_sub_any {p : Side} {k : RequestKind} (h : permits k p = true) : frameParts p k ⊆ anyFrameParts p := by
  intro q hq
  simp only [frameParts, anyFrameParts, List.mem_cons, List.mem_flatMap, List.mem_filter] at hq ⊢
  exact hq.imp_right fun hq => hq.imp_right fun hq => ⟨k, ⟨mem_requestKinds k, h⟩, hq⟩

theorem takeFrame_outcome (p : Side) (k : Byte) (body : List Byte) (s : State) :
    Writes (plainOf (anyFrameParts p)) s (takeFrame p k body s) ∨ ByConsent s (takeFrame p k body s) := by
  have hline : [.line, .notices] ⊆ plainOf (anyFrameParts p) := by simp [anyFrameParts, plainOf]
  unfold takeFrame
  split
  case h_1 k _ =>
    cases hp : permits k p with
    | false => exact .inl ((takeRequest_refused hp).mono hline)
    | true => exact (takeRequest_outcome ..).imp (fun h => h.mono (plainOf_mono (frameParts_sub_any hp))) And.right
  case h_2 => exact .inl ((takeUnassigned_writes ..).mono hline)

theorem takeByte_outcome (p : Side) (b : Byte) (s : State) :
    Writes (plainOf (anyFrameParts p)) s (takeByte p b s) ∨ ByConsent s (takeByte p b s) := by
  have hrx (r : Option (List Byte)) : Writes (plainOf (anyFrameParts p)) s (s.modPort p fun x => { x with rx := r }) :=
    (rx_writes p r s).mono (by simp [anyFrameParts, plainOf])
  unfold takeByte
  split
  · exact .inl (Writes.ite (hrx _) (.refl s))
  · split
    · exact .inl (hrx _)
    · exact .inl (hrx _)
    · exact takeFrame_outcome ..

theorem anyFrameParts_plain (p : Side) : plainOf (anyFrameParts p) ⊆ plainParts := by cases p <;> decide

/-- The kinds of a command that is well formed: no frame of an unassigned KIND is a request. -/
def formedParts : Instr → List Part
  | .unassignedKindFrame .. => [.line, .notices]
  | i => commandParts i

/-- A frame of an unassigned KIND is no request's. -/
def IsFormed (i : Instr) : Prop := ∀ p k b, i = .unassignedKindFrame p k b → RequestKind.ofCode k = none

theorem isFormed_of_wellFormed {i : Instr} (h : i.wellFormed = true) : IsFormed i := by
  rintro p k b rfl
  simp only [Instr.wellFormed, Bool.and_eq_true, Option.isNone_iff_eq_none] at h
  exact h.2

theorem effect_formed {i : Instr} (h : ∀ f, i ≠ .powerOn f) (hi : IsFormed i) (s : State) :
    Writes (formedParts i) s (commandEffect i s) := by
  cases i with
  | unassignedKindFrame p k b =>
    have htake : commandEffect (.unassignedKindFrame p k b) s = takeUnassigned p k b s := by rw [commandEffect, takeFrame, hi p k b rfl]
    rw [htake]; exact takeUnassigned_writes ..
  | _ => exact effect_writes h s

/-- A command by which a part can adopt a proposal, at once or with the byte that completes its frame. -/
def MayConsent (i : Instr) : Prop := ∃ p, (∃ b, i = .propose p b ∨ i = .endorse p b) ∨ ∃ x, i = .byteReceived p x

theorem formedParts_sub (i : Instr) : formedParts i ++ finishParts ⊆ stepParts := by
  have hsub := commandParts_sub i
  cases i with
  | unassignedKindFrame => simp only [formedParts]; decide
  | _ => exact hsub

theorem formedParts_plain {i : Instr} (h : ¬ MayConsent i) : formedParts i ⊆ plainOf (formedParts i) := by
  have hrequest (p : Side) {k : RequestKind} (h1 : k ≠ .propose) (h2 : k ≠ .endorse) := requestParts_plain h1 h2 p
  cases i with
  | propose p b => exact absurd ⟨p, .inl ⟨b, .inl rfl⟩⟩ h
  | endorse p b => exact absurd ⟨p, .inl ⟨b, .inr rfl⟩⟩ h
  | byteReceived p x => exact absurd ⟨p, .inr ⟨x, rfl⟩⟩ h
  | chconfig p _ | headerconfig p _ | priority p _ =>
    cases p with
    | barge => exact hrequest .barge (by decide) (by decide)
    | ship => simp only [formedParts, commandParts]; decide
  | status p _ | readEntry p _ | readTank p _ | readChannel p _ | readTrip p _ | stop p _ | stopAll p _
  | pause p _ | continue_ p _ | silence p _ | tankdef p _ | strapSeek p _ | strapPut p _ | strapSeal p _ | level p _ | lineup p _
  | entryEnd p _ | arm p _ | mask p _ | hose p _ | store p _ => exact hrequest p (by decide) (by decide)
  | _ => simp only [formedParts, commandParts]; decide

theorem effect_outcome {i : Instr} (h : ∀ f, i ≠ .powerOn f) (hi : IsFormed i) (s : State) :
    Writes (plainOf (formedParts i)) s (commandEffect i s) ∨ (MayConsent i ∧ ByConsent s (commandEffect i s)) := by
  by_cases hc : MayConsent i
  case neg => exact .inl ((effect_formed h hi s).mono (formedParts_plain hc))
  have hout : Writes (plainOf (formedParts i)) s (commandEffect i s) ∨ ByConsent s (commandEffect i s) := by
    obtain ⟨p, ⟨b, rfl | rfl⟩ | ⟨x, rfl⟩⟩ := hc
    · exact (takeRequest_outcome p .propose b s).imp_right And.right
    · exact (takeRequest_outcome p .endorse b s).imp_right And.right
    · exact takeByte_outcome p x s
  exact hout.imp_right fun h => ⟨hc, h⟩

theorem finishParts_plain : finishParts ⊆ plainParts := by decide

/-- A loss of supply is its effect's writes alone; any other command but POWER_ON also what follows its effect. -/
theorem exec_effect {i : Instr} {s t : State} (h : exec i s = .next t) (hi : ∀ f, i ≠ .powerOn f) :
    t = s ∨ Writes finishParts (commandEffect i s) t := by
  have hrun {f : State → State} (ht : whileOn s f = .next t) (hf : Writes finishParts (commandEffect i s) (f s)) :
      t = s ∨ Writes finishParts (commandEffect i s) t := by
    rw [whileOn] at ht
    cases ht
    split
    · exact .inr hf
    · exact .inl rfl
  cases hs : ofSupply i with
  | true =>
    cases i with
    | powerOn f => exact absurd rfl (hi f)
    | powerLoss => exact hrun h (.refl _)
    | _ => cases hs
  | false => rw [exec_eq hs] at h; exact hrun h (withEvals_writes _ s)

/-- What a command but POWER_ON can be. -/
theorem exec_outcome {i : Instr} {s t : State} (h : exec i s = .next t) (hi : ∀ f, i ≠ .powerOn f) :
    Writes plainParts s t ∨ ∃ u, ByConsent s u ∧ Writes finishParts u t ∧ (IsFormed i → MayConsent i) := by
  rcases exec_effect h hi with rfl | hfin
  · exact .inl (.refl _)
  have hplain {P : List Part} (h : Writes P s (commandEffect i s)) (hP : P ⊆ plainParts) : Writes plainParts s t :=
    h.then hfin hP finishParts_plain
  by_cases hf : IsFormed i
  · rcases effect_outcome hi hf s with heff | ⟨hc, heff⟩
    · exact .inl (hplain heff (plainOf_mono (List.Subset.trans (List.subset_append_left ..) (formedParts_sub i))))
    · exact .inr ⟨_, heff, hfin, fun _ => hc⟩
  · have hunassigned : ∃ p k b, i = .unassignedKindFrame p k b := by
      by_contra hn
      exact hf fun p k b hi => absurd ⟨p, k, b, hi⟩ hn
    obtain ⟨p, k, b, rfl⟩ := hunassigned
    rcases takeFrame_outcome p k b s with heff | heff
    · exact .inl (hplain heff (anyFrameParts_plain p))
    · exact .inr ⟨_, heff, hfin, fun h => absurd h hf⟩

/-! ### A CLEAR adopted (R156) -/

/-- The kinds of a step but a CLEAR. -/
abbrev unclearedParts : List Part := stepParts.filter fun p => p ≠ .clear

/-- A pending CLEAR of the first-out's code adopted on the way from `s` to `t`: its proposal withdrawn, the record emptied, what follows. -/
def ByClear (s t : State) : Prop :=
  ∃ q ∈ s.queue.proposals, ∃ f u v, s.trip.firstOut = some f ∧ q.body = .clear f.cause.code ∧ u.queue = s.queue.without q.id
    ∧ Writes [.line, .withdrawals, .notices] s u ∧ Write .clear u v ∧ Writes (.line :: .sending :: startParts) v t

/-- The kinds of a PROPOSE's or an ENDORSE's frame that adopts no CLEAR. -/
abbrev consentedParts : List Part := .line :: .init :: consentParts

theorem ByConsent.cases {s t : State} (h : ByConsent s t) : Writes consentedParts s t ∨ ByClear s t := by
  obtain ⟨u, v, hline, hout, hreply⟩ := h
  rcases hout with hout | ⟨q, hq, ⟨-, hout⟩ | ⟨k, w, hk, hrej, hw, hqueue, x, hx, hstart⟩⟩
  · exact .inl (hline.then (hout.then hreply (R := consentedParts)) (Q := consentedParts))
  · exact .inl (hline.then (hout.then hreply (R := consentedParts)) (Q := consentedParts))
  · obtain ⟨-, f, hf, hcode, -⟩ := clearReject_cases hrej
    rw [hline.queue_eq] at hq hqueue
    rw [hline.trip_eq] at hf
    exact .inr ⟨q, hq, f, w, x, hf, by rw [hk, hcode], hqueue, hline.then hw, hx, hstart.then hreply⟩

theorem ByClear.then {s t u : State} (h : ByClear s t) (hw : Writes finishParts t u) : ByClear s u := by
  obtain ⟨q, hq, f, w, v, hf, hcode, hqueue, hout, hclear, hstart⟩ := h
  exact ⟨q, hq, f, w, v, hf, hcode, hqueue, hout, hclear, hstart.then hw⟩

/-- What a command but POWER_ON can be, by whether it adopts a CLEAR. -/
theorem exec_clear_cases {i : Instr} {s t : State} (h : exec i s = .next t) (hi : ∀ f, i ≠ .powerOn f) (hf : IsFormed i) :
    Writes ((formedParts i).filter (fun p => p ≠ .clear) ++ finishParts) s t ∨ (ByClear s t ∧ MayConsent i) := by
  rcases exec_effect h hi with rfl | hfin
  · exact .inl (.refl _)
  have hthen {P : List Part} (hw : Writes P s (commandEffect i s)) (hP : P ⊆ (formedParts i).filter fun p => p ≠ .clear) :
      Writes ((formedParts i).filter (fun p => p ≠ .clear) ++ finishParts) s t :=
    hw.then hfin (List.Subset.trans hP (List.subset_append_left ..)) (List.subset_append_right ..)
  rcases effect_outcome hi hf s with heff | ⟨hc, heff⟩
  · exact .inl (hthen heff fun p hp => List.mem_filter.mpr ⟨(List.mem_filter.mp hp).1, by simpa using (of_decide_eq_true (List.mem_filter.mp hp).2).1⟩)
  rcases heff.cases with hw | hw
  · refine .inl (hthen hw ?_)
    obtain ⟨p, ⟨b, rfl | rfl⟩ | ⟨x, rfl⟩⟩ := hc
    · cases p <;> simp only [formedParts, commandParts] <;> decide
    · cases p <;> simp only [formedParts, commandParts] <;> decide
    · cases p <;> simp only [formedParts, commandParts] <;> decide
  · exact .inr ⟨hw.then hfin, hc⟩

/-- What stands after a CLEAR: the record emptied and the part NORMAL (R156). -/
structure Trip.Emptied (t : Trip) : Prop where
  firstOut : t.firstOut = none
  later : t.later = []
  more : t.more = false
  normal : t.state = .normal

theorem clearLifted_writes_after (s : State) : Writes [.lift, .grants, .evals, .notices] (clearRecord s) (clearLifted s) :=
  (lifted_writes _).then (regrant_writes false _)

theorem Trip.emptied_clearLifted (s : State) : (clearLifted s).trip.Emptied := by
  rw [(clearLifted_writes_after s).trip_eq, clearRecord_trip]
  exact ⟨rfl, rfl, rfl, rfl⟩

theorem Write.trip_emptied {p : Part} {s t : State} (h : Write p s t) (hp : p ∈ (.line :: .sending :: startParts).flatMap Part.raw)
    (hs : s.trip.Emptied) : t.trip.Emptied := by
  by_cases hi : p = .trip
  · subst hi
    cases h with
    | trip x s hx => exact ⟨hx.firstOut.trans hs.firstOut, hx.later.trans hs.later, hx.more.trans hs.more, hx.state.trans hs.normal⟩
  · have hitem : ∀ p ∈ (.line :: .sending :: startParts).flatMap Part.raw, p ≠ .trip → p.item ≠ .trip ∧ p.item ≠ .many := by decide
    have hsame : t.trip = s.trip := h.only.same (j := .trip) (hitem p hp hi).1 (hitem p hp hi).2
    rw [hsame]; exact hs

theorem ByClear.emptied {s t : State} (h : ByClear s t) : t.trip.Emptied := by
  obtain ⟨_, _, _, _, v, _, _, _, _, hclear, hstart⟩ := h
  refine hstart.raw.keeps (I := fun u => u.trip.Emptied) (fun p hp _ _ hw => hw.trip_emptied hp) ?_
  cases hclear with
  | clear => exact Trip.emptied_clearLifted _

theorem ByClear.withdrawn {s t : State} (h : ByClear s t) : ∃ f q, s.trip.firstOut = some f ∧ q ∈ s.queue.proposals
    ∧ q.body = .clear f.cause.code ∧ ∀ y ∈ t.queue.proposals, y.id ≠ q.id := by
  obtain ⟨q, hq, f, u, v, hf, hcode, hqueue, -, hclear, hstart⟩ := h
  refine ⟨f, q, hf, hq, hcode, fun y hy => ?_⟩
  have hafter : t.queue = u.queue := by
    rw [hstart.raw.queue_eq]
    cases hclear with
    | clear => rw [(clearLifted_writes_after u).queue_eq, clearRecord_eq]
  rw [hafter, hqueue] at hy
  simpa [ConsentQueue.without] using (List.mem_filter.mp hy).2

/-! PROOF. What only its own commands may change: the configuration and its stored copy (R175), the record of the causes (R153, R156), and
a pause (R94). -/


/-! ### The kinds that few commands bring -/

/-- The kinds that only some commands bring: a configuration and a CONTINUE's are requests', a stored copy's are the store's own. -/
abbrev ownParts : List Part := [.config, .unpauseB, .unpauseS, .copy]

theorem formedParts_cases {q : Part} (hq : q ∈ ownParts) {i : Instr} (h : q ∈ formedParts i) :
    (∃ x b, i = .byteReceived x b) ∨ (∃ x k b, i = frameCommand x k b) ∨ ((∃ v, i = .storeCompletion v) ∨ i = .powerLoss) ∧ q = .copy := by
  have hnone {P : List Part} (hP : ∀ q ∈ ownParts, q ∉ P) : q ∉ P := hP q hq
  have hcopy {P : List Part} (hP : ∀ q ∈ ownParts, q ∈ P → q = .copy) (h : q ∈ P) : q = .copy := hP q hq h
  cases i with
  | byteReceived x b => exact .inl ⟨x, b, rfl⟩
  | status x b => exact .inr (.inl ⟨x, .status, b, rfl⟩) | readEntry x b => exact .inr (.inl ⟨x, .readEntry, b, rfl⟩)
  | readTank x b => exact .inr (.inl ⟨x, .readTank, b, rfl⟩) | readChannel x b => exact .inr (.inl ⟨x, .readChannel, b, rfl⟩)
  | readTrip x b => exact .inr (.inl ⟨x, .readTrip, b, rfl⟩) | propose x b => exact .inr (.inl ⟨x, .propose, b, rfl⟩)
  | endorse x b => exact .inr (.inl ⟨x, .endorse, b, rfl⟩) | stop x b => exact .inr (.inl ⟨x, .stop, b, rfl⟩)
  | pause x b => exact .inr (.inl ⟨x, .pause, b, rfl⟩) | continue_ x b => exact .inr (.inl ⟨x, .continue_, b, rfl⟩)
  | silence x b => exact .inr (.inl ⟨x, .silence, b, rfl⟩) | tankdef x b => exact .inr (.inl ⟨x, .tankdef, b, rfl⟩)
  | strapSeek x b => exact .inr (.inl ⟨x, .strapSeek, b, rfl⟩) | strapPut x b => exact .inr (.inl ⟨x, .strapPut, b, rfl⟩)
  | strapSeal x b => exact .inr (.inl ⟨x, .strapSeal, b, rfl⟩) | level x b => exact .inr (.inl ⟨x, .level, b, rfl⟩)
  | lineup x b => exact .inr (.inl ⟨x, .lineup, b, rfl⟩) | entryEnd x b => exact .inr (.inl ⟨x, .entryEnd, b, rfl⟩)
  | chconfig x b => exact .inr (.inl ⟨x, .chconfig, b, rfl⟩) | headerconfig x b => exact .inr (.inl ⟨x, .headerconfig, b, rfl⟩)
  | priority x b => exact .inr (.inl ⟨x, .priority, b, rfl⟩) | arm x b => exact .inr (.inl ⟨x, .arm, b, rfl⟩)
  | mask x b => exact .inr (.inl ⟨x, .mask, b, rfl⟩) | hose x b => exact .inr (.inl ⟨x, .hose, b, rfl⟩)
  | store x b => exact .inr (.inl ⟨x, .store, b, rfl⟩)
  | storeCompletion v => exact .inr (.inr ⟨.inl ⟨v, rfl⟩, hcopy (by decide) (P := completionParts) h⟩)
  | powerLoss => exact .inr (.inr ⟨.inr rfl, hcopy (by decide) (P := lossParts) h⟩)
  | stopAll x => exact absurd h (hnone (by cases x <;> simp only [formedParts, commandParts] <;> decide))
  | _ => exact absurd h (hnone (by simp only [formedParts, commandParts]; decide))

/-- The requests that bring them. -/
theorem frameParts_own (x : Side) (k : RequestKind) : ∀ q ∈ ownParts, q ∈ frameParts x k →
    (q = .config ∧ (k = .chconfig ∨ k = .headerconfig ∨ k = .priority))
      ∨ (k = .continue_ ∧ (q = .unpauseB ∧ x = .barge ∨ q = .unpauseS ∧ x = .ship)) := by
  cases x <;> cases k <;> decide

theorem formedParts_frameCommand_sub (x : Side) (k : RequestKind) (b : List Byte) : formedParts (frameCommand x k b) ⊆ frameParts x k := by
  cases k with
  | chconfig | headerconfig | priority =>
    cases x with
    | barge => exact List.Subset.refl _
    | ship => simp only [frameCommand, formedParts, commandParts]; decide
  | _ => exact List.Subset.refl _

theorem anyFrameParts_own (x : Side) : ∀ q ∈ ownParts, q ∈ anyFrameParts x →
    q = .config ∨ q = .unpauseB ∧ x = .barge ∨ q = .unpauseS ∧ x = .ship := by
  cases x <;> decide

theorem formed_writes {i : Instr} {s t : State} (h : exec i s = .next t) (hi : ∀ f, i ≠ .powerOn f) (hf : IsFormed i) :
    Writes (formedParts i ++ finishParts) s t := by
  rcases exec_effect h hi with rfl | hfin
  · exact .refl _
  · exact (effect_formed hi hf s).then hfin (List.subset_append_left ..) (List.subset_append_right ..)

/-- A write of a step is of a kind it names, or leaves what that kind alone can change. -/
theorem Write.leaves_step {p : Part} {s t : State} (h : Write p s t) (hp : p ∈ stepParts) {i : Item}
    (hc : i = .channels ∨ i = .tanks ∨ i = .plan ∨ i = .queue ∨ i = .store ∨ i = .config) (hi : ∀ q ∈ p.raw, q.item ≠ i) :
    Writes p.raw s t ∧ ∀ q ∈ p.raw, ∀ u v, Write q u v → i.Same u v :=
  ⟨h.raw, fun q hq _ _ hw => hw.leaves (List.mem_flatMap.mpr ⟨p, List.mem_cons_of_mem _ hp, hq⟩) (hi q hq) hc⟩

/-! ### The configuration and its stored copy (R175) -/

theorem Write.config_eq {p : Part} {s t : State} (h : Write p s t) (hp : p ∈ stepParts) (hc : p ≠ .config) : t.config = s.config := by
  have hitem : ∀ p ∈ stepParts, p ≠ .config → ∀ q ∈ p.raw, q.item ≠ .config := by decide
  obtain ⟨hw, hkeep⟩ := h.leaves_step hp (i := .config) (by simp) (hitem p hp hc)
  exact hw.frame State.config fun q hq _ _ hw => hkeep q hq _ _ hw

theorem Write.copy_eq {p : Part} {s t : State} (h : Write p s t) (hp : p ∈ stepParts) (hc : p ≠ .copy) : t.store.copy = s.store.copy := by
  have hraw : ∀ p ∈ stepParts, p ≠ .copy → ∀ q ∈ p.raw, q ∈ rawParts ∧ q ≠ .copy := by decide
  refine h.raw.frame (fun u => u.store.copy) fun q hq u v hw => ?_
  by_cases hi : q.item = .store
  case neg =>
    have hstore : v.store = u.store := hw.leaves (i := .store) (hraw p hp hc q hq).1 hi (by simp)
    rw [hstore]
  have hcopy := (hraw p hp hc q hq).2
  cases hw with
  | store x u hx hcopy => exact hcopy
  | storeDefaults => rfl
  | copy => exact absurd rfl hcopy
  | _ => simp [Part.item] at hi

/-- Settles O7: only a configuration request writes the configuration, and only a completion and a loss of supply the stored copy. -/
theorem configurationChangesOnlyByItsOwnRows : Obligations.ConfigurationChangesOnlyByItsOwnRows := by
  intro i s t hwf h
  by_cases hi : ∃ f, i = .powerOn f
  · obtain ⟨f, rfl⟩ := hi
    exact ⟨.inr ⟨[], .inr (.inr (.inr (.inr ⟨f, rfl⟩)))⟩, .inr (.inr (.inr ⟨f, rfl⟩))⟩
  have hw := formed_writes h (fun f hf => hi ⟨f, hf⟩) (isFormed_of_wellFormed hwf)
  have hkeeps {α : Sort _} (π : State → α) {q : Part} (hq : q ∈ ownParts)
      (hπ : ∀ p ∈ stepParts, p ≠ q → ∀ u v, Write p u v → π v = π u) (hn : q ∉ formedParts i) : π t = π s := by
    refine hw.frame π fun p hp u v hw => hπ p (formedParts_sub i hp) (fun hpq => ?_) u v hw
    subst hpq
    have hfin : ∀ q ∈ ownParts, q ∉ finishParts := by decide
    exact (List.mem_append.mp hp).elim hn (hfin _ hq)
  constructor
  · by_cases hc : .config ∈ formedParts i
    case neg => exact .inl (hkeeps State.config (by simp) (fun p hp hne _ _ hw => hw.config_eq hp hne) hc)
    rcases formedParts_cases (by simp) hc with ⟨x, b, rfl⟩ | ⟨x, k, b, rfl⟩ | ⟨-, hq⟩
    · cases x with
      | barge => exact .inr ⟨[], by simp⟩
      | ship => exact absurd hc (by simp only [formedParts, commandParts]; decide)
    · rcases frameParts_own x k .config (by simp) (formedParts_frameCommand_sub x k b hc) with ⟨-, hk⟩ | ⟨-, hq⟩
      · cases x with
        | barge => rcases hk with rfl | rfl | rfl <;> exact .inr ⟨b, by simp [frameCommand]⟩
        | ship => rcases hk with rfl | rfl | rfl <;> exact absurd hc (by simp only [frameCommand, formedParts, commandParts]; decide)
      · simp at hq
    · cases hq
  · by_cases hc : .copy ∈ formedParts i
    case neg => exact .inl (hkeeps (fun u => u.store.copy) (by simp) (fun p hp hne _ _ hw => hw.copy_eq hp hne) hc)
    rcases formedParts_cases (by simp) hc with ⟨x, b, rfl⟩ | ⟨x, k, b, rfl⟩ | ⟨hcases, -⟩
    · simpa using anyFrameParts_own x .copy (by simp) hc
    · simpa using frameParts_own x k .copy (by simp) (formedParts_frameCommand_sub x k b hc)
    · exact .inr (hcases.imp_right .inl)

/-! ### The record of the causes (R153, R156) -/

theorem Write.grows {p : Part} {s t : State} (h : Write p s t) (hp : p ∈ unclearedParts) : s.trip.Grows t.trip := by
  have hraw : ∀ p ∈ unclearedParts, ∀ q ∈ p.raw, q.item ≠ .many := by decide
  refine h.raw.keeps (I := fun u => s.trip.Grows u.trip) (fun q hq u v hw hu => hu.trans ?_) (.refl _)
  by_cases hi : q.item = .trip
  case neg =>
    have hsame : v.trip = u.trip := hw.only.same (j := .trip) hi (hraw p hp q hq)
    rw [hsame]; exact .refl _
  cases hw with
  | trip x u hx => exact hx.toSameRecord.grows (by rw [hx.state]; exact id)
  | settle u ht => exact .of_same rfl rfl rfl fun _ => (fun h => nomatch h)
  | trips x u hx => exact hx.toGrows
  | loops a b u => exact .of_same rfl rfl rfl id
  | cautionDefaults x u hx hs => exact hx.grows (by rw [hs]; exact id)
  | _ => simp [Part.item] at hi

theorem Writes.grows {s t : State} (h : Writes unclearedParts s t) : s.trip.Grows t.trip :=
  h.keeps (I := fun u => s.trip.Grows u.trip) (fun _ hp _ _ hw hu => hu.trans (hw.grows hp)) (.refl _)

theorem uncleared_sub (i : Instr) : (formedParts i).filter (fun p => p ≠ .clear) ++ finishParts ⊆ unclearedParts := by
  intro p hp
  rcases List.mem_append.mp hp with h | h
  · exact List.mem_filter.mpr ⟨formedParts_sub i (List.mem_append_left _ (List.mem_filter.mp h).1), (List.mem_filter.mp h).2⟩
  · exact List.mem_filter.mpr ⟨formedParts_sub i (List.mem_append_right _ h), by
      have hfin : ∀ p ∈ finishParts, p ≠ .clear := by decide
      simpa using hfin p h⟩

/-- Settles O31: every write but a CLEAR's leaves the record to grow, and a CLEAR is adopted of the first-out's code. -/
theorem firstOutStandsUntilCleared : Obligations.FirstOutStandsUntilCleared := by
  intro i s t e hwf h he hi
  rcases exec_clear_cases h hi (isFormed_of_wellFormed hwf) with hw | ⟨hclear, hconsents⟩
  · exact .inl ((hw.mono (uncleared_sub i)).grows.firstOut e he)
  obtain ⟨f, q, hf, hq, hcode, hout⟩ := hclear.withdrawn
  rw [he] at hf; cases hf
  have hempty := hclear.emptied
  exact .inr ⟨hempty.firstOut, hempty.later, hempty.more, hempty.normal, hconsents, q, hq, hcode, hout⟩

/-! PROOF. What stands in a slot (R1, R2, R63). -/


/-- `f` stands where `e` stood: the same route, its stage no higher, and the same record where `e` was terminal (R1, R2, R63). -/
structure Entry.Stands (e f : Entry) : Prop where
  chan : f.chan = e.chan
  tank : f.tank = e.tank
  mode : f.mode = e.mode
  stage : ∀ a, e.stage = some a → ∃ b, f.stage = some b ∧ a.rank ≤ b.rank
  done : e.state.terminal = true → f = e

theorem Entry.Stands.refl (e : Entry) : e.Stands e := ⟨rfl, rfl, rfl, fun a ha => ⟨a, ha, le_rfl⟩, fun _ => rfl⟩

/-- A live entry's record written keeps what stands. -/
theorem Entry.Stands.then {e f g : Entry} (h : e.Stands f) (hl : f.state.terminal = false) (hc : g.chan = f.chan) (ht : g.tank = f.tank)
    (hm : g.mode = f.mode) (hs : ∀ a, f.stage = some a → ∃ b, g.stage = some b ∧ a.rank ≤ b.rank) : e.Stands g where
  chan := hc.trans h.chan
  tank := ht.trans h.tank
  mode := hm.trans h.mode
  stage a ha := by
    obtain ⟨b, hb, hab⟩ := h.stage a ha
    obtain ⟨d, hd, hbd⟩ := hs b hb
    exact ⟨d, hd, hab.trans hbd⟩
  done hd := by rw [h.done hd, hd] at hl; cases hl

theorem Entry.Stands.of_stage {e f g : Entry} (h : e.Stands f) (hl : f.state.terminal = false) (hc : g.chan = f.chan) (ht : g.tank = f.tank)
    (hm : g.mode = f.mode) (hs : g.stage = f.stage) : e.Stands g := h.then hl hc ht hm fun a ha => ⟨a, hs.trans ha, le_rfl⟩

/-- What stands in slot `n` stands for `e`, and the slot is below the next id where `q`, whether a PLAN may be adopted, has it so. -/
def State.HoldsIf (q : Prop) (n : EntryId) (e : Entry) (s : State) : Prop :=
  (q → n.val < s.plan.nextId) ∧ ∃ f, s.entry n = some f ∧ e.Stands f

/-- Slot `n` is assigned, and what stands in it stands for `e`. -/
abbrev State.Holds (n : EntryId) (e : Entry) (s : State) : Prop := s.HoldsIf True n e

theorem State.HoldsIf.of_plan {q : Prop} {n : EntryId} {e : Entry} {s t : State} (h : s.HoldsIf q n e) (hp : t.plan = s.plan) : t.HoldsIf q n e := by
  unfold State.HoldsIf State.entry at *
  rw [hp]; exact h

/-- The record in one slot written. -/
theorem State.HoldsIf.setEntry {q : Prop} {n : EntryId} {e : Entry} {s : State} (h : s.HoldsIf q n e) {i : EntryId} {g : Entry}
    (hg : ∀ f, i = n → s.entry n = some f → e.Stands f → e.Stands g) : (s.setEntry i (some g)).HoldsIf q n e := by
  obtain ⟨hn, f, hf, hstands⟩ := h
  refine ⟨hn, ?_⟩
  rw [entry_setEntry]
  split
  case isTrue hi => exact ⟨g, rfl, hg f hi hf hstands⟩
  case isFalse => exact ⟨f, hf, hstands⟩

theorem Write.holdsIf_raw {q : Prop} {n : EntryId} {e : Entry} {p : Part} {s t : State} (h : Write p s t) (hp : p ∈ rawParts)
    (hb : p ≠ .blank ∧ p ≠ .late) (hfresh : p = .fresh → q) (hs : s.HoldsIf q n e) : t.HoldsIf q n e := by
  by_cases hi : p.item = .plan
  case neg => exact hs.of_plan (h.leaves hp hi (by simp))
  have hsame {i : EntryId} {f g : Entry} {s : State} (hf : s.entry i = some f) (hi : i = n) (hg : s.entry n = some g) : f = g := by
    subst hi; rw [hf] at hg; cases hg; rfl
  cases h with
  | entry i f g s hf hg =>
    refine hs.setEntry fun x hi hx hstands => ?_
    rw [← hsame hf hi hx] at hstands
    exact hstands.then hg.live hg.chan hg.tank hg.mode hg.stage
  | promote c s =>
    unfold Machine.promote
    split
    case h_2 => exact hs
    case h_1 j f hc =>
      split
      case isFalse => exact hs
      obtain ⟨hf, -, hl⟩ := current_live hc
      simp only [State.modEntry, hf]
      refine hs.setEntry fun x hi hx hstands => ?_
      rw [← hsame hf hi hx] at hstands
      exact hstands.of_stage hl rfl rfl rfl rfl
  | finish i r f s hf hl =>
    refine hs.setEntry fun x hi hx hstands => ?_
    rw [← hsame hf hi hx] at hstands
    exact hstands.of_stage hl rfl rfl rfl rfl
  | recount i f m s hf hl =>
    refine hs.setEntry fun x hi hx hstands => ?_
    rw [← hsame hf hi hx] at hstands
    unfold Entry.recount
    split
    · exact hstands.of_stage hl rfl rfl rfl rfl
    · exact hstands
  | cancel i f s hf hq =>
    refine hs.setEntry fun x hi hx hstands => ?_
    rw [← hsame hf hi hx] at hstands
    exact hstands.of_stage (by rw [hq]; rfl) rfl rfl rfl rfl
  | fresh c t m a r i s _ hnext =>
    obtain ⟨hn, f, hf, hstands⟩ := hs
    have hbelow := hn (hfresh rfl)
    have hne : i ≠ n := by rintro rfl; omega
    refine ⟨fun _ => Nat.lt_succ_of_lt hbelow, f, ?_, hstands⟩
    rw [← hf]
    simp [State.entry, Plan.add, Vector.get_eq_getElem, Fin.val_ne_of_ne hne]
  | blank | late => simp at hb
  | _ => simp [Part.item] at hi

theorem Write.holds_raw {n : EntryId} {e : Entry} {p : Part} {s t : State} (h : Write p s t) (hp : p ∈ rawParts) (hb : p ≠ .blank ∧ p ≠ .late)
    (hs : s.Holds n e) : t.Holds n e := h.holdsIf_raw hp hb (fun _ => trivial) hs

/-- Consequences keep what stands in a slot (R2, R63). -/
theorem Writes.stands {n : EntryId} {e f : Entry} {P : List Part} {s t : State} (h : Writes P s t) (hf : s.entry n = some f) (hs : e.Stands f)
    (hP : ∀ p ∈ P.flatMap Part.raw, p ∈ rawParts ∧ p ≠ .blank ∧ p ≠ .late ∧ p ≠ .fresh := by decide) :
    ∃ g, t.entry n = some g ∧ e.Stands g :=
  (h.raw.keeps (I := State.HoldsIf False n e) (fun p hp _ _ hw hu => by
    obtain ⟨h1, h2, h3, h4⟩ := hP p hp
    exact hw.holdsIf_raw h1 ⟨h2, h3⟩ h4 hu) ⟨fun hq => hq.elim, f, hf, hs⟩).2

/-! ### The operations of a step -/

theorem Writes.holds {n : EntryId} {e : Entry} {P : List Part} {s t : State} (h : Writes P s t) (hs : s.Holds n e)
    (hP : ∀ p ∈ P.flatMap Part.raw, p ∈ rawParts ∧ p ≠ .blank ∧ p ≠ .late := by decide) : t.Holds n e :=
  h.raw.keeps (I := State.Holds n e) (fun p hp _ _ hw hu => hw.holds_raw (hP p hp).1 (hP p hp).2 hu) hs

theorem State.Holds.reworkMargin {n i : EntryId} {e : Entry} {s : State} (h : s.Holds n e) (hi : i = n → e.state.terminal = false) :
    (s.modEntry i Entry.reworkMargin).Holds n e := by
  cases hs : s.entry i with
  | none =>
    have hsame : (s.modEntry i Entry.reworkMargin).entry n = s.entry n := by
      rw [entry_modEntry, hs]
      split
      case isTrue hin => rw [← hin, hs]; rfl
      case isFalse => rfl
    unfold State.Holds State.HoldsIf at h ⊢
    rw [hsame]; exact h
  | some g =>
    simp only [State.modEntry, hs, Option.map_some]
    refine h.setEntry fun f hin hf hstands => ?_
    rw [hin, hf] at hs; cases hs
    have hl := hi hin
    unfold Entry.reworkMargin
    split
    · exact ⟨hstands.chan, hstands.tank, hstands.mode, hstands.stage, fun ht => by rw [hl] at ht; cases ht⟩
    · exact hstands

/-- A step's operation but INIT keeps what stands in a slot. -/
theorem Write.holds {n : EntryId} {e : Entry} {p : Part} {s t : State} (h : Write p s t) (hp : p ∈ stepParts) (hi : p ≠ .init)
    (hs : s.Holds n e) : t.Holds n e := by
  by_cases ha : p = .amend
  case neg =>
    have hraw : ∀ p ∈ stepParts, p ≠ .init → p ≠ .amend → ∀ q ∈ p.raw, q ∈ rawParts ∧ q ≠ .blank ∧ q ≠ .late := by decide
    exact h.raw.keeps (I := State.Holds n e) (fun q hq _ _ hw hu => hw.holds_raw (hraw p hp hi ha q hq).1 (hraw p hp hi ha q hq).2 hu) hs
  subst ha
  cases h with
  | amend i a r s hr =>
    have hlive (hin : i = n) : e.state.terminal = false := by
      obtain ⟨-, f, hf, hstands⟩ := hs
      cases ht : e.state.terminal with
      | false => rfl
      | true =>
        have hfe := hstands.done ht
        simp [State.entryReject, hin, hf, hfe, ht] at hr
    rcases adoptAmend_cases hr with hw | ⟨u, hw, hlate⟩
    · exact hw.holds hs
    · exact hlate.holds ((hw.holds hs).reworkMargin hlive)

/-! ### The plan cleared -/

theorem entry_of_blank {s : State} (h : s.plan = Plan.blank) (i : EntryId) : s.entry i = none := by
  simp [State.entry, h, Plan.blank, Vector.get_eq_getElem]

/-- Nothing but a PLAN adopted writes a plan that is cleared. -/
theorem Write.plan_blank {p : Part} {s t : State} (h : Write p s t) (hp : p ∈ rawParts) (hn : p ≠ .fresh ∧ p ≠ .late)
    (hs : s.plan = Plan.blank) : t.plan = Plan.blank := by
  by_cases hi : p.item = .plan
  case neg => exact (h.leaves (i := .plan) hp hi (by simp)).trans hs
  have hnone := entry_of_blank hs
  cases h with
  | entry i f g s hf => rw [hnone] at hf; cases hf
  | promote c s =>
    have hc : s.current c = none := by
      by_contra hc
      obtain ⟨⟨i, f⟩, hc⟩ := Option.ne_none_iff_exists'.mp hc
      have hf := (current_live hc).1
      rw [hnone] at hf; cases hf
    unfold Machine.promote
    rw [hc]; exact hs
  | finish i r f s hf => rw [hnone] at hf; cases hf
  | recount i f m s hf => rw [hnone] at hf; cases hf
  | cancel i f s hf => rw [hnone] at hf; cases hf
  | blank s => rfl
  | fresh | late => simp at hn
  | _ => simp [Part.item] at hi

theorem Writes.plan_blank {P : List Part} {s t : State} (h : Writes P s t) (hs : s.plan = Plan.blank)
    (hP : ∀ p ∈ P.flatMap Part.raw, p ∈ rawParts ∧ p ≠ .fresh ∧ p ≠ .late := by decide) : t.plan = Plan.blank :=
  h.raw.keeps (I := fun u => u.plan = Plan.blank) (fun p hp _ _ hw hu => hw.plan_blank (hP p hp).1 (hP p hp).2 hu) hs

/-- A write of the plan but a PLAN adopted keeps what stands in a slot, or clears the plan. -/
theorem Writes.holds_or_blank {n : EntryId} {e : Entry} {P : List Part} {s t : State} (h : Writes P s t)
    (hs : s.Holds n e ∨ s.plan = Plan.blank)
    (hP : ∀ p ∈ P.flatMap Part.raw, p ∈ rawParts ∧ p ≠ .fresh ∧ p ≠ .late := by decide) : t.Holds n e ∨ t.plan = Plan.blank := by
  refine h.raw.keeps (I := fun u => u.Holds n e ∨ u.plan = Plan.blank) (fun p hp u v hw hu => ?_) hs
  obtain ⟨hr, hf, hl⟩ := hP p hp
  by_cases hb : p = .blank
  · subst hb
    cases hw with
    | blank => exact .inr rfl
  · exact hu.imp (hw.holds_raw hr ⟨hb, hl⟩) (hw.plan_blank hr ⟨hf, hl⟩)

/-- In every step a slot keeps what stands in it, or the plan is cleared. -/
theorem holds_or_blank {i : Instr} {s t : State} {n : EntryId} {e : Entry} (hslots : s.SlotsOk) (h : exec i s = .next t)
    (he : s.entry n = some e) : t.Holds n e ∨ t.plan = Plan.blank := by
  by_cases hi : ∃ f, i = .powerOn f
  · obtain ⟨f, rfl⟩ := hi
    obtain ⟨u, hw, -⟩ := powerOn_writes h
    exact .inr (hw.plan_blank rfl)
  have hs : s.Holds n e := ⟨fun _ => (hslots.2 n).mp (by rw [he]; rfl), e, he, .refl e⟩
  have hkeeps {P : List Part} {u v : State} (hw : Writes P u v) (hu : u.Holds n e)
      (hP : ∀ p ∈ P, p ∈ stepParts ∧ p ≠ .init := by decide) : v.Holds n e :=
    hw.keeps (I := State.Holds n e) (fun p hp _ _ hw hu => hw.holds (hP p hp).1 (hP p hp).2 hu) hu
  rcases exec_outcome h fun f hf => hi ⟨f, hf⟩ with hw | ⟨x, ⟨u, v, hline, hout, hreply⟩, hfin, -⟩
  · exact .inl (hkeeps hw hs)
  have hu := hkeeps hline hs
  rcases hout with hout | ⟨q, -, ⟨-, hout⟩ | ⟨k, w, -, -, hw, -, y, hy, hstart⟩⟩
  · exact .inl (hkeeps hfin (hkeeps hreply (hkeeps hout hu)))
  · have hinit : Writes [.init, .withdrawals, .notices, .line] u x := hout.then hreply
    rcases hinit.holds_or_blank (.inl hu) with hx | hx
    · exact .inl (hkeeps hfin hx)
    · exact .inr (hfin.plan_blank hx)
  · exact .inl (hkeeps hfin (hkeeps hreply (hkeeps hstart (hkeeps (hy.writes (P := [.clear])) (hkeeps hw hu)))))

/-- Settles O34: what stands in a slot has its stage no higher, and a plan cleared holds no entry (R63). -/
theorem ladderStagesNeverRise : Obligations.LadderStagesNeverRise := by
  intro i s t n e f a hslots h he hf ha
  rcases holds_or_blank hslots h he with ⟨-, g, hg, hstands⟩ | hb
  · rw [hf] at hg; cases hg
    exact hstands.stage a ha
  · rw [entry_of_blank hb] at hf; cases hf

/-- Settles O35: a slot keeps what stands in it until the plan is cleared (R1, R2). -/
theorem terminalEntriesStandUntilThePlanIsCleared : Obligations.TerminalEntriesStandUntilThePlanIsCleared := by
  intro i s t n e hslots h he
  rcases holds_or_blank hslots h he with ⟨-, f, hf, hstands⟩ | hb
  · exact ⟨.inl ⟨f, hf, hstands.chan, hstands.tank, hstands.mode⟩, fun ht => .inl (by rw [hf, hstands.done ht])⟩
  · exact ⟨.inr hb, fun _ => .inr hb⟩

/-! PROOF. A channel held (R76, R111), and PAUSE and CONTINUE (R94). -/


variable {s t : State} {c : Chan} {r : HoldReason}

/-! ### A FLOWING channel held (R76) -/

/-- A FLOWING channel's record once a reason holds it: HELD with its valve open, its grant 0, its stall timer stopped. -/
def Channel.heldBy (k : Channel) (r : HoldReason) : Channel :=
  { k with state := .held, command := .toOpen, grant := 0, holds := k.holds.put r true, meter := { k.meter with stallTimer := none } }

theorem Channel.holdWith_flowing {k : Channel} (hf : k.state = .flowing) (hr : k.holds.has r = false) : k.holdWith [r] = k.heldBy r := by
  have hne : k.holds ≠ k.holds.plus [r] := fun he => by
    have := HoldSet.has_put_same k.holds r true
    rw [show k.holds.put r true = k.holds.plus [r] from rfl, ← he, hr] at this; cases this
  rw [Channel.holdWith_eq, if_neg hne, if_pos hf]
  rfl

theorem Channel.asks_eq_false_of_held {k : Channel} (hk : k.state = .held) (hr : k.holds.has r = true) (hn : r ≠ .noGrant) : k.asks = false := by
  unfold Channel.asks
  rw [hk]
  refine Bool.eq_false_iff.mpr fun he => ?_
  have hput : (k.holds.put .noGrant false).has r = true := by rw [HoldSet.has_put_of_ne hn]; exact hr
  exact HoldSet.ne_empty_of_has hput ((HoldSet.isEmpty_iff _).mp he)

theorem Channel.asks_heldBy (k : Channel) (hn : r ≠ .noGrant) : (k.heldBy r).asks = false :=
  Channel.asks_eq_false_of_held (r := r) rfl (HoldSet.has_put_same ..) hn

theorem Channel.flowsByGrant_heldBy (k : Channel) (r : HoldReason) : (k.heldBy r).FlowsByGrant :=
  ⟨by simp [Channel.heldBy], (fun h => nomatch h), fun _ => HoldSet.put_ne_empty _ _⟩

/-- A reason put on a FLOWING channel holds it, through the regrant that follows, and brings it no evaluation (R76, R111). -/
theorem addHold_flowing (hf : (s.chan c).state = .flowing) (hr : (s.chan c).holds.has r = false) (hn : r ≠ .noGrant) :
    (addHold c r s).chan c = (s.chan c).heldBy r ∧ (c ∉ s.evals → c ∉ (addHold c r s).evals) := by
  have hadd : (addHolds c [r] s).chan c = (s.chan c).heldBy r := by
    rw [chan_addHolds, if_pos rfl, Channel.holdWith_flowing hf hr]
  have hspare := regrant_spares (decide (0 < (s.chan c).grant)) c (addHolds c [r] s)
  have hasks : ((addHolds c [r] s).chan c).asks = false := by rw [hadd]; exact Channel.asks_heldBy _ hn
  have hflows : ((addHolds c [r] s).chan c).FlowsByGrant := by rw [hadd]; exact Channel.flowsByGrant_heldBy ..
  rw [addHold, if_neg (by rw [hr]; decide)]
  refine ⟨(hspare.chan hasks hflows).trans hadd, fun hv => hspare.evals hasks hflows ?_⟩
  rw [(addHolds_writes c [r] s).evals_eq]; exact hv

/-! ### A request that leaves a channel not asking -/

theorem pushReply_line {p : Side} {x : Reply} (s : State) : (pushReply p x s).chan = s.chan ∧ (pushReply p x s).own = s.own
    ∧ (pushReply p x s).evals = s.evals := by
  rw [pushReply_eq_withPorts]; exact ⟨rfl, rfl, rfl⟩

/-- A request's own rule has the last word on a channel that does not ask and is not itself to be evaluated. -/
theorem request_spared {p : Side} {k : RequestKind} {body : List Byte} {q : Request} {w : State} {result : Result}
    (hs : s.Hears p) (hp : permits k p = true) (hd : decodeRequest k body = some q) (hh : handle p q (refreshLink p s) = (w, result))
    (ha : (w.chan c).asks = false) (hf : (w.chan c).FlowsByGrant) (hv : c ∉ w.evals) :
    ∃ t : State, exec (frameCommand p k body) s = .next t.startSending ∧ Answered p (bodyTag body) k.code result s t
      ∧ t.chan c = w.chan c ∧ t.own c = w.own c
      ∧ t = effect (fun _ => pushReply p { tag := bodyTag body, kind := k.code, result := result } w) s := by
  have hans := answered_requestEnd (p := p) (k := k) (body := body) (r := q) (s := s)
  have hend : requestEnd p k body q s = effect (fun _ => pushReply p { tag := bodyTag body, kind := k.code, result := result } w) s := by
    rw [requestEnd, hh]
  obtain ⟨hchan, hown, hevals⟩ := pushReply_line (p := p) (x := { tag := bodyTag body, kind := k.code, result := result }) w
  have hkept := effect_spares (c := c) (s := s) (f := fun _ => pushReply p { tag := bodyTag body, kind := k.code, result := result } w)
    (by rw [hchan]; exact ha) (by rw [hchan]; exact hf) (by rw [hevals]; exact hv)
  rw [hh] at hans
  refine ⟨_, exec_request hs hp hd, hans, ?_, ?_, hend⟩
  · rw [hend, hkept.1, hchan]
  · rw [hend, hkept.2, hown]

/-! ### PAUSE and CONTINUE (R94) -/

theorem pauseOf_ne (p : Side) : pauseOf p ≠ .noGrant := by cases p <;> decide

theorem pause_cases (p : Side) (body : List Byte) (c : Chan) (s : State) (hs : s.Hears p) (hg : s.GrantsOk)
    (hd : decodeRequest .pause body = some (.pause c)) :
    ((s.chan c).holds.has (pauseOf p) = true → Does (.pause p body) p .pause body (.done .nothing) [] s s)
      ∧ (s.header.state ≠ .serving → (s.chan c).holds.has (pauseOf p) = false →
        ∃ u, u = { s with channels := s.channels.set c { s.chan c with holds := (s.chan c).holds.put (pauseOf p) true } }
          ∧ Does (.pause p body) p .pause body (.done .nothing) [.channel .holds (u.channelView c) none s.now] s u) := by
  constructor
  · intro hheld
    refine does_of_handle (k := .pause) hs rfl hd hs.1.2 fun a b => ?_
    simp only [handle, doPause, chanOf_val, addHold, show ((s.withPorts a b).chan c).holds.has (pauseOf p) = true from hheld, if_true]
    rfl
  · intro hst hno
    refine ⟨_, rfl, does_of_handle (k := .pause) hs rfl hd hs.1.2 fun a b => ?_⟩
    have hadd := addHold_quiet (s := s.withPorts a b) (c := c) (r := pauseOf p) hst hg hno
    simp only [handle, doPause, chanOf_val, hadd]
    rfl

/-- PAUSE of a FLOWING channel: whatever the regrant and the evaluations do to the others, it stays held (R94, R76). -/
theorem pause_flowing (p : Side) (body : List Byte) (c : Chan) (s : State) (hs : s.Hears p) (hg : s.GrantsOk)
    (hd : decodeRequest .pause body = some (.pause c)) (hf : (s.chan c).state = .flowing) :
    ∃ t : State, exec (.pause p body) s = .next t.startSending
      ∧ Answered p (bodyTag body) RequestKind.pause.code (.done .nothing) s t ∧ t.chan c = (s.chan c).heldBy (pauseOf p) := by
  have hno : (s.chan c).holds.has (pauseOf p) = false := by
    rw [(hg.2.2 c).2.1 hf]
    cases p <;> rfl
  have hs1 := refreshLink_eq_withPorts p s
  generalize hv : refreshLink p s = v at hs1
  have hvc : v.chan c = s.chan c := by rw [hs1]; rfl
  have hve : v.evals = [] := by rw [hs1]; exact hs.1.2
  obtain ⟨hchan, hev⟩ := addHold_flowing (s := v) (r := pauseOf p) (by rw [hvc]; exact hf) (by rw [hvc]; exact hno) (pauseOf_ne p)
  have hhandle : handle p (.pause c) (refreshLink p s) = (addHold c (pauseOf p) v, .done .nothing) := by
    simp only [hv, handle, doPause, chanOf_val]; rfl
  rw [hvc] at hchan
  obtain ⟨t, hexec, hans, ht, -⟩ := request_spared (c := c) (k := .pause) hs rfl hd hhandle (by rw [hchan]; exact Channel.asks_heldBy _ (pauseOf_ne p))
    (by rw [hchan]; exact Channel.flowsByGrant_heldBy ..) (hev (by rw [hve]; exact List.not_mem_nil))
  exact ⟨t, hexec, hans, ht.trans hchan⟩

theorem continue_cases (p : Side) (body : List Byte) (c : Chan) (s : State) (hs : s.Hears p) (hg : s.GrantsOk)
    (hd : decodeRequest .continue_ body = some (.continue_ c)) :
    ((s.chan c).holds.has (pauseOf p) = false → Refuses (.continue_ p body) p .continue_ body .notHeld s)
      ∧ (s.header.state ≠ .serving → (s.chan c).holds.has (pauseOf p) = true →
        ∃ u, u = { s with channels := s.channels.set c { s.chan c with
            holds :=
              let h := (s.chan c).holds.put (pauseOf p) false
              if (s.chan c).state = .held ∧ h = HoldSet.empty then h.put .noGrant true else h } }
          ∧ Does (.continue_ p body) p .continue_ body (.done .nothing) [.channel .holds (u.channelView c) none s.now] s u) := by
  constructor
  · intro hno
    refine refuses_of_handle (k := .continue_) hs rfl hd fun a b => ?_
    have hno' : ¬ ((s.withPorts a b).chan c).holds.has (pauseOf p) = true := fun h => by
      rw [show ((s.withPorts a b).chan c).holds.has (pauseOf p) = false from hno] at h; cases h
    simp only [handle, doContinue, chanOf_val, if_neg hno']
  · intro hst hyes
    refine ⟨_, rfl, does_of_handle (k := .continue_) hs rfl hd hs.1.2 fun a b => ?_⟩
    have hyes' : ((s.withPorts a b).chan c).holds.has (pauseOf p) = true := hyes
    have hremove := removeHold_quiet (s := s.withPorts a b) (c := c) (r := pauseOf p) hst hg (pauseOf_ne p) hyes'
    have hholds : (s.chan c).holdsWithout [pauseOf p] =
        let h := (s.chan c).holds.put (pauseOf p) false
        if (s.chan c).state = .held ∧ h = HoldSet.empty then h.put .noGrant true else h := by
      rw [Channel.holdsWithout_eq]
      simp [hg.2.1 hst c, HoldSet.minus]
    simp only [handle, doContinue, chanOf_val, if_pos hyes', hremove]
    rw [show ((s.withPorts a b).chan c).holdsWithout [pauseOf p] = _ from hholds]
    rfl

/-! ### What takes a pause away (R94) -/

/-- A pause is held on channel `c`. -/
def State.Paused (x : Side) (c : Chan) (s : State) : Prop := (s.chan c).holds.has (pauseOf x) = true

theorem HoldSet.KeepsPauses.has {h g : HoldSet} (hk : h.KeepsPauses g) {x : Side} (hx : h.has (pauseOf x) = true) :
    g.has (pauseOf x) = true := by
  cases x with
  | barge => exact hk.pauseB hx
  | ship => exact hk.pauseS hx

theorem State.Paused.setChan {x : Side} {d : Chan} {k : Channel} (h : s.Paused x c)
    (hk : (s.chan d).holds.has (pauseOf x) = true → k.holds.has (pauseOf x) = true) : (s.setChan d k).Paused x c := by
  unfold State.Paused
  rw [chan_setChan]
  split
  case isTrue hd => rw [hd] at hk; exact hk h
  case isFalse => exact h

/-- The kind of a CONTINUE of side `x`. -/
def unpausePart : Side → Part
  | .barge => .unpauseB
  | .ship => .unpauseS

theorem Write.paused_raw {p : Part} (h : Write p s t) (hp : p ∈ rawParts) {x : Side} (hx : p ≠ unpausePart x ∧ p ≠ .lift)
    (hs : s.Paused x c) : t.Paused x c := by
  by_cases hi : p.item = .channels
  case neg =>
    have hsame : t.channels = s.channels := h.leaves (i := .channels) hp hi (by simp)
    unfold State.Paused State.chan at *
    rw [hsame]; exact hs
  cases h with
  | chan d k s hk => exact hs.setChan hk.pauses.has
  | stops d y s => exact hs.setChan id
  | grants s => unfold State.Paused; rw [chan_giveAll]; exact (Channel.granted_pauses ..).has hs
  | opens d k s _ _ _ hk => exact hs.setChan hk.has
  | zero d s => exact hs.setChan id
  | count d s => exact hs.setChan id
  | inputs d k s _ _ _ _ hk => exact hs.setChan hk.has
  | rates d f s => exact hs.setChan id
  | authorise d s => exact hs.setChan id
  | unpauseB d k s _ _ _ hk =>
    cases x with
    | barge => exact absurd rfl hx.1
    | ship => exact hs.setChan hk
  | unpauseS d k s _ _ _ hk =>
    cases x with
    | barge => exact hs.setChan hk
    | ship => exact absurd rfl hx.1
  | lift => exact absurd rfl hx.2
  | _ => simp [Part.item] at hi

theorem Write.paused {p : Part} (h : Write p s t) (hp : p ∈ unclearedParts) {x : Side} (hx : p ≠ unpausePart x) (hs : s.Paused x c) :
    t.Paused x c := by
  have hraw : ∀ x, ∀ p ∈ unclearedParts, p ≠ unpausePart x → ∀ q ∈ p.raw, q ∈ rawParts ∧ q ≠ unpausePart x ∧ q ≠ .lift := by
    intro x; cases x <;> decide
  exact h.raw.keeps (I := State.Paused x c) (fun q hq _ _ hw hu => hw.paused_raw (hraw x p hp hx q hq).1 (hraw x p hp hx q hq).2 hu) hs

/-- A CONTINUE of side `x`, or the byte that completes one, is what takes its own pause away; a CLEAR takes both (R94). -/
theorem unpause_only_continue {i : Instr} {x : Side} (h : unpausePart x ∈ formedParts i) :
    (∃ b, i = .continue_ x b) ∨ ∃ b, i = .byteReceived x b := by
  have hown : unpausePart x ∈ ownParts := by cases x <;> decide
  have hside {y : Side} (hy : unpausePart x = .unpauseB ∧ y = .barge ∨ unpausePart x = .unpauseS ∧ y = .ship) : y = x := by
    cases x <;> rcases hy with ⟨hx, rfl⟩ | ⟨hx, rfl⟩ <;> first | rfl | cases hx
  have hne : unpausePart x ≠ .config ∧ unpausePart x ≠ .copy := by cases x <;> decide
  rcases formedParts_cases hown h with ⟨y, b, rfl⟩ | ⟨y, k, b, rfl⟩ | ⟨-, hcopy⟩
  · rcases anyFrameParts_own y _ hown h with hc | hy
    · exact absurd hc hne.1
    · rw [hside hy]; exact .inr ⟨b, rfl⟩
  · rcases frameParts_own y k _ hown (formedParts_frameCommand_sub y k b h) with ⟨hc, -⟩ | ⟨rfl, hy⟩
    · exact absurd hc hne.1
    · rw [hside hy]; exact .inl ⟨b, rfl⟩
  · exact absurd hcopy hne.2

theorem pauses_kept {i : Instr} {x : Side} (hwf : i.wellFormed = true) (h : exec i s = .next t) (hb : s.trip.Bounded)
    (hs : s.Paused x c) : t.Paused x c ∨ (∃ b, i = .continue_ x b) ∨ (∃ b, i = .byteReceived x b)
      ∨ (MayConsent i ∧ s.trip.state ≠ .normal ∧ t.trip.state = .normal) ∨ ∃ f, i = .powerOn f := by
  by_cases hi : ∃ f, i = .powerOn f
  · exact .inr (.inr (.inr (.inr hi)))
  by_cases hu : unpausePart x ∈ formedParts i
  · exact .inr ((unpause_only_continue hu).imp_right .inl)
  rcases exec_clear_cases h (fun f hf => hi ⟨f, hf⟩) (isFormed_of_wellFormed hwf) with hw | ⟨hclear, hc⟩
  · refine .inl (hw.keeps (I := State.Paused x c) (fun p hp _ _ hw hs => hw.paused (uncleared_sub i hp) (fun he => ?_) hs) hs)
    subst he
    rcases List.mem_append.mp hp with h | h
    · exact hu (List.mem_filter.mp h).1
    · have hfin : ∀ x, unpausePart x ∉ finishParts := by intro x; cases x <;> decide
      exact hfin x h
  · obtain ⟨f, -, hf, -⟩ := hclear.withdrawn
    refine .inr (.inr (.inr (.inl ⟨hc, fun hn => ?_, hclear.emptied.normal⟩)))
    rw [(hb.2.1 hn).1] at hf; cases hf

/-- Settles O50. -/
theorem pauseAndContinue : Obligations.PauseAndContinue := by
  refine ⟨fun p body c s hs hg => ⟨fun hd => ?_, fun hd => continue_cases p body c s hs hg hd⟩, fun i x c s t hwf h hb hs => ?_⟩
  · obtain ⟨h1, h2⟩ := pause_cases p body c s hs hg hd
    refine ⟨h1, h2, fun hf => ?_⟩
    obtain ⟨t, hexec, hans, ht⟩ := pause_flowing p body c s hs hg hd hf
    refine ⟨t, hexec, hans, ?_⟩
    rw [ht]
    exact ⟨rfl, rfl, rfl, HoldSet.has_put_same .., rfl, rfl, rfl⟩
  · exact pauses_kept hwf h hb hs

/-! PROOF. Two statements that an ill-formed plan refutes: where a LEVEL_HI ends an AWAIT entry at once, the entry that takes its place
must be QUEUED (R1, R14). The statements take no such hypothesis, and an entry ACTIVE behind the current one answers them. -/


/-! ### What a command makes of a state, read off -/

/-- A figure of the part a command leaves. -/
def readAfter {α : Type} (f : State → α) (i : Instr) (s : State) : Option α :=
  match exec i s with
  | .next t => some (f t)
  | .fault _ | .refused _ => none

theorem readAfter_of_next {α : Type} {f : State → α} {i : Instr} {s t : State} (h : exec i s = .next t) : readAfter f i s = some (f t) := by
  rw [readAfter, h]

/-! ### A part with an entry ACTIVE behind its channel's current one -/

/-- Tank 4 with its table, and seven readings of it. -/
def strayTank : Tank :=
  { Tank.blank with
    decl := some { grade := 1, hHi := 9500, hHihi := 9800, slosh := 60, toppingVolume := 60000, toppingRate := 900, slugVolume := 5000
                   stepLimit := 300 }
    strap := .sealed 4
    points := (((Tank.blank.points.set 0 (some ⟨0, 0⟩)).set 1 (some ⟨2000, 180000⟩)).set 2 (some ⟨8000, 760000⟩)).set 3
      (some ⟨10000, 930000⟩)
    window := [8920, 8935, 8910, 8950, 8928, 8941, 8915].map fun l => { level := l, stamp := 0 }
    staleTimer := some 20, stepRef := some 8915 }

/-- The current entry of channel 1, AWAIT. -/
def strayFirst : Entry := Entry.fresh 1 4 .batch 200000 1800 .await

/-- The entry behind it, ACTIVE with one strike: no part that keeps R1 and R14 holds it. -/
def straySecond : Entry :=
  { strayFirst with
    allotment := 500000, state := .active, delivered := 127800, lineup := .ready, stage := some .full, baseline := some ⟨0, 987⟩
    meterBaseline := some 0, startVolume := some 712440, startQuality := some .steady, strikes := 1, started := some 0
    slug := some ⟨.idle, none, none⟩, recon := some ⟨.activation, none⟩ }

/-- The part NORMAL and at rest, every valve proven closed, with the two entries; 1,361,386 pulses stand on channel 1. -/
def stray : State :=
  let s : State := { State.reset with
    header := { State.reset.header with state := .idle }
    trip := { State.reset.trip with state := .normal, firstOut := none, cautions := [], horn := .quiet }
    channels := State.reset.channels.map fun k => { k with state := .idle }
    plan := { slots := (Plan.blank.slots.set 0 (some strayFirst)).set 1 (some straySecond), nextId := 2 } }
  (s.setTank 4 strayTank).modMeter 1 fun m => { m with total := 1361386 }

/-- A LEVEL of tank 4: 8,933 mm, GOOD, the flag HI set and HIHI as given. -/
def strayLevel (hihi : Bool) : List Byte := encodeRequest 7 (.level 4 8933 .good true hihi)

/-- The same part with no reading of tank 4 yet. -/
def strayCold : State := stray.setTank 4 { strayTank with window := [], staleTimer := none, stepRef := none }

theorem strayCold_hears : strayCold.Hears .ship := ⟨⟨by decide +kernel, by decide +kernel⟩, by decide +kernel⟩

theorem stray_hears : stray.Hears .ship := ⟨⟨by decide +kernel, by decide +kernel⟩, by decide +kernel⟩

theorem strayCold_bounded : strayCold.trip.Bounded := by
  have hn : strayCold.trip.state = .normal := by decide +kernel
  refine ⟨by decide +kernel, fun _ => ⟨by decide +kernel, by decide +kernel, by decide +kernel, by decide +kernel⟩, fun h => absurd hn h⟩

/-- At its HIHI assertion LEVEL_HI ends the AWAIT entry after the shutdown, and the ACTIVE one is current. -/
theorem stray_active_after_hihi :
    readAfter (fun t => (t.activeEntry 1).isSome) (.level .ship (strayLevel true)) strayCold = some true := by decide +kernel

/-- Refutes O28: `strayCold`, whose plan holds an ACTIVE entry behind the current AWAIT one, has an ACTIVE entry after LEVEL_HIHI: the reading's
LEVEL_HI ends the current entry at once, and the entry behind it is current as it stands. -/
theorem not_shutdownsAreTakenWhole : ¬ Obligations.ShutdownsAreTakenWhole := by
  intro h
  obtain ⟨-, -, -, -, -, -, hlevel, -⟩ := h strayCold strayCold_hears.1 strayCold_bounded
  obtain ⟨t, hexec, -, ⟨-, -, -, -, hshut, -⟩, -⟩ := hlevel (strayLevel true) 4 _ 8933 .good true true strayCold_hears (by decide +kernel)
    (show (strayCold.tank 4).decl = strayTank.decl by decide +kernel) (by decide +kernel) (.inl rfl)
  have hactive : (t.startSending.activeEntry 1).isSome = true :=
    Option.some.inj ((readAfter_of_next hexec).symm.trans stray_active_after_hihi)
  have hnone : t.startSending.activeEntry 1 = none := (hshut 1).2.2.2
  rw [hnone] at hactive
  cases hactive

/-- At its HI assertion LEVEL_HI ends the AWAIT entry; the ACTIVE one, then current, is compared at the STEADY reading: a second EXCESS. -/
theorem stray_stop_after_hi :
    readAfter (fun t => (t.chan 1).lastStop.map LastStop.cause) (.level .ship (strayLevel false)) stray = some (some .misroute) := by
  decide +kernel

theorem stray_entries : ∀ i, ∀ e ∈ stray.entry i, e.chan = 1 := by decide +kernel

theorem stray_current : stray.current 1 = some (0, strayFirst) := by decide +kernel

/-- Refutes O27: the last stop `stray` shows after LEVEL_HI is the MISROUTE of the entry that took the ended one's place. -/
theorem not_channelStopsAreTakenWhole : ¬ Obligations.ChannelStopsAreTakenWhole := by
  intro h
  obtain ⟨-, -, -, -, -, -, -, hlevel⟩ := h 1 stray stray_hears.1
  have hdecl : (stray.tank 4).decl = strayTank.decl := by decide +kernel
  have htakes : stray.TakesLevel (strayLevel false) 4 _ 8933 .good true false :=
    ⟨stray_hears, by decide +kernel, hdecl, .inr ⟨rfl, by decide +kernel, by decide +kernel⟩⟩
  have hshared : stray.TanksShared := fun i j e f he hf _ _ _ => (stray_entries i e he).trans (stray_entries j f hf).symm
  obtain ⟨t, f, hexec, -, hstop, -⟩ := hlevel (strayLevel false) 4 _ 8933 .good true false 0 strayFirst htakes hshared (by decide +kernel)
    stray_current rfl (.inl rfl) rfl (.inl rfl) (by decide +kernel)
  have hcause : (t.startSending.chan 1).lastStop.map LastStop.cause = some .misroute :=
    Option.some.inj ((readAfter_of_next hexec).symm.trans stray_stop_after_hi)
  have hsame : (t.startSending.chan 1).lastStop = (t.chan 1).lastStop := rfl
  rw [hsame, hstop] at hcause
  cases hcause

/-! PROOF. The silence of a port (R166, R141, R149). -/


variable {P : List Part} {s t u w : State} {p : Side} {k : ShutdownCause} {o : Origin}

/-! ### Nothing is evaluated where no entry is ACTIVE (R53) -/

theorem runEvals_idle (n : Nat) {s : State} (h : ∀ c, s.activeEntry c = none) :
    ({ runEvals n s with evals := [] } : State) = { s with evals := [] } := by
  induction n generalizing s with
  | zero => rfl
  | succ n ih =>
    unfold runEvals
    split
    case h_1 => rfl
    case h_2 c rest he =>
      have hnone : evaluate .change c { s with evals := rest } = { s with evals := rest } := evaluate_none (h c)
      rw [hnone, ih (s := { s with evals := rest }) h]

theorem effect_idle {f : State → State} {s : State} (h : ∀ c, (f s).activeEntry c = none) : effect f s = { f s with evals := [] } :=
  runEvals_idle evalBudget h

/-! ### A shutdown of the part with other items beside it -/

/-- A shutdown taken says nothing but of the trip items, the header, the channels, the plan and the queue. -/
theorem ShutdownTaken.of_items (h : ShutdownTaken k o u w) (htrip : u.trip = s.trip) (hnow : u.now = s.now) (hchan : u.channels = s.channels)
    (htrip' : t.trip = w.trip) (hheader : t.header = w.header) (hchan' : t.channels = w.channels) (hplan : t.plan = w.plan)
    (hqueue : t.queue.proposals = s.queue.proposals.filter fun q => !q.isStart none) : ShutdownTaken k o s t := by
  obtain ⟨⟨h1, h2, h3, h4, h5, -, h7, h8, h9, h10⟩, hstop⟩ := h
  have hc : u.chan = s.chan := by funext c; rw [State.chan, hchan]; rfl
  have hc' : t.chan = w.chan := by funext c; rw [State.chan, hchan']; rfl
  have he' : t.activeEntry = w.activeEntry := activeEntry_congr (by funext i; unfold State.entry; rw [hplan])
  have hsettled : t.allSettled = w.allSettled := by
    unfold State.allSettled State.settled; rw [hc', htrip']
  unfold ShutdownTaken ShutdownEffect
  simp only [htrip', hheader, hc', he', hsettled, ← htrip, ← hnow, ← hc]
  exact ⟨⟨h1, h2, h3, h4, h5, hqueue, h7, h8, h9, h10⟩, hstop⟩

/-! ### A SILENT port hears nothing (R172) -/

theorem Writes.port_silent (h : Writes P s t) {p : Side} (hs : (s.port p).link = .silent)
    (hP : ∀ p ∈ P, p = .notices ∨ p.item ≠ .ports ∧ p.item ≠ .many := by decide) : t.port p = s.port p := by
  refine h.keeps (I := fun u => u.port p = s.port p) (fun q hq u v hw hu => ?_) rfl
  rcases hP q hq with rfl | ⟨h1, h2⟩
  · cases hw with
    | notice n => rw [port_raise, offer_silent n (by rw [hu]; exact hs), hu]
  · rw [(hw.writes (P := [q]) (by simp)).port_eq (by simpa using ⟨h1, h2⟩), hu]

/-! ### Steps 1 to 4 of R166 -/

theorem silenced_eq (p : Side) (s : State) : silenced p s = { s with
    cursor := if p = .ship then Cursor.origin else s.cursor, freeCount := s.freeCount + 1
    portB := (silenced p s).portB, portS := (silenced p s).portS } := by cases p <;> rfl

theorem port_silenced (p : Side) (s : State) : (silenced p s).port p = (s.port p).silenced := by
  have hnote (u : State) (h : (u.port p).link = .silent) : (noteTrip .state u).port p = u.port p := by
    unfold noteTrip; rw [port_raise, offer_silent _ h]
  cases p
  · exact hnote (s.modPort .barge Port.silenced) rfl
  · exact hnote { s.modPort .ship Port.silenced with cursor := Cursor.origin } rfl

theorem line_other_silenced (p : Side) (s : State) : ((silenced p s).port p.other).line = (s.port p.other).line := by
  cases p
  · exact line_offer ..
  · exact line_offer ..

/-! ### The two hand-offs of R166, in either order (log 10) -/

/-- What the two hand-offs make of the part `u`, SILENT on port `p`. -/
structure SilenceTold (p : Side) (u t : State) : Prop where
  taken : ShutdownTaken (linkCause p) .watch u { t with queue := { u.queue with proposals := u.queue.proposals.filter fun q => !q.isStart none } }
  queue : t.queue.proposals = u.queue.proposals.filter fun q => !q.isStart none && !(q.side == p)
  port : t.port p = u.port p
  given : t.given = u.given
  store : t.store = u.store
  active : ∀ c, t.activeEntry c = none

theorem linkCause_ne (p : Side) (c : Chan) : linkCause p ≠ .valveUnproven c := by cases p <;> exact fun h => nomatch h

theorem shutdownSilent_parts (p : Side) (s : State) : Writes shutParts s (shutdownSilent p s) := shutdown_writes ..

theorem silence_withdraws_first (hb : u.trip.Bounded) (hp : (u.port p).link = .silent) :
    SilenceTold p u (shutdownSilent p (withdrawSilent p u)) := by
  have hw : Writes [.withdrawals, .notices] u (withdrawSilent p u) := withdrawWhere_writes ..
  have hs := shutdownSilent_parts p (withdrawSilent p u)
  have htaken : ShutdownTaken (linkCause p) .watch (withdrawSilent p u) (shutdownSilent p (withdrawSilent p u)) :=
    shutdown_taken (by rw [hw.trip_eq]; exact hb) (fun _ => linkCause_ne p) .watch
  have hport := hw.port_silent hp
  refine ⟨htaken.of_items hw.trip_eq hw.now_eq hw.channels_eq rfl rfl rfl rfl rfl, ?_, ?_, ?_, ?_, fun c => (htaken.1.2.2.2.2.1 c).2.2.2⟩
  · rw [htaken.1.2.2.2.2.2.1, withdrawSilent, withdrawWhere_queue, List.filter_filter]
  · rw [hs.port_silent (by rw [hport]; exact hp), hport]
  · rw [shutdownSilent, given_shutdown, withdrawSilent, given_withdrawWhere]
  · rw [hs.store_eq, hw.store_eq]

theorem silence_shuts_first (hb : u.trip.Bounded) (hp : (u.port p).link = .silent) :
    SilenceTold p u (withdrawSilent p (shutdownSilent p u)) := by
  have hs := shutdownSilent_parts p u
  have hw : Writes [.withdrawals, .notices] (shutdownSilent p u) (withdrawSilent p (shutdownSilent p u)) := withdrawWhere_writes ..
  have htaken : ShutdownTaken (linkCause p) .watch u (shutdownSilent p u) := shutdown_taken hb (fun _ => linkCause_ne p) .watch
  have hport := hs.port_silent hp
  refine ⟨htaken.of_items rfl rfl rfl hw.trip_eq hw.header_eq hw.channels_eq hw.plan_eq rfl, ?_, ?_, ?_, ?_, fun c => ?_⟩
  · rw [withdrawSilent, withdrawWhere_queue]
    simp only [htaken.1.2.2.2.2.2.1, List.filter_filter]
    exact List.filter_congr fun q _ => Bool.and_comm ..
  · rw [hw.port_silent (by rw [hport]; exact hp), hport]
  · rw [withdrawSilent, given_withdrawWhere, shutdownSilent, given_shutdown]
  · rw [hw.store_eq, hs.store_eq]
  · rw [activeEntry_congr hw.entry_eq]; exact (htaken.1.2.2.2.2.1 c).2.2.2

/-- Settles O12: whichever hand-off comes first, the port is emptied, the side's proposals are withdrawn, and the shutdown is taken. -/
theorem silenceTimerExpirySilencesThePort : Obligations.SilenceTimerExpirySilencesThePort := by
  intro p s hs hb hl ⟨x, hx, hnow⟩
  have heq := silenced_eq p s
  have hlink : ((silenced p s).port p).link = .silent := by rw [port_silenced]; rfl
  have hb' : (silenced p s).trip.Bounded := by rw [heq]; exact hb
  have htold : SilenceTold p (silenced p s) (goSilent p s) := by
    rw [goSilent_eq]
    split
    · exact silence_withdraws_first hb' hlink
    · exact silence_shuts_first hb' hlink
  have heff : commandEffect (.silenceTimerExpiry p) s = goSilent p s := if_pos ⟨hl, due_of_le hx hnow⟩
  obtain ⟨htaken, hqueue, hport, hgiven, hstore, hactive⟩ := htold
  have hq : (silenced p s).queue = s.queue := by rw [heq]
  rw [hq] at hqueue htaken
  have hgiven' (q : Side) : ((goSilent p s).port q).line = ((silenced p s).port q).line := by
    cases q
    · exact congrArg Given.lineB hgiven
    · exact congrArg Given.lineS hgiven
  refine ⟨{ goSilent p s with evals := [] }, ?_, ?_, ?_, ?_, ?_, ?_, hqueue, ?_, ?_, ?_, fun c => ⟨?_, ?_⟩, fun u => ?_⟩
  · rw [exec_on hs.1 rfl, effect_idle (by rw [heff]; exact hactive), heff]
  · exact hport.trans (port_silenced p s)
  · exact (hgiven' p.other).trans (line_other_silenced p s)
  · have hcursor : (goSilent p s).cursor = (silenced p s).cursor := congrArg Given.cursor hgiven
    rw [heq] at hcursor; exact hcursor
  · intro q hq
    rw [show ({ goSilent p s with evals := [] } : State).queue = (goSilent p s).queue from rfl, hqueue, List.mem_filter] at hq
    simpa using (Bool.and_eq_true_iff.mp hq.2).2
  · have h := htaken.of_items (s := s) (by rw [heq]) (by rw [heq]) (by rw [heq]) rfl rfl rfl rfl rfl
    cases p
    · exact h
    · exact h
  · have hc : (goSilent p s).config = (silenced p s).config := congrArg Given.config hgiven
    rw [heq] at hc; exact hc
  · exact hstore.trans (by rw [heq])
  · have hd : (goSilent p s).header.dp = (silenced p s).header.dp := congrArg Given.dp hgiven
    rw [heq] at hd; exact hd
  · have hi : ((goSilent p s).chan c).inputs = ((silenced p s).chan c).inputs := congrFun (congrArg Given.inputs hgiven) c
    rw [heq] at hi; exact hi
  · have hi : ((goSilent p s).chan c).meter.counts = ((silenced p s).chan c).meter.counts := congrFun (congrArg Given.counts hgiven) c
    rw [heq] at hi; exact hi
  · have hd : ((goSilent p s).tank u).declared = ((silenced p s).tank u).declared := congrFun (congrArg Given.declared hgiven) u
    rw [heq] at hd; exact hd

/-! PROOF. What other channels' rules leave of a tank (R5, R45), and the stale timer's expiry (R41, R47). -/


variable {P : List Part} {s t v : State} {u : TankNo} {c d : Chan} {i : EntryId} {k : EvalKind}

/-! ### A tank one channel serves (R5) -/

/-- Every entry not terminal that names tank `u` is channel `c`'s (R5). -/
def State.ServedBy (u : TankNo) (c : Chan) (s : State) : Prop :=
  ∀ i e, s.entry i = some e → e.state.terminal = false → e.tank = u → e.chan = c

theorem State.TanksShared.servedBy {e : Entry} (h : s.TanksShared) (he : s.current c = some (i, e)) : s.ServedBy e.tank c := by
  intro j f hf hl ht
  obtain ⟨hi, hc, hlive⟩ := current_live he
  rw [← hc]; exact h j i f e hf hi hl hlive ht

theorem State.ServedBy.congr (h : s.ServedBy u c) (he : t.entry = s.entry) : t.ServedBy u c := by
  unfold State.ServedBy; rw [he]; exact h

theorem State.ServedBy.set {e f : Entry} (h : s.ServedBy u c) (he : s.entry i = some e) (hc : f.chan = e.chan) (ht : f.tank = e.tank)
    (hl : f.state.terminal = false → e.state.terminal = false) : (s.setEntry i (some f)).ServedBy u c := by
  intro j x hx hxl hxt
  rw [entry_setEntry] at hx
  split at hx
  case isTrue => cases hx; rw [hc]; exact h i e he (hl hxl) (ht ▸ hxt)
  case isFalse => exact h j x hx hxl hxt

theorem State.ServedBy.ne (h : s.ServedBy u c) {e : Entry} (he : s.current d = some (i, e)) (hd : d ≠ c) : e.tank ≠ u := fun ht => by
  obtain ⟨hi, hc, hl⟩ := current_live he
  exact hd (hc.symm.trans (h i e hi hl ht))

theorem Write.served_raw {p : Part} (h : Write p s t) (hp : p ∈ rawParts) (hb : p ≠ .blank ∧ p ≠ .late ∧ p ≠ .fresh)
    (hs : s.ServedBy u c) : t.ServedBy u c := by
  by_cases hi : p.item = .plan
  case neg =>
    have hplan : t.plan = s.plan := h.leaves (i := .plan) hp hi (by simp)
    exact hs.congr (by funext j; unfold State.entry; rw [hplan])
  cases h with
  | entry i f g s hf hg => exact hs.set hf hg.chan hg.tank fun _ => hg.live
  | promote d s =>
    unfold Machine.promote
    split
    case h_2 => exact hs
    case h_1 j f hc =>
      split
      case isFalse => exact hs
      obtain ⟨hf, -, hl⟩ := current_live hc
      simp only [State.modEntry, hf]
      exact hs.set hf rfl rfl fun _ => hl
  | finish i r f s hf hl => exact hs.set hf rfl rfl fun _ => hl
  | recount i f m s hf hl => exact hs.set hf (by unfold Entry.recount; split <;> rfl) (by unfold Entry.recount; split <;> rfl) fun _ => hl
  | cancel i f s hf hq => exact hs.set hf rfl rfl fun _ => by rw [hq]; rfl
  | blank | late | fresh => simp at hb
  | _ => simp [Part.item] at hi

theorem Writes.served (h : Writes P s t) (hs : s.ServedBy u c)
    (hP : ∀ p ∈ P.flatMap Part.raw, p ∈ rawParts ∧ p ≠ .blank ∧ p ≠ .late ∧ p ≠ .fresh := by decide) : t.ServedBy u c :=
  h.raw.keeps (I := State.ServedBy u c) (fun p hp _ _ hw hu => hw.served_raw (hP p hp).1 (hP p hp).2 hu) hs

/-! ### Rules that leave a tank (R45) -/

/-- From `s` to `t` the tank `u` stands, channel `c` alone serving it. -/
structure State.SparesTank (s : State) (u : TankNo) (c : Chan) (t : State) : Prop where
  served : s.ServedBy u c → t.ServedBy u c
  tank : s.ServedBy u c → t.tank u = s.tank u

theorem State.SparesTank.refl (u : TankNo) (c : Chan) (s : State) : s.SparesTank u c s := ⟨id, fun _ => rfl⟩

theorem State.SparesTank.trans (h : s.SparesTank u c t) (g : t.SparesTank u c v) : s.SparesTank u c v :=
  ⟨g.served ∘ h.served, fun hs => (g.tank (h.served hs)).trans (h.tank hs)⟩

theorem Writes.sparesTank (h : Writes P s t)
    (hP : ∀ p ∈ P.flatMap Part.raw, p ∈ rawParts ∧ p ≠ .blank ∧ p ≠ .late ∧ p ≠ .fresh := by decide)
    (ht : ∀ p ∈ P, p.item ≠ .tanks ∧ p.item ≠ .many := by decide) : s.SparesTank u c t :=
  ⟨fun hs => h.served hs hP, fun _ => congrFun (h.tank_eq ht) u⟩

/-- Writes of another tank. -/
theorem Writes.sparesTank_of (h : Writes P s t) (htank : t.tank u = s.tank u)
    (hP : ∀ p ∈ P.flatMap Part.raw, p ∈ rawParts ∧ p ≠ .blank ∧ p ≠ .late ∧ p ≠ .fresh := by decide) : s.SparesTank u c t :=
  ⟨fun hs => h.served hs hP, fun _ => htank⟩

theorem tank_setAbove_of_ne {x : TankNo} (h : x ≠ u) (b : Bool) (s : State) : (setAbove x b s).tank u = s.tank u := by
  unfold setAbove
  split
  · rfl
  · rw [(noteTank_writes ..).tank_eq, tank_modTank, if_neg h]

theorem tank_judgeAbove_of_ne {x : TankNo} (h : x ≠ u) (s : State) : (judgeAbove x s).tank u = s.tank u := by
  unfold judgeAbove
  split
  · exact tank_setAbove_of_ne h _ s
  · rfl

theorem tank_leaveActive_of_ne {x : TankNo} (h : x ≠ u) (d : Chan) (s : State) : (leaveActive d x s).tank u = s.tank u := by
  unfold leaveActive
  simp only
  rw [(removeHolds_writes d _).tank_eq, tank_modTank, if_neg h, (setUnmetered_writes ..).tank_eq, (setHighSoon_writes ..).tank_eq]

theorem settleEnd_sparesTank (hd : d ≠ c) (s : State) : s.SparesTank u c (settleEnd d s) := by
  refine ⟨fun hs => (settleEnd_writes d s).served hs, fun hs => ?_⟩
  unfold settleEnd
  split
  case h_2 => rfl
  case h_1 i e he =>
    split
    case isFalse => rfl
    obtain ⟨hi, -, hl⟩ := current_live he
    cases hr : e.endPending with
    | none => simp only [applyEnd, hi, hr]
    | some r =>
      rw [applyEnd_eq hi hr, (afterFinish_writes ..).tank_eq]
      have hfin : (s.modEntry i fun e => e.finish r s.now).tank u = s.tank u := congrFun (finish_writes r hi hl).tank_eq u
      split
      · rw [tank_leaveActive_of_ne (hs.ne he hd), hfin]
      · exact hfin

theorem settleSet_sparesTank (hd : d ≠ c) (b : Option EndReason) (s : State) : s.SparesTank u c (settleSet b d s) := by
  unfold settleSet
  split
  · exact .refl u c s
  · exact settleEnd_sparesTank hd s

theorem levelSteps_writes {e : Entry} (hl : s.Live i) : Writes judgeParts s (levelSteps k d i e s) := by
  unfold levelSteps
  split
  · exact levelEffects_writes hl
  · exact .refl s

theorem levelSteps_sparesTank {e : Entry} (hl : s.Live i) (ht : e.tank ≠ u) : s.SparesTank u c (levelSteps k d i e s) := by
  unfold levelSteps
  split
  case h_2 => exact .refl u c s
  case h_1 x y _ _ =>
    have habove : s.SparesTank u c (judgeAbove e.tank s) := (judgeAbove_writes ..).sparesTank_of (tank_judgeAbove_of_ne ht s)
    have hsoon : s.SparesTank u c (setHighSoon d x.t.soon (judgeAbove e.tank s)) := habove.trans (setHighSoon_writes ..).sparesTank
    have hlive : (setHighSoon d x.t.soon (judgeAbove e.tank s)).Live i :=
      ((judgeAbove_writes e.tank s).then (setHighSoon_writes ..) (R := judgeParts)).live hl
    have hstage := applyStage_writes (k := k) (c := d) (h := x) (d := y) hlive
    have hstaged := hsoon.trans hstage.sparesTank
    unfold levelEffects
    simp only
    split
    · exact hstaged.trans (endSettling_writes (hstage.live hlive)).sparesTank
    · exact hstaged

theorem evaluate_sparesTank (hd : d ≠ c) (k : EvalKind) (s : State) : s.SparesTank u c (evaluate k d s) := by
  refine ⟨fun hs => (evaluate_innerWrites k d s).served hs, fun hs => ?_⟩
  cases h : s.activeEntry d with
  | none => rw [evaluate_none h]
  | some p =>
    obtain ⟨i, e⟩ := p
    obtain ⟨he, -, ha⟩ := activeEntry_live h
    have hlive : s.Live i := .of_entry he (by rw [ha]; rfl)
    have hne : e.tank ≠ u := hs.ne (activeEntry_eq_some_iff.mp h).1 hd
    have hlevel : s.SparesTank u c (levelSteps k d i e s) := levelSteps_sparesTank hlive hne
    have hwrites := levelSteps_writes (k := k) (d := d) (e := e) hlive
    have hmeter := hwrites.then (meterHalf_writes d i (closureAllowance (s.marginRate d e k) (s.chanConfig d).strokeTime) _) (R := judgeParts)
    have hmargin : s.SparesTank u c (judgeMargin k d i e s) :=
      (hlevel.trans (meterHalf_writes ..).sparesTank).trans (writeMargin_writes (hmeter.live hlive)).sparesTank
    rw [evaluate_eq h]
    exact (hmargin.trans (settleSet_sparesTank hd _ _)).tank hs

/-- The evaluations leave the tank of a channel that does not ask and is not itself to be evaluated. -/
theorem runEvals_tank (n : Nat) {s : State} (ha : (s.chan c).asks = false) (hf : (s.chan c).FlowsByGrant) (hv : c ∉ s.evals)
    (hs : s.ServedBy u c) : (runEvals n s).tank u = s.tank u := by
  induction n generalizing s with
  | zero => rfl
  | succ n ih =>
    unfold runEvals
    split
    case h_1 => rfl
    case h_2 d rest he =>
      have hd : d ≠ c := by rintro rfl; exact hv (by rw [he]; exact List.mem_cons_self ..)
      have hrest : c ∉ rest := fun hm => hv (by rw [he]; exact List.mem_cons_of_mem _ hm)
      have hspare := evaluate_spares hd .change { s with evals := rest }
      have htank := evaluate_sparesTank (u := u) hd .change { s with evals := rest }
      have hc := hspare.chan ha hf
      have hs' : ({ s with evals := rest } : State).ServedBy u c := hs.congr rfl
      exact (ih (s := evaluate .change d { s with evals := rest }) (by rw [hc]; exact ha) (by rw [hc]; exact hf)
        (hspare.evals ha hf hrest) (htank.served hs')).trans (htank.tank hs')

theorem effect_tank {f : State → State} (ha : ((f s).chan c).asks = false) (hf : ((f s).chan c).FlowsByGrant) (hv : c ∉ (f s).evals)
    (hs : (f s).ServedBy u c) : (effect f s).tank u = (f s).tank u := runEvals_tank evalBudget ha hf hv hs

/-! ### The stale timer (R41) -/

/-- A level state that is neither STEADY nor SLOSHING starts nothing (R78). -/
theorem startAfterLevel_unsettled (b : LevelState) (h : (s.tank u).levelState.settled = false) : startAfterLevel u b s = s := by
  unfold startAfterLevel
  split
  · rfl
  split
  case h_2 => rfl
  case h_1 c hc =>
    refine judgeStart_of_cannot ?_
    have hfound := List.find?_some hc
    unfold State.canStart
    cases he : s.current c with
    | none => rfl
    | some p =>
      simp only [he, beq_iff_eq] at hfound
      simp only [hfound, h, Bool.and_false, Bool.false_and]

theorem Tank.stale_unknown {k : Tank} (h : k.stale = true) : k.levelState.known = false ∧ k.levelState.settled = false := by
  unfold Tank.levelState
  rw [h]
  split
  · exact ⟨rfl, rfl⟩
  split
  · exact ⟨rfl, rfl⟩
  · exact ⟨rfl, rfl⟩

theorem tank_judgeBlind (s : State) : ∃ b, (judgeBlind u s).tank u = { s.tank u with blindTimer := b } := by
  unfold judgeBlind
  split
  case h_2 => exact ⟨_, rfl⟩
  case h_1 c _ =>
    split
    · exact ⟨none, by rw [(removeHold_writes ..).tank_eq, tank_modTank, if_pos rfl]⟩
    split
    · exact ⟨_, rfl⟩
    · exact ⟨_, by rw [(addHold_writes ..).tank_eq, tank_modTank, if_pos rfl]⟩

/-- A tank whose stale timer has run out (R41). -/
def Tank.staled (k : Tank) : Tank := { k with stale := true, staleTimer := none }

/-- The mark set and told, before the blind channel is judged (R41, R49). -/
def staleMarked (u : TankNo) (s : State) : State :=
  noteLevelChange u (s.tank u).levelState (s.tank u).suspect none (s.modTank u Tank.staled)

theorem staleMarked_writes (u : TankNo) (s : State) : Writes [.notices] (s.modTank u Tank.staled) (staleMarked u s) :=
  noteLevelChange_writes ..

theorem tank_staleMarked (u : TankNo) (s : State) : (staleMarked u s).tank u = (s.tank u).staled := by
  rw [(staleMarked_writes u s).tank_eq, tank_modTank, if_pos rfl]

theorem takeStale_eq (h : s.due (s.tank u).staleTimer = true) : takeStale u s = judgeBlind u (staleMarked u s) := by
  unfold takeStale
  simp only [h, if_true]
  refine startAfterLevel_unsettled _ ?_
  obtain ⟨b, hb⟩ := tank_judgeBlind (u := u) (staleMarked u s)
  exact (congrArg (fun k : Tank => k.levelState.settled) hb).trans (by
    rw [tank_staleMarked]; exact (Tank.stale_unknown (k := { (s.tank u).staled with blindTimer := b }) rfl).2)

/-- A channel that serves a tank with no level known is held by BLIND, and the tank's blind timer runs (R47). -/
theorem judgeBlind_unknown (hc : s.activeChan u = some c) (hk : (s.tank u).levelState.known = false) (hb : (s.chan c).holds.blind = false) :
    judgeBlind u s = addHold c .blind (s.modTank u fun k => { k with blindTimer := some (s.expiry s.config.device.blindLimit) }) := by
  unfold judgeBlind
  simp only [hc, hk, hb, Bool.false_eq_true, if_false]

theorem judgeBlind_unserved (hc : s.activeChan u = none) : judgeBlind u s = s := by
  unfold judgeBlind
  simp only [hc]

/-- The tank as the stale timer's expiry leaves it where its channel is made blind. -/
def Tank.blinded (k : Tank) (x : Nat) : Tank := { k with stale := true, staleTimer := none, blindTimer := some x }

/-- The state in which BLIND is put on. -/
def staleBlinded (u : TankNo) (s : State) : State :=
  (staleMarked u s).modTank u fun k => { k with blindTimer := some (s.expiry s.config.device.blindLimit) }

theorem staleBlinded_eq (u : TankNo) (s : State) : staleBlinded u s = { s with
    tanks := s.tanks.set u ((s.tank u).blinded (s.expiry s.config.device.blindLimit))
    portB := (staleMarked u s).portB, portS := (staleMarked u s).portS } := by
  have h := (staleMarked_writes u s).only_ports
  unfold staleBlinded
  generalize hv : staleMarked u s = v at h ⊢
  generalize v.portB = a, v.portS = b at h ⊢
  subst h
  simp [State.modTank, State.setTank, State.tank, Tank.staled, Tank.blinded, Vector.get_eq_getElem]

theorem takeStale_blind (hdue : s.due (s.tank u).staleTimer = true) (hc : s.activeChan u = some c) (hb : (s.chan c).holds.blind = false) :
    takeStale u s = addHold c .blind (staleBlinded u s) := by
  have hw := staleMarked_writes u s
  have hchan : ((staleMarked u s).chan c).holds.blind = false := by rw [hw.chan_eq]; exact hb
  have hactive : (staleMarked u s).activeChan u = some c := by rw [activeChan_congr hw.entry_eq]; exact hc
  rw [takeStale_eq hdue, judgeBlind_unknown hactive (by rw [tank_staleMarked]; exact (Tank.stale_unknown rfl).1) hchan]
  unfold staleBlinded
  rw [show (staleMarked u s).expiry = s.expiry from by unfold State.expiry; rw [hw.now_eq]; rfl, hw.config_eq]
  rfl

theorem activeChan_chan {u : TankNo} (h : s.activeChan u = some c) : ∃ i e, s.activeEntry c = some (i, e) ∧ e.tank = u := by
  have hfound := List.find?_some h
  cases he : s.activeEntry c with
  | none => simp [he] at hfound
  | some p => exact ⟨p.1, p.2, rfl, by simpa [he] using hfound⟩

theorem staleMarked_told (u : TankNo) (s : State) : EndedKept s (staleMarked u s) ∧ ∀ q, ((staleMarked u s).port q).line = (s.port q).line :=
  ⟨fun q => (staleMarked_writes u s).ended_eq (q := q), fun q => (staleMarked_writes u s).line_eq q⟩

/-- Settles O43: the mark alone where no ACTIVE entry names the tank; elsewhere BLIND goes on its channel, which no other channel's
evaluation touches. -/
theorem staleTimerExpiryMarksTheTank : Obligations.StaleTimerExpiryMarksTheTank := by
  intro u x s hs hx hnow
  have hdue : s.due (s.tank u).staleTimer = true := due_of_le hx hnow
  refine ⟨fun hnone => ?_, fun c hc hg hshared _ hblind => ?_⟩
  · have hw := staleMarked_writes u s
    have heff : takeStale u s = staleMarked u s := by
      rw [takeStale_eq hdue, judgeBlind_unserved (by rw [activeChan_congr hw.entry_eq]; exact hnone)]
    refine ⟨staleMarked u s, exec_quiet hs.1 rfl heff (hw.evals_eq.trans hs.2), hw.only_ports, staleMarked_told u s⟩
  have heff := takeStale_blind hdue hc hblind
  have heq := staleBlinded_eq u s
  have htold := staleMarked_told u s
  have hev : (staleBlinded u s).evals = [] := by rw [heq]; exact hs.2
  have hchan : (staleBlinded u s).chan = s.chan := by rw [heq]; rfl
  refine ⟨fun hst => ?_, fun hf => ?_⟩
  · have hquiet : addHold c .blind (staleBlinded u s)
        = noteChan .holds c ((staleBlinded u s).modChan c fun k => { k with holds := (s.chan c).holds.put .blind true }) := by
      have h := addHold_quiet (s := staleBlinded u s) (c := c) (r := .blind) (by rw [heq]; exact hst)
        (by rw [heq]; exact hg) (by rw [hchan]; exact hblind)
      rw [h, hchan]
    have hnote := noteChan_writes .holds c ((staleBlinded u s).modChan c fun k => { k with holds := (s.chan c).holds.put .blind true })
    refine ⟨_, exec_quiet hs.1 rfl (heff.trans hquiet) (hnote.evals_eq.trans hev), ?_, fun q => (hnote.ended_eq (q := q)).trans (htold.1 q),
      fun q => (hnote.line_eq q).trans (htold.2 q)⟩
    rw [hnote.only_ports]
    simp only [heq]
    rfl
  · have hno : (s.chan c).holds.has .blind = false := hblind
    obtain ⟨hheld, hevals⟩ := addHold_flowing (s := staleBlinded u s) (c := c) (r := .blind) (by rw [hchan]; exact hf) (by rw [hchan]; exact hno)
      (by decide)
    rw [hchan] at hheld
    obtain ⟨i, e, he, rfl⟩ := activeChan_chan hc
    have hserved : (staleBlinded e.tank s).ServedBy e.tank c :=
      (hshared.servedBy (activeEntry_eq_some_iff.mp he).1).congr (by rw [heq]; rfl)
    have hadd := addHold_writes c .blind (staleBlinded e.tank s)
    have hasks : ((takeStale e.tank s).chan c).asks = false := by rw [heff, hheld]; exact Channel.asks_heldBy _ (by decide)
    have hflows : ((takeStale e.tank s).chan c).FlowsByGrant := by rw [heff, hheld]; exact Channel.flowsByGrant_heldBy ..
    have hnotin : c ∉ (takeStale e.tank s).evals := by rw [heff]; exact hevals (by rw [hev]; exact List.not_mem_nil)
    have hend := effect_spares (f := takeStale e.tank) hasks hflows hnotin
    have htank := effect_tank (f := takeStale e.tank) hasks hflows hnotin (by rw [heff]; exact hadd.served hserved)
    have hk : (effect (takeStale e.tank) s).chan c = (s.chan c).heldBy .blind := by rw [hend.1, heff, hheld]
    refine ⟨effect (takeStale e.tank) s, exec_on hs.1 rfl, ?_, ?_, ?_, ?_, ?_, ?_, ?_⟩
    · rw [given_effect, given_takeStale]
    · rw [hk]; rfl
    · rw [hk]; rfl
    · rw [hk]; rfl
    · rw [hk, Channel.heldBy, (hg.2.2 c).2.1 hf]; rfl
    · rw [hk]; rfl
    · rw [htank, heff, hadd.tank_eq, heq]
      simp [State.tank, Tank.blinded, Vector.get_eq_getElem]

/-! SUPPORT. The moves an evaluation is made of, and what they keep of the header and its callers (R54, R99 to R105). -/


variable {P : List Part} {s t v : State} {u : TankNo} {c d : Chan} {i : EntryId} {k : EvalKind} {e : Entry}

/-! ### What no evaluation writes of a tank (R34) -/

/-- A tank's record but for the above-table flag, the blind timer and the LEVEL_HI mark. -/
def Tank.readings (k : Tank) : Tank := { k with aboveTable := false, blindTimer := none, hiStopMark := none }

/-- The tanks of a state but for those items. -/
def State.readings (s : State) (u : TankNo) : Tank := (s.tank u).readings

theorem readings_modTank {f : Tank → Tank} (u : TankNo) (s : State) (h : ∀ k, (f k).readings = k.readings) :
    (s.modTank u f).readings = s.readings := by
  funext x
  unfold State.readings
  rw [tank_modTank]
  split
  case isTrue hx => rw [h, hx]
  case isFalse => rfl

theorem Writes.readings_eq (h : Writes P s t) (hP : ∀ p ∈ P, p.item ≠ .tanks ∧ p.item ≠ .many := by decide) : t.readings = s.readings := by
  funext x
  unfold State.readings
  rw [h.tank_eq hP]

theorem readings_setAbove (u : TankNo) (b : Bool) (s : State) : (setAbove u b s).readings = s.readings := by
  unfold setAbove
  split
  · rfl
  · exact (noteTank_writes ..).readings_eq.trans (readings_modTank u s fun _ => rfl)

/-- A blind timer that is stopped stays so (R47). -/
def State.KeepsUnblinded (s t : State) : Prop := ∀ u, (s.tank u).blindTimer = none → (t.tank u).blindTimer = none

theorem keepsUnblinded_modTank {f : Tank → Tank} (u : TankNo) (s : State) (h : ∀ k, k.blindTimer = none → (f k).blindTimer = none) :
    s.KeepsUnblinded (s.modTank u f) := by
  intro x hx
  rw [tank_modTank]
  split
  case isTrue hu => subst hu; exact h _ hx
  case isFalse => exact hx

theorem Writes.keepsUnblinded (h : Writes P s t) (hP : ∀ p ∈ P, p.item ≠ .tanks ∧ p.item ≠ .many := by decide) : s.KeepsUnblinded t := by
  intro u hu
  rw [h.tank_eq hP]; exact hu

theorem keepsUnblinded_setAbove (u : TankNo) (b : Bool) (s : State) : s.KeepsUnblinded (setAbove u b s) := by
  unfold setAbove
  split
  · exact fun _ => id
  · exact fun x hx => (noteTank_writes ..).keepsUnblinded (by decide) x (keepsUnblinded_modTank (f := fun k => { k with aboveTable := b }) u s (fun _ h => h) x hx)

/-! ### The moves of an evaluation (R54, R81, R111) -/

/-- One move of an evaluation, as the header and the channels see it. -/
inductive Move : State → State → Prop
  | aside (s t : State) : t = { s with plan := t.plan, tanks := t.tanks, trip := t.trip, portB := t.portB, portS := t.portS } →
      t.readings = s.readings ∧ s.KeepsUnblinded t → Move s t
  | settled (d : Chan) (s : State) : Move s (removeHolds d [.settling] s)
  | returned (d : Chan) (s : State) : Move s (removeHolds d [.blind, .lineupDropped] s)
  | soon (d : Chan) (b : Bool) (s : State) : Move s (setHighSoon d b s)
  | gain (d : Chan) (u : TankNo) (b : Bool) (s : State) : Move s (setUnmetered d u b s)
  | unauthorise (d : Chan) (s : State) : Move s (setAuth d false s)
  | close (d : Chan) (s : State) : Move s (closeChannel d s)
  | regrant (z : Bool) (s : State) : Move s (regrant z s)
  | rotate (d : Chan) (s : State) : Move s (rotate d s)

/-- A sequence of moves. -/
def Moves : State → State → Prop := Relation.ReflTransGen Move

theorem Moves.refl (s : State) : Moves s s := Relation.ReflTransGen.refl

theorem Moves.trans (h : Moves s t) (g : Moves t v) : Moves s v := Relation.ReflTransGen.trans h g

theorem Moves.ite {b : Prop} [Decidable b] (ht : Moves s t) (hv : Moves s v) : Moves s (if b then t else v) := by
  split
  · exact ht
  · exact hv

theorem Move.moves (h : Move s t) : Moves s t := Relation.ReflTransGen.single h

/-- What every move keeps, a sequence of them keeps. -/
theorem Moves.keeps {I : State → Prop} (hI : ∀ s t, Move s t → I s → I t) (h : Moves s t) (hs : I s) : I t := by
  induction h with
  | refl => exact hs
  | tail _ hm ih => exact hI _ _ hm ih

theorem modEntry_moves (i : EntryId) (f : Entry → Entry) (s : State) : Moves s (s.modEntry i f) :=
  (Move.aside s (s.modEntry i f) rfl ⟨rfl, fun _ => id⟩).moves

/-- Notices raised. -/
theorem Writes.told (h : Writes [.notices] s t) : Moves s t := by
  refine (Move.aside _ _ ?_ ⟨h.readings_eq, h.keepsUnblinded⟩).moves
  have ht := h.only_ports
  generalize t.portB = a, t.portS = b at ht
  subst ht
  rfl

theorem noteEntry_moves (ev : EntryEvent) (i : EntryId) (s : State) : Moves s (noteEntry ev i s) := (noteEntry_writes ..).told

theorem clearSlug_moves (i : EntryId) (s : State) : Moves s (clearSlug i s) := by
  unfold clearSlug
  split
  case h_2 => exact .refl s
  case h_1 e _ =>
    split
    case h_2 => exact .refl s
    case h_1 => exact .ite ((modEntry_moves i _ s).trans (Move.settled ..).moves) (modEntry_moves ..)

theorem markEnd_moves (i : EntryId) (r : EndReason) (s : State) : Moves s (markEnd i r s) := by
  unfold markEnd
  split
  case h_2 => exact .refl s
  case h_1 => exact .ite (((modEntry_moves i _ s).trans (noteEntry_moves ..)).trans (clearSlug_moves ..)) (.refl s)

theorem closeChannel_moves (c : Chan) (s : State) : Moves s (closeChannel c s) := (Move.close c s).moves

theorem regrant_moves (z : Bool) (s : State) : Moves s (regrant z s) := (Move.regrant z s).moves

theorem lowerStage_moves (i : EntryId) (st : Stage) (s : State) : Moves s (lowerStage i st s) := (modEntry_moves i _ s).trans (noteEntry_moves ..)

theorem finalStage_moves (d : Chan) (i : EntryId) (s : State) : Moves s (finalStage d i s) :=
  ((markEnd_moves i .levelFinal s).trans (clearSlug_moves ..)).trans (closeChannel_moves ..)

theorem sizeSlug_moves (d : Chan) (i : EntryId) (n : Nat) (m : Int) (s : State) : Moves s (sizeSlug d i n m s) := by
  unfold sizeSlug
  split
  case h_2 => exact .refl s
  case h_1 =>
    simp only
    exact .ite (.ite (modEntry_moves ..) ((lowerStage_moves ..).trans (finalStage_moves ..))) (.refl s)

theorem applyStage_moves (k : EvalKind) (d : Chan) (i : EntryId) (x : LevelHalf) (y : TankDecl) (s : State) : Moves s (applyStage k d i x y s) := by
  unfold applyStage
  split
  case h_2 => exact .refl s
  case h_1 e _ =>
    simp only
    split
    · have hset := modEntry_moves i (fun e => { e with stage := some x.computed }) s
      exact .ite (hset.trans (finalStage_moves ..)) (.ite (hset.trans (sizeSlug_moves ..)) hset)
    case h_2 held _ =>
      have hfell : Moves s (if decide (held.lower x.computed ≠ held) = true then lowerStage i (held.lower x.computed) s else s) :=
        .ite (lowerStage_moves ..) (.refl s)
      have hgrant (b : Prop) [Decidable b] := Moves.ite (b := b) (hfell.trans (regrant_moves false _)) hfell
      exact .ite (.ite (hfell.trans (finalStage_moves ..)) hfell) (.ite ((hgrant _).trans (sizeSlug_moves ..)) (hgrant _))

theorem endSettling_moves (d : Chan) (i : EntryId) (n : Nat) (m : Int) (s : State) : Moves s (endSettling d i n m s) := by
  unfold endSettling
  split
  case h_2 => exact .refl s
  case h_1 => exact .ite (.refl s) (((clearSlug_moves i s).trans (sizeSlug_moves ..)).trans (regrant_moves ..))

theorem meterHalf_moves (d : Chan) (i : EntryId) (a : Nat) (s : State) : Moves s (meterHalf d i a s) := by
  unfold meterHalf
  split
  case h_2 => exact .refl s
  case h_1 => exact .ite ((markEnd_moves ..).trans (closeChannel_moves ..)) (.refl s)

theorem judgeAbove_moves (u : TankNo) (s : State) : Moves s (judgeAbove u s) := by
  unfold judgeAbove
  split
  case h_2 => exact .refl s
  case h_1 =>
    refine (Move.aside _ _ ?_ ⟨readings_setAbove .., keepsUnblinded_setAbove _ _ s⟩).moves
    unfold setAbove
    split <;> rfl

theorem levelSteps_moves (k : EvalKind) (d : Chan) (i : EntryId) (e : Entry) (s : State) : Moves s (levelSteps k d i e s) := by
  unfold levelSteps
  split
  case h_2 => exact .refl s
  case h_1 x y _ _ =>
    have hstage := ((judgeAbove_moves e.tank s).trans (Move.soon d x.t.soon _).moves).trans (applyStage_moves k d i x y _)
    exact .ite (hstage.trans (endSettling_moves ..)) hstage

theorem judgeMargin_moves (k : EvalKind) (d : Chan) (i : EntryId) (e : Entry) (s : State) : Moves s (judgeMargin k d i e s) :=
  ((levelSteps_moves k d i e s).trans (meterHalf_moves ..)).trans (modEntry_moves ..)

theorem promote_moves (d : Chan) (s : State) : Moves s (promote d s).1 := by
  refine (Move.aside _ _ ?_ ⟨(promote_writes d s).readings_eq, (promote_writes d s).keepsUnblinded⟩).moves
  rw [promote_eq]

theorem afterFinish_moves (d : Chan) (i : EntryId) (r : EndReason) (n : Nat) (s : State) : Moves s (afterFinish d i r n s) := by
  have hrotate : Moves s (if terminalState r n = .cancelled then (promote d s).1 else rotate d (promote d s).1) :=
    .ite (promote_moves d s) ((promote_moves d s).trans (Move.rotate ..).moves)
  have hgrant := (hrotate.trans (regrant_moves false _)).trans (Move.aside _ (setEnded d _) rfl ⟨rfl, fun _ => id⟩).moves
  have hauth (w : State) : Moves w (if (w.current d).isNone then setAuth d false w else w) := .ite (Move.unauthorise ..).moves (.refl w)
  have htold := (hgrant.trans (hauth _)).trans (noteEntry_moves .state i _)
  unfold afterFinish
  simp only
  split
  · exact htold.trans (noteEntry_moves ..)
  · exact htold

theorem leaveActive_moves (d : Chan) (u : TankNo) (s : State) : Moves s (leaveActive d u s) := by
  have htank (w : State) : Moves w (w.modTank u fun k => { k with blindTimer := none }) :=
    by
    exact (Move.aside w _ rfl ⟨readings_modTank (f := fun k => { k with blindTimer := none }) u w fun _ => rfl,
      keepsUnblinded_modTank u w fun _ _ => rfl⟩).moves
  exact (((Move.soon d false s).moves.trans (Move.gain d u false _).moves).trans (htank _)).trans (Move.returned ..).moves

theorem applyEnd_moves (d : Chan) (i : EntryId) (s : State) : Moves s (applyEnd d i s) := by
  cases he : s.entry i with
  | none => unfold applyEnd; rw [he]; exact .refl s
  | some e =>
    cases hr : e.endPending with
    | none => unfold applyEnd; rw [he]; simp only [hr]; exact .refl s
    | some r =>
      have hfin := modEntry_moves i (fun e => e.finish r s.now) s
      rw [applyEnd_eq he hr]
      exact (Moves.ite (hfin.trans (leaveActive_moves ..)) hfin).trans (afterFinish_moves ..)

theorem settleEnd_moves (d : Chan) (s : State) : Moves s (settleEnd d s) := by
  unfold settleEnd
  split
  case h_2 => exact .refl s
  case h_1 => exact .ite (applyEnd_moves ..) (.refl s)

/-- An evaluation is a sequence of moves (R54). -/
theorem evaluate_moves (k : EvalKind) (d : Chan) (s : State) : Moves s (evaluate k d s) := by
  cases h : s.activeEntry d with
  | none => rw [evaluate_none h]; exact .refl s
  | some p =>
    obtain ⟨i, e⟩ := p
    rw [evaluate_eq h]
    exact (judgeMargin_moves ..).trans (.ite (.refl _) (settleEnd_moves ..))

/-- What moves keep whatever evaluations wait, the evaluations of a command keep (R111 step 4). -/
theorem runEvals_keeps {I : State → Prop} (hI : ∀ s t, Move s t → I s → I t) (hv : ∀ s es, I s → I { s with evals := es }) (n : Nat)
    {s : State} (hs : I s) : I (runEvals n s) := by
  induction n generalizing s with
  | zero => exact hs
  | succ n ih =>
    unfold runEvals
    split
    case h_1 => exact hs
    case h_2 d rest _ => exact ih ((evaluate_moves .change d _).keeps hI (hv s rest hs))

theorem effect_keeps {I : State → Prop} (hI : ∀ s t, Move s t → I s → I t) (hv : ∀ s es, I s → I { s with evals := es }) {f : State → State}
    (hs : I (f s)) : I (effect f s) := hv _ [] (runEvals_keeps hI hv evalBudget hs)


theorem Move.readings (h : Move s t) : t.readings = s.readings := by
  cases h with
  | aside _ _ _ h => exact h.1
  | settled d | returned d => exact (removeHolds_writes d _).readings_eq
  | soon => exact (setHighSoon_writes ..).readings_eq
  | gain => exact (setUnmetered_writes ..).readings_eq
  | unauthorise => exact (setAuth_false_writes ..).readings_eq
  | close => exact (closeChannel_writes ..).readings_eq
  | regrant => exact (regrant_writes ..).readings_eq
  | rotate => exact (rotate_writes ..).readings_eq

theorem Move.keepsUnblinded (h : Move s t) : s.KeepsUnblinded t := by
  cases h with
  | aside _ _ _ h => exact h.2
  | settled d | returned d => exact (removeHolds_writes d _).keepsUnblinded
  | soon => exact (setHighSoon_writes ..).keepsUnblinded
  | gain => exact (setUnmetered_writes ..).keepsUnblinded
  | unauthorise => exact (setAuth_false_writes ..).keepsUnblinded
  | close => exact (closeChannel_writes ..).keepsUnblinded
  | regrant => exact (regrant_writes ..).keepsUnblinded
  | rotate => exact (rotate_writes ..).keepsUnblinded

theorem Moves.keepsUnblinded (h : Moves s t) : s.KeepsUnblinded t := fun u hu =>
  h.keeps (I := fun v => (v.tank u).blindTimer = none) (fun _ _ hm => hm.keepsUnblinded u) hu

theorem Moves.readings (h : Moves s t) : t.readings = s.readings :=
  h.keeps (I := fun v => v.readings = s.readings) (fun _ _ hm hv => hm.readings.trans hv) rfl

theorem effect_readings (f : State → State) (s : State) : (effect f s).readings = (f s).readings :=
  effect_keeps (I := fun v => v.readings = (f s).readings) (fun _ _ hm hv => hm.readings.trans hv) (fun _ _ h => h) rfl

/-! SUPPORT. What every evaluation leaves of the entries and of a channel at rest (R10, R53, R54). -/


variable {P : List Part} {s t v : State} {u : TankNo} {c d : Chan} {i : EntryId} {k : EvalKind} {e : Entry}

/-! ### The fields of an entry no evaluation writes (R54) -/

/-- An entry but for the stage, the slug, the end pending and the margin record. -/
def Entry.fixed (e : Entry) : Entry := { e with stage := none, slug := none, endPending := none, margin := none }

/-- The entries of a state but for what evaluations write. -/
def State.fixed (s : State) (i : EntryId) : Option Entry := (s.entry i).map Entry.fixed

theorem fixed_congr (h : t.entry = s.entry) : t.fixed = s.fixed := by funext i; rw [State.fixed, h]; rfl

theorem Writes.fixed_eq (h : Writes P s t) (hP : ∀ p ∈ P, p.item ≠ .plan ∧ p.item ≠ .many := by decide) : t.fixed = s.fixed :=
  fixed_congr (h.entry_eq hP)

theorem fixed_modEntry {f : Entry → Entry} (i : EntryId) (s : State) (h : ∀ e, (f e).fixed = e.fixed) : (s.modEntry i f).fixed = s.fixed := by
  funext j
  unfold State.fixed
  rw [entry_modEntry]
  split
  case isTrue hij => subst hij; cases s.entry i <;> simp [h]
  case isFalse => rfl

theorem fixed_ite {b : Prop} [Decidable b] (ht : t.fixed = s.fixed) (hv : v.fixed = s.fixed) : (if b then t else v).fixed = s.fixed := by
  split
  · exact ht
  · exact hv

/-- What an entry becomes keeps the fields no evaluation writes. -/
theorem entry_of_fixed (h : t.fixed = s.fixed) (he : s.entry i = some e) : ∃ f, t.entry i = some f ∧ f.fixed = e.fixed := by
  have hi := congrFun h i
  unfold State.fixed at hi
  rw [he] at hi
  cases ht : t.entry i with
  | none => rw [ht] at hi; cases hi
  | some f => rw [ht] at hi; exact ⟨f, rfl, Option.some.inj hi⟩

theorem clearSlug_fixed (i : EntryId) (s : State) : (clearSlug i s).fixed = s.fixed := by
  unfold clearSlug
  split
  case h_2 => rfl
  case h_1 e _ =>
    split
    case h_2 => rfl
    case h_1 =>
      have hslug := fixed_modEntry (f := fun e => { e with slug := some { phase := .idle, size := none, base := none } }) i s fun _ => rfl
      exact fixed_ite ((removeHolds_writes e.chan _).fixed_eq.trans hslug) hslug

theorem markEnd_fixed (i : EntryId) (r : EndReason) (s : State) : (markEnd i r s).fixed = s.fixed := by
  unfold markEnd
  split
  case h_2 => rfl
  case h_1 =>
    refine fixed_ite ?_ rfl
    rw [clearSlug_fixed, (noteEntry_writes ..).fixed_eq]
    exact fixed_modEntry i s fun _ => rfl

theorem lowerStage_fixed (i : EntryId) (st : Stage) (s : State) : (lowerStage i st s).fixed = s.fixed :=
  (noteEntry_writes ..).fixed_eq.trans (fixed_modEntry i s fun _ => rfl)

theorem finalStage_fixed (d : Chan) (i : EntryId) (s : State) : (finalStage d i s).fixed = s.fixed := by
  rw [finalStage, (closeChannel_writes ..).fixed_eq, clearSlug_fixed, markEnd_fixed]

theorem sizeSlug_fixed (d : Chan) (i : EntryId) (sv : Nat) (m : Int) (s : State) : (sizeSlug d i sv m s).fixed = s.fixed := by
  unfold sizeSlug
  split
  case h_2 => rfl
  case h_1 =>
    simp only
    exact fixed_ite (fixed_ite (fixed_modEntry i s fun _ => rfl) ((finalStage_fixed ..).trans (lowerStage_fixed ..))) rfl

theorem applyStage_fixed (k : EvalKind) (d : Chan) (i : EntryId) (x : LevelHalf) (y : TankDecl) (s : State) :
    (applyStage k d i x y s).fixed = s.fixed := by
  unfold applyStage
  split
  case h_2 => rfl
  case h_1 e _ =>
    simp only
    split
    · have hset := fixed_modEntry (f := fun e => { e with stage := some x.computed }) i s fun _ => rfl
      exact fixed_ite ((finalStage_fixed ..).trans hset) (fixed_ite ((sizeSlug_fixed ..).trans hset) hset)
    case h_2 held _ =>
      have hfell : (if decide (held.lower x.computed ≠ held) = true then lowerStage i (held.lower x.computed) s else s).fixed = s.fixed :=
        fixed_ite (lowerStage_fixed ..) rfl
      have hgrant (b : Prop) [Decidable b] := fixed_ite (b := b) ((regrant_writes false _).fixed_eq.trans hfell) hfell
      exact fixed_ite (fixed_ite ((finalStage_fixed ..).trans hfell) hfell) (fixed_ite ((sizeSlug_fixed ..).trans (hgrant _)) (hgrant _))

theorem endSettling_fixed (d : Chan) (i : EntryId) (sv : Nat) (m : Int) (s : State) : (endSettling d i sv m s).fixed = s.fixed := by
  unfold endSettling
  split
  case h_2 => rfl
  case h_1 => exact fixed_ite rfl ((regrant_writes false _).fixed_eq.trans ((sizeSlug_fixed ..).trans (clearSlug_fixed ..)))

theorem meterHalf_fixed (d : Chan) (i : EntryId) (a : Nat) (s : State) : (meterHalf d i a s).fixed = s.fixed := by
  unfold meterHalf
  split
  case h_2 => rfl
  case h_1 => exact fixed_ite ((closeChannel_writes ..).fixed_eq.trans (markEnd_fixed ..)) rfl

theorem levelSteps_fixed (k : EvalKind) (d : Chan) (i : EntryId) (e : Entry) (s : State) : (levelSteps k d i e s).fixed = s.fixed := by
  unfold levelSteps
  split
  case h_2 => rfl
  case h_1 x y _ _ =>
    have hstage := (applyStage_fixed k d i x y _).trans
      (((setHighSoon_writes d x.t.soon (judgeAbove e.tank s)).fixed_eq).trans (judgeAbove_writes e.tank s).fixed_eq)
    exact fixed_ite ((endSettling_fixed ..).trans hstage) hstage

theorem writeMargin_fixed (i : EntryId) (q a : Nat) (x : Option LevelHalf) (s : State) : (writeMargin i q a x s).fixed = s.fixed :=
  fixed_modEntry i s fun _ => rfl

/-- An evaluation, but for the end it may apply, writes the stage, the slug, the end pending and the margin record only (R54). -/
theorem judgeMargin_fixed (k : EvalKind) (d : Chan) (i : EntryId) (e : Entry) (s : State) : (judgeMargin k d i e s).fixed = s.fixed :=
  (writeMargin_fixed ..).trans ((meterHalf_fixed ..).trans (levelSteps_fixed ..))

theorem current_of_fixed (h : t.fixed = s.fixed) (hc : s.current c = some (i, e)) : ∃ f, t.current c = some (i, f) ∧ f.fixed = e.fixed := by
  have hlive (w : State) (j : EntryId) : (match w.entry j with | some e => e.live c | none => false) = (w.fixed j).any fun e => e.live c := by
    unfold State.fixed
    cases w.entry j <;> rfl
  have hid : t.currentId c = s.currentId c := by
    refine congrArg entryIds.find? (funext fun j => (hlive t j).trans (Eq.trans ?_ (hlive s j).symm))
    rw [h]
  obtain ⟨hi, he⟩ := current_eq_some_iff.mp hc
  obtain ⟨f, hf, hfe⟩ := entry_of_fixed h he
  exact ⟨f, current_eq_some_iff.mpr ⟨hid.trans hi, hf⟩, hfe⟩

/-! ### An end applied (R14) -/

/-- The current entry once it is promoted (R3, R14 step 2). -/
def Entry.promoted (e : Entry) : Entry := if e.state = .queued then { e with state := .await, lineup := .notReady } else e

theorem entry_promote (s : State) (j : EntryId) :
    (promote c s).1.entry j = if s.currentId c = some j then (s.entry j).map Entry.promoted else s.entry j := by
  unfold promote
  split
  case h_2 hn =>
    have hid : s.currentId c = none := current_isNone_iff.mp (by rw [hn]; rfl)
    rw [hid, if_neg (by simp)]
  case h_1 n e hc =>
    obtain ⟨hid, he⟩ := current_eq_some_iff.mp hc
    rw [hid]
    by_cases hn : n = j
    · subst hn
      rw [if_pos rfl, he, Option.map_some, Entry.promoted]
      split
      · simp [he]
      · exact he
    · rw [if_neg fun h => hn (Option.some.inj h), apply_ite Prod.fst, apply_ite fun t : State => t.entry j]
      rw [entry_modEntry, if_neg hn, ite_self]

theorem entry_afterFinish (r : EndReason) (n : Nat) (s : State) : (afterFinish c i r n s).entry = (promote c s).1.entry :=
  (afterPromote_writes c i r n s).entry_eq

/-- The state in which an entry's end is applied and its channel's next has not come up (R14 step 1). -/
def finished (c : Chan) (i : EntryId) (e : Entry) (r : EndReason) (s : State) : State :=
  if e.state = .active then leaveActive c e.tank (s.modEntry i fun e => e.finish r s.now) else s.modEntry i fun e => e.finish r s.now

theorem entry_finished (r : EndReason) (s : State) : (finished c i e r s).entry = (s.modEntry i fun e => e.finish r s.now).entry := by
  unfold finished
  split
  · exact (leaveActive_writes ..).entry_eq
  · rfl

theorem applyEnd_eq_finished {r : EndReason} (he : s.entry i = some e) (hr : e.endPending = some r) :
    applyEnd c i s = afterFinish c i r e.delivered (finished c i e r s) := applyEnd_eq he hr

theorem terminal_finish (e : Entry) (r : EndReason) (now : Nat) : (e.finish r now).state.terminal = true := terminalState_terminal ..

/-- The entry whose end is applied is terminal by its reason (R14 step 1). -/
theorem entry_applyEnd_self {r : EndReason} (he : s.entry i = some e) (hr : e.endPending = some r) :
    (applyEnd c i s).entry i = some (e.finish r s.now) := by
  have hself : (finished c i e r s).entry i = some (e.finish r s.now) := by rw [entry_finished, entry_modEntry, if_pos rfl, he]; rfl
  rw [applyEnd_eq_finished he hr, entry_afterFinish, entry_promote]
  split
  case isFalse => exact hself
  case isTrue hc =>
    rw [hself, Option.map_some, Entry.promoted, if_neg]
    have hl := (current_live (current_eq_some_iff.mpr ⟨hc, hself⟩)).2.2
    rw [terminal_finish] at hl; cases hl

/-- An end applied changes no other entry, but that the channel's next comes up (R14 step 2). -/
theorem entry_applyEnd_other {r : EndReason} {j : EntryId} (he : s.entry i = some e) (hr : e.endPending = some r) (hj : j ≠ i) :
    (applyEnd c i s).entry j = if (finished c i e r s).currentId c = some j then (s.entry j).map Entry.promoted else s.entry j := by
  have hother : (finished c i e r s).entry j = s.entry j := by rw [entry_finished, entry_modEntry, if_neg fun h => hj h.symm]
  rw [applyEnd_eq_finished he hr, entry_afterFinish, entry_promote, hother]

/-! ### What an entry keeps past an end applied -/

/-- An entry but for what evaluations and the ends they apply write: a QUEUED entry that comes up is AWAIT and NOT_READY (R14). -/
def Entry.course (e : Entry) : Entry :=
  { e.fixed with state := .await, endReason := none, ended := none, lineup := if e.state = .queued then .notReady else e.lineup }

def State.course (s : State) (i : EntryId) : Option Entry := (s.entry i).map Entry.course

theorem course_of_fixed (h : t.fixed = s.fixed) : t.course = s.course := by
  have hcourse (w : State) (j : EntryId) : w.course j = (w.fixed j).map Entry.course := by
    unfold State.course State.fixed
    cases w.entry j <;> rfl
  funext j
  rw [hcourse t, hcourse s, h]

theorem Writes.course_eq (h : Writes P s t) (hP : ∀ p ∈ P, p.item ≠ .plan ∧ p.item ≠ .many := by decide) : t.course = s.course :=
  course_of_fixed (h.fixed_eq hP)

theorem course_promoted (e : Entry) : e.promoted.course = e.course := by
  unfold Entry.promoted
  split
  case isTrue h => simp [Entry.course, Entry.fixed, h]
  case isFalse => rfl

theorem course_finish (r : EndReason) (n : Nat) (hq : e.state ≠ .queued) : (e.finish r n).course = e.course := by
  have hfin : (e.finish r n).state ≠ .queued := fun h => by
    have := terminal_finish e r n
    rw [h] at this; cases this
  unfold Entry.course
  rw [if_neg hq, if_neg hfin]
  rfl

theorem promote_course (c : Chan) (s : State) : (promote c s).1.course = s.course := by
  funext j
  unfold State.course
  rw [entry_promote]
  split
  · cases s.entry j <;> simp [course_promoted]
  · rfl

theorem modEntry_finish_course {r : EndReason} (he : s.entry i = some e) (hq : e.state ≠ .queued) :
    (s.modEntry i fun e => e.finish r s.now).course = s.course := by
  funext j
  unfold State.course
  rw [entry_modEntry]
  split
  case isTrue hij => subst hij; rw [he, Option.map_some, Option.map_some, course_finish r s.now hq]; rfl
  case isFalse => rfl

/-- An end applied keeps every entry's course, but that of a QUEUED one it would end. -/
theorem applyEnd_course {r : EndReason} (he : s.entry i = some e) (hr : e.endPending = some r) (hq : e.state ≠ .queued) :
    (applyEnd c i s).course = s.course := by
  have hfin : (finished c i e r s).course = s.course := by
    rw [← modEntry_finish_course (r := r) he hq]
    unfold State.course
    rw [entry_finished]
  unfold State.course
  rw [applyEnd_eq_finished he hr, entry_afterFinish]
  exact (promote_course c _).trans hfin

theorem settleEnd_course (h : ∀ i e, s.current c = some (i, e) → e.state ≠ .queued) : (settleEnd c s).course = s.course := by
  unfold settleEnd
  split
  case h_2 => rfl
  case h_1 i e hc =>
    split
    case isFalse => rfl
    have he := (current_eq_some_iff.mp hc).2
    cases hr : e.endPending with
    | none => simp only [applyEnd, he, hr]
    | some r => exact applyEnd_course he hr (h i e hc)

/-- An evaluation's channel still has the entry current and ACTIVE as its end is judged (R54). -/
theorem judgeMargin_current (h : s.activeEntry d = some (i, e)) (k : EvalKind) :
    ∃ f, (judgeMargin k d i e s).current d = some (i, f) ∧ f.fixed = e.fixed ∧ f.state = .active := by
  obtain ⟨hc, ha⟩ := activeEntry_eq_some_iff.mp h
  obtain ⟨f, hf, hfe⟩ := current_of_fixed (judgeMargin_fixed k d i e s) hc
  exact ⟨f, hf, hfe, (congrArg Entry.state hfe).trans ha⟩

theorem evaluate_course (k : EvalKind) (d : Chan) (s : State) : (evaluate k d s).course = s.course := by
  cases h : s.activeEntry d with
  | none => rw [evaluate_none h]
  | some p =>
    obtain ⟨i, e⟩ := p
    have hjudge := course_of_fixed (judgeMargin_fixed k d i e s)
    rw [evaluate_eq h, settleSet]
    split
    · exact hjudge
    · refine (settleEnd_course fun j g hg => ?_).trans hjudge
      obtain ⟨f, hf, -, ha⟩ := judgeMargin_current h k
      rw [hf] at hg; cases hg
      rw [ha]; decide

theorem runEvals_course (n : Nat) (s : State) : (runEvals n s).course = s.course := by
  induction n generalizing s with
  | zero => rfl
  | succ n ih =>
    unfold runEvals
    split
    · rfl
    · exact (ih _).trans (evaluate_course ..)

/-- Evaluations keep every entry's course (R53). -/
theorem effect_course (f : State → State) (s : State) : (effect f s).course = (f s).course := runEvals_course ..

theorem entry_of_course (h : t.course = s.course) (he : s.entry i = some e) : ∃ f, t.entry i = some f ∧ f.course = e.course := by
  have hi := congrFun h i
  unfold State.course at hi
  rw [he] at hi
  cases ht : t.entry i with
  | none => rw [ht] at hi; cases hi
  | some f => rw [ht] at hi; exact ⟨f, rfl, Option.some.inj hi⟩

/-! ### A channel at rest through an evaluation (R53, R81) -/

/-- A channel's record but for the items an evaluation of a channel at rest writes. -/
def Channel.lasting (k : Channel) : Channel :=
  { k with holds := HoldSet.empty, highSoon := false, authorised := false, meter := { k.meter with unmeteredGain := false } }

/-- A channel neither flowing, held nor opening, without a grant, keeps its valve items, and no evaluation of it is handed on. -/
structure State.Rests (s : State) (c : Chan) (t : State) : Prop where
  lasting : (s.chan c).watched = false → (s.chan c).grant = 0 → (t.chan c).lasting = (s.chan c).lasting
  evals : (s.chan c).watched = false → (s.chan c).grant = 0 → c ∉ s.evals → c ∉ t.evals

theorem State.Rests.refl (c : Chan) (s : State) : s.Rests c s := ⟨fun _ _ => rfl, fun _ _ => id⟩

theorem watched_of_lasting {k l : Channel} (h : l.lasting = k.lasting) : l.watched = k.watched := by
  have hw : l.lasting.watched = k.lasting.watched := congrArg Channel.watched h
  exact hw

theorem State.Rests.trans (h : s.Rests c t) (g : t.Rests c v) : s.Rests c v := by
  have hstill (hw : (s.chan c).watched = false) (hg : (s.chan c).grant = 0) : (t.chan c).watched = false ∧ (t.chan c).grant = 0 :=
    ⟨(watched_of_lasting (h.lasting hw hg)).trans hw, (congrArg Channel.grant (h.lasting hw hg)).trans hg⟩
  exact ⟨fun hw hg => (g.lasting (hstill hw hg).1 (hstill hw hg).2).trans (h.lasting hw hg),
    fun hw hg hv => g.evals (hstill hw hg).1 (hstill hw hg).2 (h.evals hw hg hv)⟩

theorem Channel.asks_of_unwatched {k : Channel} (h : k.watched = false) : k.asks = false := by
  unfold Channel.watched at h
  unfold Channel.asks
  cases hs : k.state <;> simp [hs] at h ⊢

theorem Channel.flowsByGrant_of_unwatched {k : Channel} (h : k.watched = false) (hg : k.grant = 0) : k.FlowsByGrant := by
  refine Channel.flowsByGrant_of_resting ?_ hg
  unfold Channel.watched at h
  unfold ChState.resting
  cases hs : k.state <;> simp [hs] at h ⊢

theorem State.Spares.rests (h : s.Spares c t) : s.Rests c t where
  lasting hw hg := by rw [h.chan (Channel.asks_of_unwatched hw) (Channel.flowsByGrant_of_unwatched hw hg)]
  evals hw hg := h.evals (Channel.asks_of_unwatched hw) (Channel.flowsByGrant_of_unwatched hw hg)

/-- Writes of no evaluation that leave the channel's valve items. -/
theorem Writes.rests (h : Writes P s t) (hc : (t.chan c).lasting = (s.chan c).lasting)
    (hP : ∀ p ∈ P, p.item ≠ .evals ∧ p.item ≠ .many := by decide) : s.Rests c t where
  lasting _ _ := hc
  evals _ _ hv := by rw [h.evals_eq hP]; exact hv


theorem removeHolds_rests (c d : Chan) (rs : List HoldReason) (s : State) : s.Rests c (removeHolds d rs s) where
  lasting _ _ := by rw [chan_removeHolds]; split <;> simp_all [Channel.lasting]
  evals _ _ hv := by rw [removeHolds, updateChan_made]; exact hv

theorem setHighSoon_rests (c d : Chan) (b : Bool) (s : State) : s.Rests c (setHighSoon d b s) :=
  (setHighSoon_writes d b s).rests (by rw [chan_setHighSoon]; split <;> simp_all [Channel.lasting])

theorem setUnmetered_rests (c d : Chan) (u : TankNo) (b : Bool) (s : State) : s.Rests c (setUnmetered d u b s) :=
  (setUnmetered_writes d u b s).rests (by rw [chan_setUnmetered]; split <;> simp_all [Channel.lasting])

theorem setAuth_rests (c d : Chan) (b : Bool) (s : State) : s.Rests c (setAuth d b s) where
  lasting _ _ := by rw [chan_setAuth]; split <;> simp_all [Channel.lasting]
  evals _ _ hv := by
    unfold setAuth
    split
    · exact hv
    · rw [(noteChan_writes ..).evals_eq]; exact hv

/-- A close handed to a channel at rest finds nothing to close (R81). -/
theorem closeChannel_rests (c d : Chan) (s : State) : s.Rests c (closeChannel d s) := by
  by_cases hd : d = c
  case neg => exact (closeChannel_spares hd s).rests
  subst hd
  have hnone (hw : (s.chan d).watched = false) : closeChannel d s = s := by
    unfold closeChannel; simp only [hw, Bool.false_eq_true, if_false]
  exact ⟨fun hw _ => by rw [hnone hw], fun hw _ hv => by rw [hnone hw]; exact hv⟩

theorem regrant_rests (z : Bool) (c : Chan) (s : State) : s.Rests c (regrant z s) := (regrant_spares z c s).rests

theorem Move.rests (h : Move s t) (c : Chan) : s.Rests c t := by
  cases h with
  | aside _ _ h _ =>
    have hchan : t.chan = s.chan := by rw [h]; rfl
    have hev : t.evals = s.evals := by rw [h]
    exact ⟨fun _ _ => by rw [hchan], fun _ _ hv => by rw [hev]; exact hv⟩
  | settled | returned => exact removeHolds_rests ..
  | soon => exact setHighSoon_rests ..
  | gain => exact setUnmetered_rests ..
  | unauthorise => exact setAuth_rests ..
  | close => exact closeChannel_rests ..
  | regrant => exact regrant_rests ..
  | rotate => exact (rotate_writes ..).spares.rests

theorem Moves.rests (h : Moves s t) (c : Chan) : s.Rests c t :=
  h.keeps (I := fun w => s.Rests c w) (fun _ _ hm hw => hw.trans (hm.rests c)) (.refl c s)

/-! PROOF. LINEUP (R15), the start of a channel (R78, R79) and the LINEUP_DROPPED hold (R86). -/


variable {P : List Part} {s t v w : State} {u : TankNo} {c d : Chan} {i n : EntryId} {k : EvalKind} {e f : Entry}

/-! ### An activation (R9) -/

/-- The valve items of a channel at rest. -/
structure State.AtRest (s : State) (c : Chan) : Prop where
  idle : (s.chan c).state = .idle
  grant : (s.chan c).grant = 0
  closed : (s.chan c).provenClosed = true
  evals : c ∉ s.evals

theorem State.AtRest.unwatched (h : s.AtRest c) : (s.chan c).watched = false := by unfold Channel.watched; rw [h.idle]

theorem State.Rests.atRest (h : s.Rests c t) (hs : s.AtRest c) : t.AtRest c := by
  have hl := h.lasting hs.unwatched hs.grant
  have hstate : (t.chan c).lasting.state = (s.chan c).lasting.state := congrArg Channel.state hl
  have hgrant : (t.chan c).lasting.grant = (s.chan c).lasting.grant := congrArg Channel.grant hl
  have hclosed : (t.chan c).lasting.provenClosed = (s.chan c).lasting.provenClosed := congrArg Channel.provenClosed hl
  exact ⟨hstate.trans hs.idle, hgrant.trans hs.grant, hclosed.trans hs.closed, h.evals hs.unwatched hs.grant hs.evals⟩

/-- A live entry rewritten in its slot, live still and its channel's, stays the channel's current one (R3). -/
theorem current_modEntry {g : Entry → Entry} (hc : s.current c = some (n, e)) (hg : (g e).chan = e.chan)
    (hl : (g e).state.terminal = false) : (s.modEntry n g).current c = some (n, g e) := by
  obtain ⟨hid, he⟩ := current_eq_some_iff.mp hc
  have hlive := (current_live hc).2.2
  rw [State.modEntry, he, Option.map_some, current_eq_some_iff]
  refine ⟨?_, by rw [entry_setEntry, if_pos rfl]⟩
  rw [(s.replaces_setEntry n (g e)).currentId he hg (by rw [hl, hlive]), hid]

/-- The end judged for a channel at rest: none pending, or applied (R10). -/
theorem settleEnd_atRest (hr : s.AtRest c) (hc : s.current c = some (n, e)) (hq : e.state ≠ .queued) :
    ∃ f, (settleEnd c s).entry n = some f ∧ f.course = e.course
      ∧ ((f = e ∧ e.endPending = none) ∨ (f.state.terminal = true ∧ f.endReason.isSome = true)) := by
  have he := (current_eq_some_iff.mp hc).2
  have hstroke : (s.chan c).stroking = false := by unfold Channel.stroking; rw [hr.idle]
  unfold settleEnd
  simp only [hc, hr.closed, hstroke]
  cases hp : e.endPending with
  | none => exact ⟨e, by simpa using he, rfl, .inl ⟨rfl, rfl⟩⟩
  | some r => exact ⟨e.finish r s.now, by simpa using entry_applyEnd_self he hp, course_finish r s.now hq, .inr ⟨terminal_finish .., rfl⟩⟩

/-- An activation at a channel at rest leaves its entry ACTIVE with no end, or ended for good (R9, R10, R79 step 1). -/
theorem activate_outcome (hr : s.AtRest c) (hc : s.current c = some (n, e)) (he : e.endPending = none) :
    (activate c n s).AtRest c ∧ ∃ f, (activate c n s).entry n = some f ∧ f.course = (e.activated s).course
      ∧ ((f.state = .active ∧ f.endPending = none) ∨ (f.state.terminal = true ∧ f.endReason.isSome = true)) := by
  have hc1 : (s.modEntry n fun e => e.activated s).current c = some (n, e.activated s) := current_modEntry hc rfl rfl
  have hactive : (s.modEntry n fun e => e.activated s).activeEntry c = some (n, e.activated s) := activeEntry_eq_some_iff.mpr ⟨hc1, rfl⟩
  have hrest : (s.modEntry n fun e => e.activated s).AtRest c := ((modEntry_moves ..).rests c).atRest hr
  refine ⟨((evaluate_moves ..).rests c).atRest hrest, ?_⟩
  obtain ⟨g, hg, hgf, hga⟩ := judgeMargin_current hactive .activation
  have hjudged := ((judgeMargin_moves .activation c n (e.activated s) _).rests c).atRest hrest
  rw [activate, evaluate_eq hactive, settleSet, if_neg (by rw [show (e.activated s).endPending = none from he]; decide)]
  obtain ⟨f, hf, hfc, hor⟩ := settleEnd_atRest hjudged hg (by rw [hga]; decide)
  have hcourse : g.course = (e.activated s).course := by
    have h : g.fixed.course = (e.activated s).fixed.course := congrArg Entry.course hgf
    exact h
  refine ⟨f, hf, hfc.trans hcourse, hor.imp_left ?_⟩
  rintro ⟨rfl, hp⟩
  exact ⟨hga, hp⟩

/-! ### A start taken (R79) -/

/-- A channel whose valve has been commanded open for a start (R79 step 3). -/
structure State.Opened (s : State) (c : Chan) (x : Nat) : Prop where
  state : (s.chan c).state = .opening
  command : (s.chan c).command = .toOpen
  hose : (s.chan c).hose = .hoseFull
  timer : (s.chan c).strokeTimer = some x
  grant : (s.chan c).grant = 0
  evals : c ∉ s.evals

theorem openValve_opened (hg : (s.chan c).grant = 0) (hv : c ∉ s.evals) :
    (openValve c s).Opened c (s.expiry (strokeTimeout (s.chanConfig c).strokeTime)) := by
  have hev (f : Channel → Channel) : (updateChan c f s).evals = s.evals := by rw [updateChan_made]; rfl
  have hnote (b : Bool) (t : State) : (if b then noteChan .hose c t else t).chan = t.chan
      ∧ (if b then noteChan .hose c t else t).evals = t.evals := by
    cases b
    · exact ⟨rfl, rfl⟩
    · exact ⟨(noteChan_writes ..).chan_eq, (noteChan_writes ..).evals_eq⟩
  unfold openValve
  constructor <;> simp only [(hnote _ _).1, (hnote _ _).2, chan_updateChan, if_true, hev, hg, hv, not_false_eq_true]

theorem entry_openValve (c : Chan) (s : State) : (openValve c s).entry = s.entry := by
  have hupdate (f : Channel → Channel) : (updateChan c f s).entry = s.entry := by rw [updateChan_made]; rfl
  unfold openValve
  simp only
  split
  · rw [(noteChan_writes ..).entry_eq, hupdate]
  · exact hupdate _

theorem State.Opened.of_chan {x : Nat} (h : s.Opened c x) (hs : (t.chan c).state = (s.chan c).state) (hc : (t.chan c).command = (s.chan c).command)
    (hh : (t.chan c).hose = (s.chan c).hose) (hm : (t.chan c).strokeTimer = (s.chan c).strokeTimer) (hg : (t.chan c).grant = (s.chan c).grant)
    (hv : c ∉ t.evals) : t.Opened c x :=
  ⟨hs.trans h.state, hc.trans h.command, hh.trans h.hose, hm.trans h.timer, hg.trans h.grant, hv⟩

theorem State.Opened.asks {x : Nat} (h : s.Opened c x) : (s.chan c).asks = false := by unfold Channel.asks; rw [h.state]

theorem State.Opened.flowsByGrant {x : Nat} (h : s.Opened c x) : (s.chan c).FlowsByGrant :=
  Channel.flowsByGrant_of_resting (by rw [h.state]; exact ⟨by decide, by decide⟩) h.grant

/-- The regrant of a hold put on an OPENING channel leaves it OPENING (R76, R93). -/
theorem addHold_opened {x : Nat} {r : HoldReason} (h : s.Opened c x) : (addHold c r s).Opened c x := by
  unfold addHold
  split
  · exact h
  have hadd : (addHolds c [r] s).Opened c x := by
    have hholds (b : HoldSet) : ({ s.chan c with holds := b } : Channel).state = (s.chan c).state := rfl
    have hw : (s.chan c).holdWith [r] = { s.chan c with holds := (s.chan c).holds.plus [r] } := by
      rw [Channel.holdWith_eq, if_neg (show ¬ (s.chan c).state = .flowing by rw [h.state]; decide)]
      split
      case isTrue he => rw [← he]
      case isFalse => rfl
    have hc : (addHolds c [r] s).chan c = { s.chan c with holds := (s.chan c).holds.plus [r] } := by rw [chan_addHolds, if_pos rfl, hw]
    exact h.of_chan (by rw [hc]) (by rw [hc]) (by rw [hc]) (by rw [hc]) (by rw [hc]) (by rw [(addHolds_writes ..).evals_eq]; exact h.evals)
  have hspare := regrant_spares (decide (0 < (s.chan c).grant)) c (addHolds c [r] s)
  have hc := hspare.chan hadd.asks hadd.flowsByGrant
  exact hadd.of_chan (by rw [hc]) (by rw [hc]) (by rw [hc]) (by rw [hc]) (by rw [hc]) (hspare.evals hadd.asks hadd.flowsByGrant hadd.evals)

theorem State.Opened.modChan {x : Nat} {g : Channel → Channel} (h : s.Opened c x) (hs : (g (s.chan c)).state = (s.chan c).state)
    (hc : (g (s.chan c)).command = (s.chan c).command) (hh : (g (s.chan c)).hose = (s.chan c).hose)
    (hm : (g (s.chan c)).strokeTimer = (s.chan c).strokeTimer) (hg : (g (s.chan c)).grant = (s.chan c).grant) :
    (s.modChan c g).Opened c x := by
  have hchan : (s.modChan c g).chan c = g (s.chan c) := by rw [chan_modChan, if_pos rfl]
  exact h.of_chan (by rw [hchan, hs]) (by rw [hchan, hc]) (by rw [hchan, hh]) (by rw [hchan, hm]) (by rw [hchan, hg]) h.evals

theorem beginWatches_opened {x : Nat} (h : s.Opened c x) : (beginSourceWatch c (beginPressureWatch c s)).Opened c x := by
  have hpressure : (beginPressureWatch c s).Opened c x := by
    unfold beginPressureWatch
    split
    · exact h.modChan rfl rfl rfl rfl rfl
    · exact h
  unfold beginSourceWatch sourceLowHold
  split
  · exact addHold_opened (hpressure.modChan rfl rfl rfl rfl rfl)
  · exact hpressure

/-- A start taken at a channel at rest: the valve opens for the entry, or the activation has ended it (R79). -/
theorem takeStart_outcome (hr : s.AtRest c) (hc : s.current c = some (n, e)) (he : e.endPending = none) :
    ∃ f, (takeStart c n s).entry n = some f ∧ f.course = (e.activated s).course
      ∧ ((f.state = .active ∧ f.endPending = none
          ∧ (takeStart c n s).Opened c (s.expiry (strokeTimeout (s.chanConfig c).strokeTime)))
        ∨ (f.state.terminal = true ∧ f.endReason.isSome = true ∧ (takeStart c n s).AtRest c)) := by
  obtain ⟨hrest, f, hf, hcourse, hor⟩ := activate_outcome hr hc he
  have hw : Writes (applyParts ++ judgeParts) (s.modEntry n fun e => e.activated s) (activate c n s) := evaluate_innerWrites ..
  unfold takeStart
  simp only [hf]
  rcases hor with ⟨ha, hp⟩ | ⟨ht, hreason⟩
  · rw [if_pos ha]
    have hnote := noteEntry_writes .state n (activate c n s)
    have hopened := openValve_opened (c := c) (s := noteEntry .state n (activate c n s)) (by rw [hnote.chan_eq]; exact hrest.grant)
      (by rw [hnote.evals_eq]; exact hrest.evals)
    have hwatch := beginWatches_opened hopened
    have htime : (noteEntry .state n (activate c n s)).expiry (strokeTimeout ((noteEntry .state n (activate c n s)).chanConfig c).strokeTime)
        = s.expiry (strokeTimeout (s.chanConfig c).strokeTime) := by
      rw [hnote.chanConfig_eq, hw.chanConfig_eq]
      unfold State.expiry
      rw [hnote.now_eq, hw.now_eq]
      rfl
    rw [htime] at hwatch
    refine ⟨f, ?_, hcourse, .inl ⟨ha, hp, hwatch⟩⟩
    rw [(beginWatches_writes ..).entry_eq, entry_openValve, hnote.entry_eq]
    exact hf
  · rw [if_neg (by rintro hs; rw [hs] at ht; cases ht)]
    exact ⟨f, hf, hcourse, .inr ⟨ht, hreason, hrest⟩⟩


/-! ### A reason put on a channel (R76) -/

theorem Channel.holdWith_fresh {x : Channel} {r : HoldReason} (hr : x.holds.has r = false) :
    x.holdWith [r] = if x.state = .flowing then x.heldBy r else { x with holds := x.holds.put r true } := by
  split
  case isTrue hf => exact Channel.holdWith_flowing hf hr
  case isFalse hf =>
    rw [Channel.holdWith_eq, if_neg hf]
    split
    case isTrue he => exact congrArg (fun h : HoldSet => { x with holds := h }) he
    case isFalse => rfl

theorem Channel.has_holdWith {x : Channel} {r : HoldReason} (hr : x.holds.has r = false) : (x.holdWith [r]).holds.has r = true := by
  rw [Channel.holdWith_fresh hr]
  split
  · exact HoldSet.has_put_same ..
  · exact HoldSet.has_put_same ..

/-- A channel held by a reason that is not NO_GRANT does not ask (R109). -/
theorem Channel.asks_of_holds {x : Channel} {r : HoldReason} (hf : x.state ≠ .flowing) (hr : x.holds.has r = true) (hn : r ≠ .noGrant) :
    x.asks = false := by
  cases hs : x.state with
  | flowing => exact absurd hs hf
  | held => exact Channel.asks_eq_false_of_held hs hr hn
  | masked | idle | opening | closing | fault => simp [Channel.asks, hs]

/-- A reason put on a channel stands through the regrant that follows, and brings no evaluation of it (R76, R111). -/
theorem addHold_stands {r : HoldReason} (hf : (s.chan c).FlowsByGrant) (hr : (s.chan c).holds.has r = false) (hn : r ≠ .noGrant) :
    (addHold c r s).chan c = (s.chan c).holdWith [r] ∧ (c ∉ s.evals → c ∉ (addHold c r s).evals)
      ∧ ((addHold c r s).chan c).asks = false ∧ ((addHold c r s).chan c).FlowsByGrant := by
  have hadd : (addHolds c [r] s).chan c = (s.chan c).holdWith [r] := by rw [chan_addHolds, if_pos rfl]
  have hflows := (Channel.step_holdWith (s.chan c) [r]).flows hf
  have hasks : ((s.chan c).holdWith [r]).asks = false := by
    refine Channel.asks_of_holds ?_ (Channel.has_holdWith hr) hn
    rw [Channel.holdWith_fresh hr]
    split
    · exact fun h => nomatch h
    case isFalse h => exact h
  have hspare := regrant_spares (decide (0 < (s.chan c).grant)) c (addHolds c [r] s)
  rw [← hadd] at hasks hflows
  have hchan := hspare.chan hasks hflows
  rw [addHold, if_neg (by rw [hr]; decide), hchan, hadd]
  rw [hadd] at hasks hflows
  refine ⟨rfl, fun hv => hspare.evals (by rw [hadd]; exact hasks) (by rw [hadd]; exact hflows) ?_, hasks, hflows⟩
  rw [(addHolds_writes c [r] s).evals_eq]; exact hv

/-! ### LINEUP (R15) -/

/-- The lineup stored and told (R15). -/
def lineupStored (n : EntryId) (e : Entry) (x : Lineup) (s : State) : State :=
  if e.lineup = x then s.modEntry n fun e => { e with lineup := x } else noteEntry .lineup n (s.modEntry n fun e => { e with lineup := x })

theorem lineupStored_writes (n : EntryId) (e : Entry) (x : Lineup) (s : State) :
    Writes [.notices] (s.modEntry n fun e => { e with lineup := x }) (lineupStored n e x s) :=
  .ite (.refl _) (noteEntry_writes ..)

theorem entry_lineupStored {x : Lineup} (he : s.entry n = some e) : (lineupStored n e x s).entry n = some { e with lineup := x } := by
  rw [(lineupStored_writes ..).entry_eq, entry_modEntry, if_pos rfl, he]; rfl

theorem doLineup_current {x : Lineup} (he : s.entry n = some e) (hc : s.currentId e.chan = some n) :
    doLineup n x s = (lineupEffect e x (lineupStored n e x s), .done .nothing) := by
  have hcur : s.isCurrent n e = true := by rw [State.isCurrent, hc]; simp
  simp only [doLineup, entryOf_val, he, hcur, if_true]
  rfl

theorem current_lineupStored {x : Lineup} (hc : s.current c = some (n, e)) :
    (lineupStored n e x s).current c = some (n, { e with lineup := x }) := by
  have hset : (s.modEntry n fun e => { e with lineup := x }).current c = some (n, { e with lineup := x }) :=
    current_modEntry hc rfl (current_live hc).2.2
  rw [← hset, current_congr (lineupStored_writes ..).entry_eq]

/-- The plan with entry `n`, which is `e`, showing the lineup `x`. -/
def State.linedUp (s : State) (n : EntryId) (e : Entry) (x : Lineup) : State :=
  { s with plan := { s.plan with slots := s.plan.slots.set n (some { e with lineup := x }) } }

theorem lineupStored_told {x : Lineup} (he : s.entry n = some e) (hl : e.lineup ≠ x) :
    lineupStored n e x s = raise (.entry .lineup ({ e with lineup := x }.view n) s.now) (s.linedUp n e x) := by
  have hmod : (s.modEntry n fun e => { e with lineup := x }) = s.linedUp n e x := by rw [State.modEntry, he]; rfl
  have hentry : (s.linedUp n e x).entry n = some { e with lineup := x } := by rw [← hmod, entry_modEntry, if_pos rfl, he]; rfl
  rw [lineupStored, if_neg hl, hmod, noteEntry_of hentry]
  rfl

theorem handle_lineup {p : Side} {m : Nat} {x : Lineup} : handle p (.lineup m x) s = doLineup m x s := rfl

theorem lineupEffect_await {x : Lineup} (ha : e.state = .await) : lineupEffect e x s = judgeStart e.chan s := by
  unfold lineupEffect; rw [ha]

/-- NOT_READY stored of an AWAIT entry starts nothing (R15, R78). -/
theorem lineup_notReady (body : List Byte) (hs : s.Hears .ship) (he : s.entry n = some e) (hc : s.currentId e.chan = some n)
    (ha : e.state = .await) (hd : decodeRequest .lineup body = some (.lineup n .notReady)) (hl : e.lineup = .ready) :
    Does (.lineup .ship body) .ship .lineup body (.done .nothing) [.entry .lineup ({ e with lineup := .notReady }.view n) s.now] s
      { s with plan := { s.plan with slots := s.plan.slots.set n (some { e with lineup := .notReady }) } } := by
  refine does_of_handle (k := .lineup) hs rfl hd hs.1.2 fun a b => ?_
  have hcur : (s.withPorts a b).current e.chan = some (n, e) := current_eq_some_iff.mpr ⟨hc, he⟩
  have hcannot : (lineupStored n e .notReady (s.withPorts a b)).canStart e.chan = false := by
    unfold State.canStart
    simp [current_lineupStored (x := .notReady) hcur]
  rw [handle_lineup, doLineup_current (s := s.withPorts a b) he hc, lineupEffect_await ha, judgeStart_of_cannot hcannot,
    lineupStored_told (s := s.withPorts a b) he (by rw [hl]; decide)]
  rfl

/-- What R9 and R79 record of the start in the entry. -/
theorem started_of_course {w : State} (h : f.course = ({ e with lineup := .ready }.activated w).course) (hq : f.state ≠ .queued) :
    f.lineup = .ready ∧ f.delivered = e.delivered
      ∧ f.baseline = e.baseline.or (some { total := (w.chan e.chan).meter.total, kFactor := (w.chanConfig e.chan).kFactor })
      ∧ f.started = e.started.or (some w.now) ∧ f.meterBaseline = some (w.chan e.chan).meter.total
      ∧ f.startVolume = (w.tank e.tank).nowVolume ∧ f.strikes = 0
      ∧ f.startQuality = some (startQualityOf (w.tank e.tank).levelState)
      ∧ f.credit = (if (w.chan e.chan).hose = .drained then (w.chanConfig e.chan).hoseDrain else 0) := by
  have hfield {α : Type} (π : Entry → α) : π f.course = π ({ e with lineup := .ready }.activated w).course := congrArg π h
  have hlineup := hfield Entry.lineup
  refine ⟨?_, hfield Entry.delivered, hfield Entry.baseline, hfield Entry.started, hfield Entry.meterBaseline, hfield Entry.startVolume,
    hfield Entry.strikes, hfield Entry.startQuality, hfield Entry.credit⟩
  unfold Entry.course at hlineup
  rw [if_neg hq] at hlineup
  exact hlineup

/-- READY at a channel that may start starts it (R15, R78, R79). -/
theorem lineup_starts (body : List Byte) (hs : s.Hears .ship) (he : s.entry n = some e) (hc : s.currentId e.chan = some n)
    (ha : e.state = .await) (hd : decodeRequest .lineup body = some (.lineup n .ready)) (hg : s.GrantsOk) (hi : (s.chan e.chan).state = .idle)
    (hp : (s.chan e.chan).provenClosed = true) (hauth : (s.chan e.chan).authorised = true) (hend : e.endPending = none)
    (hlevel : (s.tank e.tank).levelState.settled = true) (hn : s.trip.state = .normal) :
    ∃ (t : State) (f : Entry), exec (.lineup .ship body) s = .next t.startSending ∧ t.entry n = some f
      ∧ Answered .ship (bodyTag body) RequestKind.lineup.code (.done .nothing) s t
      ∧ f.course = ({ e with lineup := .ready }.activated s).course
      ∧ ((f.state = .active ∧ f.endPending = none ∧ (t.chan e.chan).state = .opening ∧ (t.chan e.chan).command = .toOpen
            ∧ (t.chan e.chan).hose = .hoseFull
            ∧ (t.chan e.chan).strokeTimer = some (s.expiry (strokeTimeout (s.chanConfig e.chan).strokeTime)))
        ∨ (f.state.terminal = true ∧ f.endReason.isSome = true ∧ (t.chan e.chan).state = .idle)) := by
  have heq := refreshLink_eq_withPorts .ship s
  generalize hv : refreshLink .ship s = v at heq
  have hcur : v.current e.chan = some (n, e) := by rw [heq]; exact current_eq_some_iff.mpr ⟨hc, he⟩
  have hve : v.entry n = some e := (current_eq_some_iff.mp hcur).2
  have hcur' : (lineupStored n e .ready v).current e.chan = some (n, { e with lineup := .ready }) := current_lineupStored hcur
  have hw := lineupStored_writes n e .ready v
  have hchan : (lineupStored n e .ready v).chan = s.chan := by rw [hw.chan_eq, heq]; rfl
  have htank : (lineupStored n e .ready v).tank = s.tank := by rw [hw.tank_eq, heq]; rfl
  have hconf : (lineupStored n e .ready v).chanConfig = s.chanConfig := by rw [hw.chanConfig_eq, heq]; rfl
  have hnow : (lineupStored n e .ready v).now = s.now := by rw [hw.now_eq, heq]; rfl
  have hev : (lineupStored n e .ready v).evals = [] := by rw [hw.evals_eq, heq]; exact hs.1.2
  have hrest : (lineupStored n e .ready v).AtRest e.chan := by
    refine ⟨by rw [hchan]; exact hi, ?_, by rw [hchan]; exact hp, ?_⟩
    · rw [hchan]; exact Channel.grant_of_not_asks (by unfold Channel.asks; rw [hi]) (hg.2.2 e.chan)
    · rw [hev]; exact List.not_mem_nil
  have hcan : (lineupStored n e .ready v).canStart e.chan = true := by
    have htrip : (lineupStored n e .ready v).trip.state = .normal := by rw [hw.trip_eq, heq]; exact hn
    unfold State.canStart
    simp [hcur', hchan, htank, htrip, hi, hauth, ha, hend, hlevel]
  have hdo : handle .ship (.lineup n .ready) v = (takeStart e.chan n (lineupStored n e .ready v), .done .nothing) := by
    rw [handle_lineup, doLineup_current hve (by rw [heq]; exact hc), lineupEffect_await ha, judgeStart_of_can hcan hcur']
  obtain ⟨f, hf, hcourse, hor⟩ := takeStart_outcome hrest hcur' hend
  have hact : ({ e with lineup := .ready } : Entry).activated (lineupStored n e .ready v) = ({ e with lineup := .ready } : Entry).activated s := by
    unfold Entry.activated
    rw [hchan, htank, hconf, hnow]
  rw [hact] at hcourse
  have hfc : f.course.chan = ({ e with lineup := .ready }.activated s).course.chan := congrArg Entry.chan hcourse
  have hexp : (lineupStored n e .ready v).expiry (strokeTimeout ((lineupStored n e .ready v).chanConfig e.chan).strokeTime)
      = s.expiry (strokeTimeout (s.chanConfig e.chan).strokeTime) := by
    rw [hconf]; unfold State.expiry; rw [hnow]
  rw [hexp] at hor
  have hquiet : ((takeStart e.chan n (lineupStored n e .ready v)).chan e.chan).asks = false
      ∧ ((takeStart e.chan n (lineupStored n e .ready v)).chan e.chan).FlowsByGrant
      ∧ e.chan ∉ (takeStart e.chan n (lineupStored n e .ready v)).evals := by
    rcases hor with ⟨-, -, ho⟩ | ⟨-, -, ho⟩
    · exact ⟨ho.asks, ho.flowsByGrant, ho.evals⟩
    · exact ⟨Channel.asks_of_unwatched ho.unwatched, Channel.flowsByGrant_of_unwatched ho.unwatched ho.grant, ho.evals⟩
  obtain ⟨t, hexec, hans, htc, hto, -⟩ := request_spared (c := e.chan) (k := .lineup) hs rfl hd (by rw [hv]; exact hdo) hquiet.1 hquiet.2.1 hquiet.2.2
  refine ⟨t, f, hexec, entry_of_own hto hf hfc, hans, hcourse, hor.imp ?_ ?_⟩
  · rintro ⟨h1, h2, ho⟩
    rw [htc]
    exact ⟨h1, h2, ho.state, ho.command, ho.hose, ho.timer⟩
  · rintro ⟨h1, h2, ho⟩
    exact ⟨h1, h2, by rw [htc]; exact ho.idle⟩


theorem lineupEffect_demand {x : Lineup} (ha : e.state = .active) (hm : e.mode = .demand) :
    lineupEffect e x s = match x with
      | .notReady => addHold e.chan .lineupDropped s
      | .ready => removeHold e.chan .lineupDropped s := by
  unfold lineupEffect
  rw [ha, hm]
  cases x <;> rfl

/-- NOT_READY of an ACTIVE entry in DEMAND holds its channel (R76, R86). -/
theorem lineup_drops (body : List Byte) (hs : s.Hears .ship) (hg : s.GrantsOk) (he : s.activeEntry c = some (n, e)) (hm : e.mode = .demand)
    (hd : decodeRequest .lineup body = some (.lineup n .notReady)) (hno : (s.chan c).holds.lineupDropped = false) :
    ∃ t : State, exec (.lineup .ship body) s = .next t.startSending
      ∧ Answered .ship (bodyTag body) RequestKind.lineup.code (.done .nothing) s t
      ∧ t.entry n = some { e with lineup := .notReady } ∧ t.chan c = (s.chan c).holdWith [.lineupDropped] := by
  obtain ⟨hcur, ha⟩ := activeEntry_eq_some_iff.mp he
  obtain ⟨hid, hentry⟩ := current_eq_some_iff.mp hcur
  obtain ⟨-, rfl, -⟩ := current_live hcur
  have heq := refreshLink_eq_withPorts .ship s
  generalize hv : refreshLink .ship s = v at heq
  have hve : v.entry n = some e := by rw [heq]; exact hentry
  have hw := lineupStored_writes n e .notReady v
  have hchan : (lineupStored n e .notReady v).chan = s.chan := by rw [hw.chan_eq, heq]; rfl
  have hev : (lineupStored n e .notReady v).evals = [] := by rw [hw.evals_eq, heq]; exact hs.1.2
  have hdo : handle .ship (.lineup n .notReady) v = (addHold e.chan .lineupDropped (lineupStored n e .notReady v), .done .nothing) := by
    rw [handle_lineup, doLineup_current hve (by rw [heq]; exact hid), lineupEffect_demand ha hm]
  obtain ⟨hheld, hevals, hasks, hflows⟩ := addHold_stands (s := lineupStored n e .notReady v) (c := e.chan) (r := .lineupDropped)
    (by rw [hchan]; exact hg.2.2 e.chan) (by rw [hchan]; exact hno) (by decide)
  obtain ⟨t, hexec, hans, htc, hto, -⟩ := request_spared (c := e.chan) (k := .lineup) hs rfl hd (by rw [hv]; exact hdo) hasks hflows
    (hevals (by rw [hev]; exact List.not_mem_nil))
  refine ⟨t, hexec, hans, entry_of_own hto ?_ rfl, by rw [htc, hheld, hchan]⟩
  rw [(addHold_writes ..).entry_eq, entry_lineupStored hve]

/-- READY of one takes the reason away (R76, R86); outside SERVING nothing more follows. -/
theorem lineup_resumes (body : List Byte) (hs : s.Hears .ship) (hg : s.GrantsOk) (he : s.activeEntry c = some (n, e)) (hm : e.mode = .demand)
    (hd : decodeRequest .lineup body = some (.lineup n .ready)) (hl : e.lineup = .notReady) (hst : s.header.state ≠ .serving)
    (hyes : (s.chan c).holds.lineupDropped = true) :
    Does (.lineup .ship body) .ship .lineup body (.done .nothing)
      [.entry .lineup ({ e with lineup := .ready }.view n) s.now,
        .channel .holds ((((s.linedUp n e .ready).modChan c fun k => { k with holds := (s.chan c).holdsWithout [.lineupDropped] })).channelView c)
          none s.now] s
      ((s.linedUp n e .ready).modChan c fun k => { k with holds := (s.chan c).holdsWithout [.lineupDropped] }) := by
  obtain ⟨hcur, ha⟩ := activeEntry_eq_some_iff.mp he
  obtain ⟨hid, hentry⟩ := current_eq_some_iff.mp hcur
  obtain ⟨-, rfl, -⟩ := current_live hcur
  refine does_of_handle (k := .lineup) hs rfl hd hs.1.2 fun a b => ?_
  have hremove := removeHold_quiet (s := raise (.entry .lineup ({ e with lineup := .ready }.view n) s.now)
    ((s.withPorts a b).linedUp n e .ready)) (c := e.chan) (r := .lineupDropped) hst hg (by decide) hyes
  rw [handle_lineup, doLineup_current (s := s.withPorts a b) hentry hid, lineupEffect_demand ha hm,
    lineupStored_told (s := s.withPorts a b) hentry (by rw [hl]; decide)]
  simp only
  rw [show (s.withPorts a b).now = s.now from rfl, hremove]
  rfl

/-- Settles O36: LINEUP by the entry's state and mode, each case by its own lemma. -/
theorem lineupStartsAReadyChannel : Obligations.LineupStartsAReadyChannel := by
  refine ⟨fun body n e s hs he hc ha => ⟨fun hd hl => lineup_notReady body hs he hc ha hd hl, ?_⟩,
    fun body c n e s hs hg he hec hm => ⟨fun hd _ hno => ?_, fun hd hl hst hyes => ?_⟩⟩
  · intro hd hg hi hp hauth hend hlevel hn
    obtain ⟨t, f, hexec, hf, hans, hcourse, hor⟩ := lineup_starts body hs he hc ha hd hg hi hp hauth hend hlevel hn
    have hq : f.state ≠ .queued := by
      rcases hor with ⟨h, -⟩ | ⟨h, -⟩
      · rw [h]; decide
      · rintro h'; rw [h'] at h; cases h
    obtain ⟨h1, h2, h3, h4, h5, h6, h7, h8, h9⟩ := started_of_course hcourse hq
    exact ⟨t, f, hexec, hf, hans, h1, h2, h3, h4, h5, h6, h7, h8, h9, hor⟩
  · obtain ⟨t, hexec, hans, hentry, hchan⟩ := lineup_drops body hs hg he hm hd hno
    have hfresh := Channel.holdWith_fresh (x := s.chan c) (r := .lineupDropped) hno
    have hhas := Channel.has_holdWith (x := s.chan c) (r := .lineupDropped) hno
    refine ⟨t, hexec, hans, hentry, ?_⟩
    rw [hchan]
    refine ⟨hhas, ?_⟩
    rw [hfresh]
    split
    case isTrue hf => exact ⟨fun h => by rw [h, hf]; rfl, rfl, rfl, rfl, rfl⟩
    case isFalse hf =>
      have hgrant : (s.chan c).grant = 0 := Nat.eq_zero_of_not_pos fun h => hf ((hg.2.2 c).1.mp h)
      exact ⟨fun _ => rfl, hgrant, rfl, rfl, rfl⟩
  · refine ⟨_, rfl, ?_⟩
    have hholds : (s.chan c).holdsWithout [.lineupDropped] =
        let h := { (s.chan c).holds with lineupDropped := false }
        if (s.chan c).state = .held ∧ h = HoldSet.empty then { h with noGrant := true } else h := by
      rw [Channel.holdsWithout_eq]
      simp [hg.2.1 hst c, HoldSet.minus, HoldSet.put]
    have hdoes := lineup_resumes body hs hg he hm hd hl hst hyes
    rw [hholds] at hdoes
    exact hdoes

/-! PROOF. The header's inputs: the strainer dp (R105) and the pump (R102, R103). -/


variable {P : List Part} {s t v : State} {c d : Chan} {k : Channel} {rs : List HoldReason} {r : HoldReason}

/-! ### A regrant that finds no channel asking (R108, R109) -/

theorem regrant_of_not_asking (ha : ∀ c, (s.chan c).asks = false) (hf : ∀ c, (s.chan c).FlowsByGrant) (z : Bool) :
    regrant z s = if z then noteHeader .grants s else s := by
  have hn (c : Chan) : s.newGrant c = 0 := newGrant_of_not_asks (ha c)
  have hz (c : Chan) : (s.chan c).grant = 0 := Channel.grant_of_not_asks (ha c) (hf c)
  exact regrant_still z (fun c => by rw [hn, hz]) fun c => by rw [hn]; exact Channel.granted_self (hf c) (hz c) _

/-! ### The passes over the callers (R100) -/

theorem Channel.holds_holdWith (k : Channel) (rs : List HoldReason) : (k.holdWith rs).holds = k.holds.plus rs := by
  rw [Channel.holdWith_eq]
  split
  · assumption
  · split <;> rfl

theorem Channel.calling_holdWith (k : Channel) (rs : List HoldReason) : (k.holdWith rs).calling = k.calling := by
  rw [Channel.holdWith_eq]
  split
  · rfl
  split
  case isTrue hf => simp [Channel.calling, hf]
  case isFalse => rfl

theorem Channel.state_holdWith (k : Channel) (rs : List HoldReason) (hs : k.state = .held) : (k.holdWith rs).state = .held := by
  rw [Channel.holdWith_eq]
  split
  · exact hs
  · rw [if_neg (by rw [hs]; decide)]; exact hs

theorem Channel.grant_holdWith (k : Channel) (rs : List HoldReason) (hg : k.grant = 0) : (k.holdWith rs).grant = 0 := by
  rw [Channel.holdWith_eq]
  split
  · exact hg
  · split
    · rfl
    · exact hg

/-- A caller with reasons put on it (R100). -/
def Channel.callerHeld (rs : List HoldReason) (k : Channel) : Channel := if k.calling then k.holdWith rs else k

/-- A caller with reasons taken off it (R100). -/
def Channel.callerFreed (rs : List HoldReason) (k : Channel) : Channel := if k.calling then { k with holds := k.holdsWithout rs } else k

/-- A channel with its grant taken to 0 (R76, R103, R105). -/
def Channel.zeroed (k : Channel) : Channel :=
  if k.state = .flowing then k.holdWith [.noGrant] else if k.grant = 0 then k else { k with grant := 0 }

theorem chan_holdCallers (rs : List HoldReason) (s : State) (c : Chan) : (holdCallers rs s).chan c = (s.chan c).callerHeld rs := by
  refine foldl_chans_each (π := State.chan) (g := Channel.callerHeld rs) (fun s c d => ?_) s c
  unfold Channel.callerHeld
  split
  · exact chan_addHolds ..
  · split
    case isTrue hd => rw [hd]
    case isFalse => rfl

theorem chan_freeCallers (rs : List HoldReason) (s : State) (c : Chan) : (freeCallers rs s).chan c = (s.chan c).callerFreed rs := by
  refine foldl_chans_each (π := State.chan) (g := Channel.callerFreed rs) (fun s c d => ?_) s c
  unfold Channel.callerFreed
  split
  · exact chan_removeHolds ..
  · split
    case isTrue hd => rw [hd]
    case isFalse => rfl

theorem chan_zeroGrants (s : State) (c : Chan) : (zeroGrants s).chan c = (s.chan c).zeroed := by
  refine foldl_chans_each (π := State.chan) (g := Channel.zeroed) (fun s c d => ?_) s c
  unfold Channel.zeroed
  split
  · exact chan_addHolds ..
  split
  · split
    case isTrue hd => rw [hd]
    case isFalse => rfl
  · exact chan_modChan ..

theorem Channel.calling_zeroed (k : Channel) : k.zeroed.calling = k.calling := by
  unfold Channel.zeroed
  split
  · exact k.calling_holdWith _
  · split <;> rfl

theorem Channel.calling_callerHeld (k : Channel) : (k.callerHeld rs).calling = k.calling := by
  unfold Channel.callerHeld
  split
  · exact k.calling_holdWith _
  · rfl

theorem Channel.calling_callerFreed (k : Channel) : (k.callerFreed rs).calling = k.calling := by
  unfold Channel.callerFreed
  split <;> rfl

/-- A caller whose grant has been taken is HELD without one. -/
theorem Channel.held_zeroed (hf : k.FlowsByGrant) (hc : k.calling = true) : k.zeroed.state = .held ∧ k.zeroed.grant = 0 := by
  unfold Channel.calling at hc
  unfold Channel.zeroed
  cases hs : k.state with
  | flowing =>
    have hh := hf.2.1 hs
    rw [if_pos rfl, Channel.holdWith_flowing hs (by rw [hh]; rfl)]
    exact ⟨rfl, rfl⟩
  | held =>
    rw [if_neg (by decide)]
    split
    · exact ⟨hs, by assumption⟩
    · exact ⟨rfl, rfl⟩
  | masked | idle | opening | closing | fault => simp [hs] at hc

/-- A channel that does not call keeps its record as grants are taken (R110). -/
theorem Channel.zeroed_of_not_calling (hf : k.FlowsByGrant) (hc : k.calling = false) : k.zeroed = k := by
  have hs : k.state ≠ .flowing := fun h => by simp [Channel.calling, h] at hc
  have hg : k.grant = 0 := Nat.eq_zero_of_not_pos fun h => hs (hf.1.mp h)
  rw [Channel.zeroed, if_neg hs, if_pos hg]

/-- A HELD channel without a grant, a reason held that is not NO_GRANT. -/
structure Channel.HeldBy (r : HoldReason) (k : Channel) : Prop where
  state : k.state = .held
  grant : k.grant = 0
  holds : k.holds.has r = true

theorem Channel.HeldBy.asks (h : k.HeldBy r) (hn : r ≠ .noGrant) : k.asks = false := Channel.asks_eq_false_of_held h.state h.holds hn

theorem Channel.HeldBy.flowsByGrant (h : k.HeldBy r) : k.FlowsByGrant := by
  rw [Channel.flowsByGrant_iff]
  exact ⟨fun hs => (by rw [h.state] at hs; cases hs), fun _ => h.grant, fun _ => HoldSet.ne_empty_of_has h.holds⟩

theorem Channel.HeldBy.calling (h : k.HeldBy r) : k.calling = true := by simp [Channel.calling, h.state]

theorem Channel.heldBy_callerHeld (hs : k.state = .held) (hg : k.grant = 0) (hr : r ∈ rs) : (k.callerHeld rs).HeldBy r := by
  rw [Channel.callerHeld, if_pos (by simp [Channel.calling, hs])]
  exact ⟨k.state_holdWith rs hs, k.grant_holdWith rs hg, by rw [k.holds_holdWith, HoldSet.has_plus]; simp [hr]⟩

/-- A reason held stands as others are put on. -/
theorem Channel.HeldBy.callerHeld (h : k.HeldBy r) : (k.callerHeld rs).HeldBy r := by
  rw [Channel.callerHeld, if_pos h.calling]
  exact ⟨k.state_holdWith rs h.state, k.grant_holdWith rs h.grant, by rw [k.holds_holdWith, HoldSet.has_plus, h.holds]; rfl⟩

theorem anyCalling_of (h : ∀ c, (t.chan c).calling = (s.chan c).calling) : t.anyCalling = s.anyCalling := by
  unfold State.anyCalling
  exact congrArg chans.any (funext h)

/-! ### The header's own part (R101 to R105) -/

theorem changeHeader_made (f : Header → Header) (s : State) : changeHeader f s = { s with
    header := f s.header, portB := (changeHeader f s).portB, portS := (changeHeader f s).portS } := by
  unfold changeHeader
  simp only
  split <;> rfl

theorem chan_changeHeader (f : Header → Header) (s : State) : (changeHeader f s).chan = s.chan := by rw [changeHeader_made]; rfl

/-- What passes over the channels and header changes leave. -/
structure State.HeaderOnly (s t : State) : Prop where
  plan : t.plan = s.plan
  trip : t.trip = s.trip
  queue : t.queue = s.queue
  config : t.config = s.config
  now : t.now = s.now
  evals : t.evals = s.evals

theorem State.HeaderOnly.refl (s : State) : s.HeaderOnly s := ⟨rfl, rfl, rfl, rfl, rfl, rfl⟩

theorem State.HeaderOnly.trans (h : s.HeaderOnly t) (g : t.HeaderOnly v) : s.HeaderOnly v :=
  ⟨g.plan.trans h.plan, g.trip.trans h.trip, g.queue.trans h.queue, g.config.trans h.config, g.now.trans h.now, g.evals.trans h.evals⟩

theorem changeHeader_only (f : Header → Header) (s : State) : s.HeaderOnly (changeHeader f s) := by
  rw [changeHeader_made]; exact ⟨rfl, rfl, rfl, rfl, rfl, rfl⟩

theorem Writes.headerOnly (h : Writes P s t) (hP : ∀ p ∈ P, p = .chans ∨ p = .header ∨ p = .notices := by decide) : s.HeaderOnly t := by
  have hi (p : Part) (hp : p ∈ P) : p.item = .channels ∨ p.item = .header ∨ p.item = .ports := by
    rcases hP p hp with rfl | rfl | rfl
    · exact .inl rfl
    · exact .inr (.inl rfl)
    · exact .inr (.inr rfl)
  have hne (x : Item) (hx : x ≠ .channels ∧ x ≠ .header ∧ x ≠ .ports := by decide) (p : Part) (hp : p ∈ P) : p.item ≠ x ∧ p.item ≠ .many := by
    rcases hi p hp with h | h | h <;> rw [h]
    · exact ⟨hx.1.symm, by decide⟩
    · exact ⟨hx.2.1.symm, by decide⟩
    · exact ⟨hx.2.2.symm, by decide⟩
  exact ⟨h.plan_eq (hne .plan), h.trip_eq (hne .trip), h.queue_eq (hne .queue), h.config_eq (hne .config), h.now_eq (hne .now),
    h.evals_eq (hne .evals)⟩


/-! ### A pass that leaves every caller HELD (R100, R103, R105) -/

/-- Every caller of `s` is HELD in `t` by reason `r` without a grant, and no other channel is touched. -/
def State.HoldsCallers (s : State) (r : HoldReason) (t : State) : Prop :=
  ∀ c, ((s.chan c).calling = true → (t.chan c).HeldBy r) ∧ ((s.chan c).calling = false → t.chan c = s.chan c)

theorem State.HoldsCallers.calling (h : s.HoldsCallers r t) (c : Chan) : (t.chan c).calling = (s.chan c).calling := by
  cases hc : (s.chan c).calling with
  | true => exact ((h c).1 hc).calling
  | false => rw [(h c).2 hc, hc]

theorem State.HoldsCallers.asks (h : s.HoldsCallers r t) (hn : r ≠ .noGrant) (c : Chan) : (t.chan c).asks = false := by
  cases hc : (s.chan c).calling with
  | true => exact ((h c).1 hc).asks hn
  | false =>
    rw [(h c).2 hc]
    unfold Channel.calling at hc
    unfold Channel.asks
    cases hs : (s.chan c).state <;> simp [hs] at hc ⊢

theorem State.HoldsCallers.flowsByGrant (h : s.HoldsCallers r t) (hg : s.GrantsOk) (c : Chan) : (t.chan c).FlowsByGrant := by
  cases hc : (s.chan c).calling with
  | true => exact ((h c).1 hc).flowsByGrant
  | false => rw [(h c).2 hc]; exact hg.2.2 c

/-- The regrant that follows such a pass tells at most N-HEADER GRANTS (R108, R111). -/
theorem State.HoldsCallers.regrant (h : s.HoldsCallers r t) (hg : s.GrantsOk) (hn : r ≠ .noGrant) (z : Bool) :
    regrant z t = if z then noteHeader .grants t else t :=
  regrant_of_not_asking (h.asks hn) (h.flowsByGrant hg) z

theorem State.HoldsCallers.grant (h : s.HoldsCallers r t) (hg : s.GrantsOk) (c : Chan) : (t.chan c).grant = 0 := by
  cases hc : (s.chan c).calling with
  | true => exact ((h c).1 hc).grant
  | false =>
    rw [(h c).2 hc]
    refine Nat.eq_zero_of_not_pos fun hp => ?_
    rw [Channel.calling, (hg.2.2 c).1.mp hp] at hc; cases hc

/-- What a regrant without askers tells changes no item but the ports. -/
theorem State.HoldsCallers.regranted (h : s.HoldsCallers r t) (hg : s.GrantsOk) (hn : r ≠ .noGrant) (z : Bool) :
    Writes [.notices] t (Machine.regrant z t) := by
  rw [h.regrant hg hn z]
  exact .ite (noteHeader_writes ..) (.refl t)

theorem State.HoldsCallers.told (h : s.HoldsCallers r t) (hw : Writes [.notices] t v) : s.HoldsCallers r v := by
  intro c
  rw [hw.chan_eq]; exact h c

/-- A command whose effect is such a pass and its regrant. -/
theorem exec_holdsCallers {i : Instr} {w : State} (hs : s.Ready) (hi : ofSupply i = false) (hg : s.GrantsOk) (hn : r ≠ .noGrant) {z : Bool}
    (ht : commandEffect i s = regrant z t) (h : s.HoldsCallers r t) (ho : w.HeaderOnly t) (hw : w.HeaderOnly s) :
    ∃ v, exec i s = .next v.startSending ∧ v.header = t.header ∧ s.HoldsCallers r v ∧ v.chan = t.chan ∧ v.plan = s.plan ∧ v.trip = s.trip
      ∧ v.queue = s.queue := by
  have hwrites := h.regranted hg hn z
  have hev : t.evals = [] := ho.evals.trans (hw.evals.symm.trans hs.2)
  refine ⟨regrant z t, exec_quiet hs.1 hi ht (hwrites.evals_eq.trans hev), hwrites.header_eq, h.told hwrites, hwrites.chan_eq, ?_, ?_, ?_⟩
  · rw [hwrites.plan_eq, ho.plan, hw.plan]
  · rw [hwrites.trip_eq, ho.trip, hw.trip]
  · rw [hwrites.queue_eq, ho.queue, hw.queue]

/-! ### The dp asserts (R105) -/

/-- The part as a suspension leaves it before its regrant. -/
def suspended (h : HeaderState) (s : State) : State :=
  holdCallers [.headerWait] (changeHeader (fun x =>
    { x with state := .waiting, returnState := some h, primeTimer := none, waitTimer := some (s.expiry s.config.header.waitLimit) }) (zeroGrants s))

theorem suspend_eq (h : HeaderState) (s : State) : suspend h s = regrant s.anyGrant (suspended h s) := rfl

theorem suspended_only (h : HeaderState) (s : State) : s.HeaderOnly (suspended h s) :=
  ((zeroGrants_writes s).headerOnly.trans (changeHeader_only _ _)).trans (holdCallers_writes ..).headerOnly

theorem header_suspended (h : HeaderState) (s : State) : (suspended h s).header = { s.header with
    state := .waiting, returnState := some h, primeTimer := none, waitTimer := some (s.expiry s.config.header.waitLimit) } := by
  rw [suspended, (holdCallers_writes ..).header_eq, changeHeader_header, (zeroGrants_writes s).header_eq]

theorem suspended_holds (hg : s.GrantsOk) (h : HeaderState) : s.HoldsCallers .headerWait (suspended h s) := by
  intro c
  have hchan : (suspended h s).chan c = (s.chan c).zeroed.callerHeld [.headerWait] := by
    rw [suspended, chan_holdCallers, chan_changeHeader, chan_zeroGrants]
  rw [hchan]
  refine ⟨fun hc => ?_, fun hc => ?_⟩
  · obtain ⟨hs, hz⟩ := Channel.held_zeroed (hg.2.2 c) hc
    exact Channel.heldBy_callerHeld hs hz (by simp)
  · rw [Channel.zeroed_of_not_calling (hg.2.2 c) hc, Channel.callerHeld, if_neg (by rw [hc]; decide)]

/-- The part with its dp recorded (R105). -/
def State.dpSet (s : State) (b : Bool) : State := s.modHeader fun h => { h with dp := b }

theorem dpOn_suspends (hdp : s.header.dp = false) (hst : s.header.state = .priming ∨ s.header.state = .serving ∨ s.header.state = .standby) :
    dpOn s = suspend s.header.state (s.dpSet true) := by
  have hstate : (s.modHeader fun h => { h with dp := true }).header.state = s.header.state := rfl
  unfold dpOn
  rw [if_neg (by rw [hdp]; decide)]
  simp only [hstate]
  rcases hst with h | h | h <;> rw [h] <;> rfl

theorem dpOn_recorded (hdp : s.header.dp = false) (hst : s.header.state = .idle ∨ s.header.state = .tripped ∨ s.header.state = .waiting) :
    dpOn s = s.dpSet true := by
  have hstate : (s.modHeader fun h => { h with dp := true }).header.state = s.header.state := rfl
  unfold dpOn
  rw [if_neg (by rw [hdp]; decide)]
  simp only [hstate]
  rcases hst with h | h | h <;> rw [h] <;> rfl

theorem dp_suspends (hs : s.Ready) (hg : s.GrantsOk) (hdp : s.header.dp = false)
    (hst : s.header.state = .priming ∨ s.header.state = .serving ∨ s.header.state = .standby) :
    ∃ t : State, exec .strainerDpAsserts s = .next t.startSending
      ∧ t.header = { s.header with
          dp := true, state := .waiting, returnState := some s.header.state, primeTimer := none
          waitTimer := some (s.expiry s.config.header.waitLimit) }
      ∧ (∀ c, (t.chan c).grant = 0 ∧ ((s.chan c).calling = true → (t.chan c).state = .held ∧ (t.chan c).holds.headerWait = true)
          ∧ ((s.chan c).calling = false → t.chan c = s.chan c))
      ∧ t.plan = s.plan ∧ t.trip = s.trip ∧ t.queue = s.queue := by
  have hholds : s.HoldsCallers .headerWait (suspended s.header.state (s.dpSet true)) := suspended_holds (s := s.dpSet true) hg s.header.state
  obtain ⟨t, hexec, hheader, hheld, -, hplan, htrip, hqueue⟩ := exec_holdsCallers (w := s.dpSet true) (i := .strainerDpAsserts) hs rfl hg (by decide)
    ((dpOn_suspends hdp hst).trans (suspend_eq ..)) hholds (suspended_only ..) ⟨rfl, rfl, rfl, rfl, rfl, rfl⟩
  refine ⟨t, hexec, hheader.trans (header_suspended ..), fun c => ⟨hheld.grant hg c, fun hc => ?_, (hheld c).2⟩, hplan, htrip, hqueue⟩
  exact ⟨((hheld c).1 hc).state, ((hheld c).1 hc).holds⟩

/-! PROOF. The strainer dp clears (R105), and the pump's events (R102, R103). -/


variable {P : List Part} {s t v : State} {c d : Chan} {k : Channel} {rs : List HoldReason} {r : HoldReason}

/-! ### Priming afresh (R102, R103) -/

/-- The priming header (R102). -/
def Header.primed (h : Header) (x : Nat) : Header :=
  { h with state := .priming, returnState := none, waitTimer := none, primeTimer := some x }

theorem Header.primed_of {h : Header} (hr : h.returnState = none) (hw : h.waitTimer = none) {x : Nat} :
    h.primed x = { h with state := .priming, primeTimer := some x } := by
  unfold Header.primed; rw [← hr, ← hw]

theorem startPriming_eq (hdp : s.header.dp = false) : startPriming s = holdCallers [.headerWait]
    (changeHeader (fun h => h.primed (s.expiry s.config.header.primeTime)) s) := by
  unfold startPriming
  rw [if_neg (by rw [hdp]; decide)]
  rfl

theorem startPriming_only (hdp : s.header.dp = false) : s.HeaderOnly (startPriming s) := by
  rw [startPriming_eq hdp]
  exact (changeHeader_only _ _).trans (holdCallers_writes ..).headerOnly

theorem header_startPriming (hdp : s.header.dp = false) :
    (startPriming s).header = s.header.primed (s.expiry s.config.header.primeTime) := by
  rw [startPriming_eq hdp, (holdCallers_writes ..).header_eq, changeHeader_header]

theorem chan_startPriming (hdp : s.header.dp = false) (c : Chan) : (startPriming s).chan c = (s.chan c).callerHeld [.headerWait] := by
  rw [startPriming_eq hdp, chan_holdCallers, chan_changeHeader]

/-- A channel without a grant, whose callers are HELD already. -/
theorem startPriming_holds (hg : s.GrantsOk) (hz : ∀ c, (s.chan c).grant = 0) (hdp : s.header.dp = false) :
    s.HoldsCallers .headerWait (startPriming s) := by
  intro c
  rw [chan_startPriming hdp]
  refine ⟨fun hc => ?_, fun hc => by rw [Channel.callerHeld, if_neg (by rw [hc]; decide)]⟩
  have hs : (s.chan c).state = .held := by
    unfold Channel.calling at hc
    cases hst : (s.chan c).state with
    | held => rfl
    | flowing => have := (hg.2.2 c).1.mpr hst; rw [hz c] at this; cases this
    | masked | idle | opening | closing | fault => simp [hst] at hc
  exact Channel.heldBy_callerHeld hs (hz c) (by simp)

theorem unprimed_only (s : State) : s.HeaderOnly (unprimed s) :=
  ((changeHeader_only _ _).trans (freeCallers_writes ..).headerOnly).trans (holdCallers_writes ..).headerOnly

theorem header_unprimed (s : State) : (unprimed s).header =
    { s.header with state := .idle, returnState := none, primeTimer := none, waitTimer := none } := by
  rw [unprimed, restHeader, (holdCallers_writes ..).header_eq, (freeCallers_writes ..).header_eq, changeHeader_header]

theorem chan_unprimed (s : State) (c : Chan) : (unprimed s).chan c = ((s.chan c).callerFreed [.headerWait]).callerHeld [.noPump] := by
  rw [unprimed, restHeader, chan_holdCallers, chan_freeCallers, chan_changeHeader]

theorem calling_unprimed (s : State) (c : Chan) : ((unprimed s).chan c).calling = (s.chan c).calling := by
  rw [chan_unprimed, Channel.calling_callerHeld, Channel.calling_callerFreed]

theorem unprimed_holds (h : ∀ c, (s.chan c).calling = true → (s.chan c).state = .held ∧ (s.chan c).grant = 0) :
    s.HoldsCallers .noPump (unprimed s) := by
  intro c
  rw [chan_unprimed]
  refine ⟨fun hc => ?_, fun hc => ?_⟩
  · obtain ⟨hs, hz⟩ := h c hc
    have hfree : ((s.chan c).callerFreed [.headerWait]).state = .held ∧ ((s.chan c).callerFreed [.headerWait]).grant = 0 := by
      rw [Channel.callerFreed, if_pos hc]; exact ⟨hs, hz⟩
    exact Channel.heldBy_callerHeld hfree.1 hfree.2 (by simp)
  · rw [Channel.callerFreed, if_neg (by rw [hc]; decide), Channel.callerHeld, if_neg (by rw [hc]; decide)]

/-- A fresh priming of a part with callers, none of which has a grant: both reasons go on them (R100, R103). -/
theorem repriming_holds (h : ∀ c, (s.chan c).calling = true → (s.chan c).state = .held ∧ (s.chan c).grant = 0) (hdp : s.header.dp = false)
    (hc : s.anyCalling = true) : s.HoldsCallers .headerWait (repriming s) ∧ s.HoldsCallers .noPump (repriming s)
      ∧ s.HeaderOnly (repriming s) ∧ (repriming s).header = s.header.primed (s.expiry s.config.header.primeTime) := by
  have hpump := unprimed_holds h
  have honly := unprimed_only s
  have hdp' : (unprimed s).header.dp = false := by rw [header_unprimed]; exact hdp
  have heq : repriming s = startPriming (unprimed s) := by
    rw [repriming_eq, anyCalling_of (calling_unprimed s), if_pos hc]
  rw [heq]
  have hchan (c : Chan) := chan_startPriming hdp' c
  refine ⟨fun c => ⟨fun hcc => ?_, fun hcc => ?_⟩, fun c => ⟨fun hcc => ?_, fun hcc => ?_⟩,
    honly.trans (startPriming_only hdp'), ?_⟩
  · rw [hchan]
    exact Channel.heldBy_callerHeld ((hpump c).1 hcc).state ((hpump c).1 hcc).grant (by simp)
  · rw [hchan, (hpump c).2 hcc, Channel.callerHeld, if_neg (by rw [hcc]; decide)]
  · rw [hchan]; exact ((hpump c).1 hcc).callerHeld
  · rw [hchan, (hpump c).2 hcc, Channel.callerHeld, if_neg (by rw [hcc]; decide)]
  · rw [header_startPriming hdp', header_unprimed, honly.config]
    unfold State.expiry
    rw [honly.now]
    rfl

/-! ### The pump is lost (R103) -/

theorem pumpLost_serving (hp : s.header.pumpRunning = true) (hst : s.header.state = .serving) :
    pumpLost s = regrant s.anyGrant (repriming (zeroGrants (s.modHeader fun h => { h with pumpRunning := false }))) := by
  have hstate : (s.modHeader fun h => { h with pumpRunning := false }).header.state = s.header.state := rfl
  unfold pumpLost
  rw [if_pos hp]
  simp only [hstate, hst]
  rfl

theorem pump_reprimes (hs : s.Ready) (hg : s.GrantsOk) (ht : s.header.TimersOk) (hp : s.header.pumpRunning = true)
    (hst : s.header.state = .serving) (hdp : s.header.dp = false) (hc : s.anyCalling = true) :
    ∃ t : State, exec .pumpRunningLost s = .next t.startSending
      ∧ t.header = { s.header with
          pumpRunning := false, state := .priming, primeTimer := some (s.expiry s.config.header.primeTime) }
      ∧ (∀ c, (t.chan c).grant = 0 ∧ ((s.chan c).calling = true →
            (t.chan c).state = .held ∧ (t.chan c).holds.noPump = true ∧ (t.chan c).holds.headerWait = true)
          ∧ ((s.chan c).calling = false → t.chan c = s.chan c))
      ∧ t.plan = s.plan ∧ t.trip = s.trip := by
  have hz := zeroGrants_writes (s.modHeader fun h => { h with pumpRunning := false })
  have hchan (c : Chan) : (zeroGrants (s.modHeader fun h => { h with pumpRunning := false })).chan c = (s.chan c).zeroed := chan_zeroGrants ..
  have hcall (c : Chan) : ((zeroGrants (s.modHeader fun h => { h with pumpRunning := false })).chan c).calling = (s.chan c).calling := by
    rw [hchan, Channel.calling_zeroed]
  have hheld (c : Chan) (hcc : ((zeroGrants (s.modHeader fun h => { h with pumpRunning := false })).chan c).calling = true) :
      ((zeroGrants (s.modHeader fun h => { h with pumpRunning := false })).chan c).state = .held
        ∧ ((zeroGrants (s.modHeader fun h => { h with pumpRunning := false })).chan c).grant = 0 := by
    rw [hcall] at hcc; rw [hchan]; exact Channel.held_zeroed (hg.2.2 c) hcc
  obtain ⟨hwait, hnopump, honly, hheader⟩ := repriming_holds hheld (by rw [hz.header_eq]; exact hdp) (by rw [anyCalling_of hcall]; exact hc)
  have hback {r : HoldReason} {w : State} (h : (zeroGrants (s.modHeader fun h => { h with pumpRunning := false })).HoldsCallers r w) :
      s.HoldsCallers r w := by
    intro c
    refine ⟨fun hcc => (h c).1 ((hcall c).trans hcc), fun hcc => ?_⟩
    rw [(h c).2 ((hcall c).trans hcc), hchan, Channel.zeroed_of_not_calling (hg.2.2 c) hcc]
  obtain ⟨t, hexec, htheader, htheld, htchan, hplan, htrip, -⟩ := exec_holdsCallers (i := .pumpRunningLost)
    (w := s.modHeader fun h => { h with pumpRunning := false }) hs rfl hg (by decide) (pumpLost_serving hp hst) (hback hwait)
    (hz.headerOnly.trans honly) ⟨rfl, rfl, rfl, rfl, rfl, rfl⟩
  have hret : s.header.returnState = none := by
    have := ht.2.2; rw [hst] at this; simpa using this
  have hwt : s.header.waitTimer = none := by
    have := ht.2.1; rw [hst] at this; simpa using this
  refine ⟨t, hexec, ?_, fun c => ⟨htheld.grant hg c, fun hcc => ⟨((htheld c).1 hcc).state, ?_, ((htheld c).1 hcc).holds⟩, (htheld c).2⟩, hplan, htrip⟩
  · have hexp : (zeroGrants (s.modHeader fun h => { h with pumpRunning := false })).expiry = s.expiry := by
      unfold State.expiry; rw [hz.now_eq]; rfl
    rw [htheader, hheader, hz.header_eq, hz.config_eq, hexp]
    exact Header.primed_of (h := (s.modHeader fun h => { h with pumpRunning := false }).header) hret hwt
  · rw [htchan]; exact ((hback hnopump c).1 hcc).holds


/-! ### The dp clears (R105) -/

theorem dpOff_recorded (hdp : s.header.dp = true) (hst : s.header.state ≠ .waiting) : dpOff s = s.dpSet false := by
  have hstate : (s.modHeader fun h => { h with dp := false }).header.state = s.header.state := rfl
  unfold dpOff
  rw [if_pos hdp]
  simp only
  split
  case h_1 h _ => exact absurd h hst
  case h_2 => rfl

theorem dpOff_resumes {ret : HeaderState} (hdp : s.header.dp = true) (hst : s.header.state = .waiting) (hr : s.header.returnState = some ret) :
    dpOff s = regrant false (resume ret (s.dpSet false)) := by
  unfold dpOff
  rw [if_pos hdp]
  simp only
  split
  case h_1 x _ hx =>
    have : some x = some ret := hx.symm.trans hr
    cases this; rfl
  case h_2 h => exact absurd hr (h ret hst)

theorem Channel.asks_of_not_calling (hc : k.calling = false) : k.asks = false := by
  unfold Channel.calling at hc
  unfold Channel.asks
  cases hs : k.state <;> simp [hs] at hc ⊢

theorem not_calling_of (h : s.anyCalling = false) (c : Chan) : (s.chan c).calling = false := by
  simpa using List.any_eq_false.mp h c (mem_chans c)

/-- The header at rest once the dp clears with no caller (R105). -/
def restingState (ret : HeaderState) (s : State) : HeaderState :=
  if ret ≠ .priming ∧ s.header.pumpRunning = true ∧ s.config.header.policy = .hold then .standby else .idle

theorem resume_rests (ret : HeaderState) (hc : s.anyCalling = false) : resume ret s = restHeader (restingState ret s) s := by
  unfold resume restingState
  simp only [hc, Bool.false_eq_true, if_false]
  by_cases hret : ret = .priming
  · simp [hret]
  · by_cases hp : s.header.pumpRunning = true
    · cases hpol : s.config.header.policy <;> simp [hret, hp, restState]
    · simp [hret, hp]

theorem dp_rests {ret : HeaderState} (hs : s.Ready) (hg : s.GrantsOk) (hdp : s.header.dp = true) (hst : s.header.state = .waiting)
    (hr : s.header.returnState = some ret) (hc : s.anyCalling = false) :
    ∃ t : State, exec .strainerDpClears s = .next t.startSending
      ∧ t.header = { s.header with dp := false, returnState := none, waitTimer := none, primeTimer := none, state := restingState ret s }
      ∧ t.channels = s.channels ∧ t.plan = s.plan ∧ t.trip = s.trip := by
  have hasks (c : Chan) : ((restHeader (restingState ret s) (s.dpSet false)).chan c).asks = false := by
    rw [restHeader, chan_changeHeader]; exact Channel.asks_of_not_calling (not_calling_of hc c)
  have hflows (c : Chan) : ((restHeader (restingState ret s) (s.dpSet false)).chan c).FlowsByGrant := by
    rw [restHeader, chan_changeHeader]; exact hg.2.2 c
  have heff : dpOff s = restHeader (restingState ret s) (s.dpSet false) := by
    rw [dpOff_resumes hdp hst hr, resume_rests (s := s.dpSet false) ret hc]
    exact regrant_of_not_asking hasks hflows false
  refine ⟨_, exec_quiet hs.1 rfl heff ?_, ?_, ?_, ?_, ?_⟩
  · rw [restHeader, changeHeader_made]; exact hs.2
  · rw [restHeader, changeHeader_header]; rfl
  · rw [restHeader, changeHeader_made]; rfl
  · rw [restHeader, changeHeader_made]; rfl
  · rw [restHeader, changeHeader_made]; rfl

theorem dp_primes {ret : HeaderState} (hs : s.Ready) (hg : s.GrantsOk) (hdp : s.header.dp = true) (hst : s.header.state = .waiting)
    (hr : s.header.returnState = some ret) (hc : s.anyCalling = true) (hor : ret = .priming ∨ s.header.pumpRunning = false) :
    ∃ t : State, exec .strainerDpClears s = .next t.startSending
      ∧ t.header = { s.header with
          dp := false, state := .priming, returnState := none, waitTimer := none
          primeTimer := some (s.expiry s.config.header.primeTime) }
      ∧ (ret ≠ .priming → ∀ c, (t.chan c).calling = true → (t.chan c).holds.noPump = true ∧ (t.chan c).holds.headerWait = true) := by
  have hz (c : Chan) : (s.chan c).grant = 0 := hg.2.1 (by rw [hst]; decide) c
  have hc' : (s.dpSet false).anyCalling = true := hc
  have honly : (s.dpSet false).HeaderOnly s := ⟨rfl, rfl, rfl, rfl, rfl, rfl⟩
  by_cases hret : ret = .priming
  · have heff : dpOff s = regrant false (startPriming (s.dpSet false)) := by
      rw [dpOff_resumes hdp hst hr, resume, if_pos hret, if_pos hc']
    obtain ⟨t, hexec, hheader, -⟩ := exec_holdsCallers (i := .strainerDpClears) (r := .headerWait) hs rfl hg (by decide) heff
      (startPriming_holds (s := s.dpSet false) hg hz rfl) (startPriming_only (s := s.dpSet false) rfl) honly
    exact ⟨t, hexec, hheader.trans (header_startPriming (s := s.dpSet false) rfl), fun h => absurd hret h⟩
  · have hp : (s.dpSet false).header.pumpRunning = false := hor.resolve_left hret
    have heff : dpOff s = regrant false (repriming (s.dpSet false)) := by
      rw [dpOff_resumes hdp hst hr, resume, if_neg hret, if_neg (by rw [hp]; decide), if_pos hc']
    have hheld (c : Chan) (hcc : ((s.dpSet false).chan c).calling = true) :
        ((s.dpSet false).chan c).state = .held ∧ ((s.dpSet false).chan c).grant = 0 := by
      have hk := Channel.held_zeroed (hg.2.2 c) hcc
      have hf : (s.chan c).state ≠ .flowing := fun h => by
        have := (hg.2.2 c).1.mpr h; rw [hz c] at this; cases this
      rw [Channel.zeroed, if_neg hf, if_pos (hz c)] at hk
      exact hk
    obtain ⟨hwait, hnopump, hmade, hheader⟩ := repriming_holds hheld rfl hc'
    obtain ⟨t, hexec, htheader, htheld, htchan, -⟩ := exec_holdsCallers (i := .strainerDpClears) hs rfl hg (by decide) heff hwait hmade honly
    refine ⟨t, hexec, htheader.trans hheader, fun _ c htc => ?_⟩
    have hcc : (s.chan c).calling = true := (htheld.calling c).symm.trans htc
    exact ⟨by rw [htchan]; exact ((hnopump c).1 hcc).holds, ((htheld c).1 hcc).holds⟩

/-! PROOF. The header in service through the evaluations that follow (R102, R104, R105). -/


variable {P : List Part} {s t v : State} {c d : Chan} {k : Channel} {rs : List HoldReason} {r : HoldReason} {b : Bool} {x : HeaderPolicy}

/-! ### A header in service, or left by its last caller (R104) -/

/-- A caller waits for neither header nor pump (R100). -/
def Channel.Free (k : Channel) : Prop := k.calling = true → k.holds.has .headerWait = false ∧ k.holds.has .noPump = false

/-- The header serves, or its last caller has left it at rest by R104; no timer runs. -/
structure State.Served (b : Bool) (x : HeaderPolicy) (s : State) : Prop where
  dp : s.header.dp = b
  prime : s.header.primeTimer = none
  wait : s.header.waitTimer = none
  ret : s.header.returnState = none
  policy : s.config.header.policy = x
  state : s.header.state = .serving ∨ (s.anyCalling = false ∧ s.header.state = restState x)
  free : ∀ c, (s.chan c).Free

/-- Channels moved within their calling set, the lists alone changed in the header. -/
theorem State.Served.of_callers (h : s.Served b x) (hh : t.header = { s.header with high := t.header.high, low := t.header.low })
    (hc : t.config = s.config) (hcall : ∀ d, (t.chan d).calling = (s.chan d).calling) (hfree : ∀ d, (t.chan d).Free) : t.Served b x where
  dp := by rw [hh]; exact h.dp
  prime := by rw [hh]; exact h.prime
  wait := by rw [hh]; exact h.wait
  ret := by rw [hh]; exact h.ret
  policy := by rw [hc]; exact h.policy
  state := by rw [anyCalling_of hcall, hh]; exact h.state
  free := hfree

theorem Channel.Free.of_same (h : k.Free) {l : Channel} (hc : l.calling = k.calling)
    (hh : ∀ r, r ≠ .noGrant → k.holds.has r = false → l.holds.has r = false) : l.Free := fun hl => by
  obtain ⟨h1, h2⟩ := h (hc.symm.trans hl)
  exact ⟨hh .headerWait (by decide) h1, hh .noPump (by decide) h2⟩

theorem Channel.has_holdsWithout (hn : r ≠ .noGrant) (h : k.holds.has r = false) : (k.holdsWithout rs).has r = false := by
  have hm : (k.holds.minus rs).has r = false := by rw [HoldSet.has_minus, h]; rfl
  rw [Channel.holdsWithout_eq]
  split
  · rw [HoldSet.has_put_of_ne hn, hm]
  · exact hm

theorem Channel.calling_granted (k : Channel) (g n : Nat) : (k.granted g n).calling = k.calling := by
  have hcall (hs : k.state = .flowing ∨ k.state = .held) : k.calling = true := by
    unfold Channel.calling
    rcases hs with hs | hs <;> rw [hs]
  unfold Channel.granted
  split
  case h_1 hs =>
    rw [hcall (.inl hs)]
    split
    · rfl
    · simp [Channel.calling, hs]
  case h_2 hs =>
    rw [hcall (.inr hs)]
    split
    · simp [Channel.calling, hs]
    · rfl
  all_goals rfl

theorem Channel.has_granted (k : Channel) (g n : Nat) (hn : r ≠ .noGrant) : (k.granted g n).holds.has r = k.holds.has r := by
  unfold Channel.granted
  split
  · split
    · exact HoldSet.has_put_of_ne hn _
    · rfl
  · split
    · simp only
      split
      · exact HoldSet.has_put_of_ne hn _
      · rfl
    · exact HoldSet.has_put_of_ne hn _
  all_goals rfl

theorem Channel.free_granted (h : k.Free) (g n : Nat) : (k.granted g n).Free :=
  h.of_same (k.calling_granted g n) fun r hn hr => by rw [k.has_granted g n hn, hr]

theorem regrant_served (h : s.Served b x) (z : Bool) : (regrant z s).Served b x := by
  have hw := regrant_writes z s
  refine h.of_callers (by rw [hw.header_eq]) hw.config_eq (fun d => ?_) fun d => ?_
  · rw [chan_regrant, Channel.calling_granted]
  · rw [chan_regrant]; exact Channel.free_granted (h.free d) _ _

/-- One channel's record changed within its calling. -/
theorem State.Served.set (h : s.Served b x) {f : Channel → Channel} (hh : t.header = s.header) (hc : t.config = s.config)
    (hchan : ∀ d, t.chan d = if c = d then f (s.chan c) else s.chan d) (hcall : (f (s.chan c)).calling = (s.chan c).calling)
    (hfree : (f (s.chan c)).Free) : t.Served b x := by
  refine h.of_callers (by rw [hh]) hc (fun d => ?_) fun d => ?_
  · rw [hchan]; split
    case isTrue hd => subst hd; exact hcall
    case isFalse => rfl
  · rw [hchan]; split
    · exact hfree
    · exact h.free d

theorem removeHolds_served (h : s.Served b x) (d : Chan) (rs : List HoldReason) : (removeHolds d rs s).Served b x := by
  refine h.set (f := fun k => { k with holds := k.holdsWithout rs }) ?_ ?_ (chan_removeHolds d rs s) rfl
    ((h.free d).of_same rfl fun r hn hr => Channel.has_holdsWithout hn hr)
  · rw [removeHolds, updateChan_made]; rfl
  · rw [removeHolds, updateChan_made]; rfl

/-! ### A close in service (R81, R104) -/

theorem Channel.calling_valveClosed (k : Channel) (m n : Nat) : (k.valveClosed m n).calling = false := by
  unfold Channel.calling
  rw [k.state_valveClosed m n]
  unfold ChState.shut
  cases k.state <;> rfl

theorem closeValve_header (c : Chan) (s : State) : (closeValve c s).header = s.header ∧ (closeValve c s).config = s.config :=
  ⟨(closeValve_writes c s).header_eq, (closeValve_writes c s).config_eq⟩

theorem free_closeValve (h : ∀ d, (s.chan d).Free) (c d : Chan) : ((closeValve c s).chan d).Free := by
  rw [chan_closeValve]
  split
  · intro hc; rw [Channel.calling_valveClosed] at hc; cases hc
  · exact h d

/-- A caller's close in service: the header serves on, or is left at rest (R104). -/
theorem uncall_served (h : s.Served b x) (hcall : (s.chan c).calling = true) : (headerUncall (closeValve c s)).Served b x := by
  obtain ⟨hh, hcfg⟩ := closeValve_header c s
  have hserving : s.header.state = .serving := h.state.resolve_right fun hn => by
    have := not_calling_of hn.1 c
    rw [hcall] at this; cases this
  have hfree := free_closeValve h.free c
  unfold headerUncall
  split
  case isTrue hany =>
    exact ⟨by rw [hh]; exact h.dp, by rw [hh]; exact h.prime, by rw [hh]; exact h.wait, by rw [hh]; exact h.ret, by rw [hcfg]; exact h.policy,
      .inl (by rw [hh]; exact hserving), hfree⟩
  case isFalse hnone =>
    have hst : (closeValve c s).header.state = .serving := by rw [hh]; exact hserving
    simp only [hst]
    have hheader := changeHeader_header (fun h => { h with state := restState (closeValve c s).config.header.policy }) (closeValve c s)
    have hchan := chan_changeHeader (fun h => { h with state := restState (closeValve c s).config.header.policy }) (closeValve c s)
    have hpol : (closeValve c s).config.header.policy = x := by rw [hcfg]; exact h.policy
    refine ⟨by rw [hheader, hh]; exact h.dp, by rw [hheader, hh]; exact h.prime, by rw [hheader, hh]; exact h.wait,
      by rw [hheader, hh]; exact h.ret, by rw [(changeHeader_only ..).config]; exact hpol, .inr ⟨?_, ?_⟩, by rw [hchan]; exact hfree⟩
    · rw [anyCalling_of (s := closeValve c s) fun d => by rw [hchan]]; simpa using hnone
    · rw [hheader, hpol]

theorem closeChannel_served (h : s.Served b x) (c : Chan) : (closeChannel c s).Served b x := by
  unfold closeChannel
  simp only
  split
  case isFalse => exact h
  case isTrue hw =>
    refine regrant_served ?_ _
    split
    case isTrue hc => exact uncall_served h hc
    case isFalse hc =>
      obtain ⟨hh, hcfg⟩ := closeValve_header c s
      refine h.of_callers (by rw [hh]) hcfg (fun d => ?_) (free_closeValve h.free c)
      rw [chan_closeValve]
      split
      case isTrue hd => rw [← hd, Channel.calling_valveClosed]; simpa using hc
      case isFalse => rfl

/-! ### The evaluations (R53, R111) -/

theorem Move.served (hm : Move s t) (h : s.Served b x) : t.Served b x := by
  cases hm with
  | aside _ _ ht _ =>
    have hchan : t.chan = s.chan := by rw [ht]; rfl
    exact h.of_callers (by rw [ht]) (by rw [ht]) (fun d => by rw [hchan]) fun d => by rw [hchan]; exact h.free d
  | settled d | returned d => exact removeHolds_served h d _
  | soon d y =>
    exact h.set (f := fun k => { k with highSoon := y }) (setHighSoon_writes ..).header_eq (setHighSoon_writes ..).config_eq
      (chan_setHighSoon d y s) rfl (h.free d)
  | gain d u y =>
    exact h.set (f := fun k => { k with meter := { k.meter with unmeteredGain := y } }) (setUnmetered_writes ..).header_eq
      (setUnmetered_writes ..).config_eq (chan_setUnmetered d u y s) rfl (h.free d)
  | unauthorise d =>
    exact h.set (f := fun k => { k with authorised := false }) (setAuth_false_writes ..).header_eq (setAuth_false_writes ..).config_eq
      (chan_setAuth d false s) rfl (h.free d)
  | close d => exact closeChannel_served h d
  | regrant z => exact regrant_served h z
  | rotate d =>
    have hw := rotate_writes d s
    refine h.of_callers ?_ hw.config_eq (fun e => by rw [hw.chan_eq]) fun e => by rw [hw.chan_eq]; exact h.free e
    rw [header_rotate]
    split <;> rfl

theorem effect_served {f : State → State} (h : (f s).Served b x) : (effect f s).Served b x :=
  effect_keeps (fun _ _ => Move.served) (fun _ _ h => ⟨h.dp, h.prime, h.wait, h.ret, h.policy, h.state, h.free⟩) h

/-! ### SERVING is entered (R102, R105) -/

theorem enterServing_served (s : State) : (enterServing s).Served s.header.dp s.config.header.policy := by
  have hw := freeCallers_writes (rs := [.headerWait, .noPump]) (changeHeader (fun h =>
    { h with state := .serving, returnState := none, primeTimer := none, waitTimer := none }) s)
  have hheader : (enterServing s).header = { s.header with state := .serving, returnState := none, primeTimer := none, waitTimer := none } := by
    rw [enterServing, hw.header_eq, changeHeader_header]
  refine ⟨by rw [hheader], by rw [hheader], by rw [hheader], by rw [hheader], ?_, .inl (by rw [hheader]), fun c hc => ?_⟩
  · rw [enterServing, hw.config_eq, (changeHeader_only ..).config]
  · have hchan : (enterServing s).chan c = (s.chan c).callerFreed [.headerWait, .noPump] := by
      rw [enterServing, chan_freeCallers, chan_changeHeader]
    rw [hchan, Channel.calling_callerFreed] at hc
    rw [hchan, Channel.callerFreed, if_pos hc]
    have hgone {r : HoldReason} (hn : r ≠ .noGrant) (hr : r ∈ [HoldReason.headerWait, .noPump]) :
        ((s.chan c).holdsWithout [.headerWait, .noPump]).has r = false := by
      have hm : ((s.chan c).holds.minus [.headerWait, .noPump]).has r = false := by rw [HoldSet.has_minus]; simp [hr]
      rw [Channel.holdsWithout_eq]
      split
      · rw [HoldSet.has_put_of_ne hn, hm]
      · exact hm
    exact ⟨hgone (by decide) (by decide), hgone (by decide) (by decide)⟩

/-- A command that brings the header into service, through all the evaluations its regrant brings. -/
theorem exec_served {i : Instr} {w : State} (hs : s.Ready) (hi : ofSupply i = false) (ht : commandEffect i s = regrant false (enterServing w)) :
    ∃ t : State, exec i s = .next t.startSending ∧ t.Served w.header.dp w.config.header.policy :=
  ⟨_, exec_on hs.1 hi, effect_served (by rw [ht]; exact regrant_served (enterServing_served w) false)⟩

theorem State.Served.rest (h : s.Served b x) : s.header.state = .serving
    ∨ (s.anyCalling = false ∧ s.header.state = (if x = .hold then .standby else .idle)) := by
  refine h.state.imp_right fun ⟨hn, hst⟩ => ⟨hn, hst.trans ?_⟩
  cases x <;> rfl

theorem dp_serves {ret : HeaderState} (hs : s.Ready) (hdp : s.header.dp = true) (hst : s.header.state = .waiting)
    (hr : s.header.returnState = some ret) (hc : s.anyCalling = true) (hret : ret ≠ .priming) (hp : s.header.pumpRunning = true) :
    ∃ t : State, exec .strainerDpClears s = .next t.startSending ∧ t.Served false s.config.header.policy := by
  have hp' : (s.dpSet false).header.pumpRunning = true := hp
  have hc' : (s.dpSet false).anyCalling = true := hc
  refine exec_served (w := s.dpSet false) hs rfl (i := .strainerDpClears) ?_
  have heff := dpOff_resumes hdp hst hr
  rw [resume, if_neg hret, if_pos hp', if_pos hc'] at heff
  exact heff

/-- Settles O55. -/
theorem strainerDpSuspendsAndResumes : Obligations.StrainerDpSuspendsAndResumes := by
  intro s hs hg ht
  refine ⟨fun hdp => ⟨fun hst => ?_, fun hst => dp_suspends hs hg hdp hst⟩, fun hdp => ⟨fun hst => ?_, fun hst hc => ?_, fun hst hc hor => ?_,
    fun hst hc hret hp => ?_⟩⟩
  · exact exec_quiet hs.1 rfl (dpOn_recorded hdp hst) hs.2
  · exact exec_quiet hs.1 rfl (dpOff_recorded hdp hst) hs.2
  all_goals obtain ⟨ret, hr⟩ := Option.isSome_iff_exists.mp (ht.2.2.mpr hst)
  · obtain ⟨t, hexec, hheader, hchan, hplan, htrip⟩ := dp_rests hs hg hdp hst hr hc
    refine ⟨t, hexec, hheader.trans ?_, hchan, hplan, htrip⟩
    simp [restingState, hr]
  · rw [hr] at hor ⊢
    obtain ⟨t, hexec, hheader, hboth⟩ := dp_primes hs hg hdp hst hr hc (hor.imp_left Option.some.inj)
    exact ⟨t, hexec, hheader, fun h => hboth fun h' => h (congrArg some h')⟩
  · rw [hr] at hret
    obtain ⟨t, hexec, hserved⟩ := dp_serves hs hdp hst hr hc (fun h => hret (congrArg some h)) hp
    exact ⟨t, hexec, hserved.dp, hserved.wait, hserved.ret, hserved.rest, fun c hcc => hserved.free c hcc⟩


/-! ### The pump (R102, R103) -/

theorem pump_serves {n : Nat} (hs : s.Ready) (hn : s.header.primeTimer = some n) (hle : n ≤ s.now) (hp : s.header.pumpRunning = true) :
    ∃ t : State, exec .primeTimerExpiry s = .next t.startSending ∧ t.Served s.header.dp s.config.header.policy := by
  refine exec_served hs rfl (i := .primeTimerExpiry) ?_
  have htake : takePrime s = regrant false (enterServing s) := by rw [takePrime, if_pos (due_of_le hn hle), if_pos hp]
  exact htake

theorem pump_rests (hs : s.Ready) (hg : s.GrantsOk) (ht : s.header.TimersOk) (hp : s.header.pumpRunning = true)
    (hst : s.header.state = .standby) :
    ∃ t : State, exec .pumpRunningLost s = .next t.startSending
      ∧ t = { s with header := { s.header with pumpRunning := false, state := .idle }, portB := t.portB, portS := t.portS } := by
  have hne (x : HeaderState) (hx : x ≠ .standby) : s.header.state ≠ x := fun h => hx (h.symm.trans hst)
  have hprime : s.header.primeTimer = none := by simpa [hst] using ht.1
  have hwait : s.header.waitTimer = none := by simpa [hst] using ht.2.1
  have hret : s.header.returnState = none := by simpa [hst] using ht.2.2
  let s1 := s.modHeader fun h => { h with pumpRunning := false }
  have hlost : pumpLost s = regrant false (restHeader .idle s1) := by
    have hstate : (s.modHeader fun h => { h with pumpRunning := false }).header.state = .standby := hst
    unfold pumpLost
    rw [if_pos hp]
    simp only [hstate]
    rfl
  have hmade : restHeader .idle s1 = { s with header := { s.header with pumpRunning := false, state := .idle }
                                              portB := (restHeader .idle s1).portB, portS := (restHeader .idle s1).portS } := by
    rw [restHeader, changeHeader_made]
    simp only [s1, State.modHeader, hprime, hwait, hret]
  have hok : (restHeader .idle s1).GrantsOk := by
    rw [hmade]
    exact ⟨hg.1, fun _ => hg.2.1 (hne .serving (by decide)), hg.2.2⟩
  have heff : pumpLost s = restHeader .idle s1 := by
    rw [hlost]
    exact regrant_of_not_serving (by rw [hmade]; exact fun h => nomatch h) hok false
  exact ⟨_, exec_quiet hs.1 rfl heff (by rw [hmade]; exact hs.2), hmade⟩

theorem pumpLost_recorded (hp : s.header.pumpRunning = true) (h1 : s.header.state ≠ .serving) (h2 : s.header.state ≠ .standby) :
    pumpLost s = s.modHeader fun h => { h with pumpRunning := false } := by
  unfold pumpLost
  rw [if_pos hp]
  simp only
  split
  case h_1 h => exact absurd h h1
  case h_2 h => exact absurd h h2
  all_goals rfl

/-- Settles O56. -/
theorem pumpPrimesAndFails : Obligations.PumpPrimesAndFails := by
  intro s hs hg ht
  refine ⟨fun n hn hle hp _ => ?_, pump_reprimes hs hg ht, pump_rests hs hg ht, fun hp h1 h2 => ?_, ?_⟩
  · obtain ⟨t, hexec, hserved⟩ := pump_serves hs hn hle hp
    exact ⟨t, hexec, hserved.prime, hserved.rest, fun c hcc => hserved.free c hcc⟩
  · exact exec_quiet hs.1 rfl (pumpLost_recorded hp h1 h2) hs.2
  · exact exec_quiet (t := s.modHeader fun h => { h with pumpRunning := true }) hs.1 rfl rfl hs.2

/-! SUPPORT. A reading taken, step by step (R35 to R46). -/


variable {P : List Part} {s t v : State} {u x : TankNo} {c d : Chan} {i : EntryId} {e : Entry} {k : Tank} {q : Quality} {l n m : Nat} {hi hihi : Bool}

/-! ### A reading judged, on the tank's record (R36 to R39) -/

/-- A tank's record once a reading is taken as suspect (R38, R42). -/
def Tank.suspected (k : Tank) (o : Origin) : Tank := ({ k with suspect := some o, stepRef := none } : Tank).flushed

/-- A tank's record with a good reading joined to its window (R39). -/
def Tank.joined (k : Tank) (now timer level : Nat) : Tank :=
  { k with window := addReading k.window { level := level, stamp := now }, suspect := none, stale := false, staleTimer := some timer,
           stepRef := some level }

/-- A tank's record with a good reading taken in; GAUGE_STEP ends where the window then holds 8 (R37, R39). -/
def Tank.takenIn (k : Tank) (now timer level : Nat) : Tank :=
  if (k.joined now timer level).window.length = 8 then { k.joined now timer level with gaugeStep := false } else k.joined now timer level

/-- A tank's record once a reading is judged (R36, R37). -/
def Tank.read (k : Tank) (now timer level : Nat) (q : Quality) : Tank :=
  if topLevelMm < level then k.suspected .watch
  else
    match q with
    | .suspect => k.suspected .ship
    | .good => if k.stepOk level then k.takenIn now timer level else { k.suspected .watch with gaugeStep := true }

theorem tank_takeSuspect (u : TankNo) (o : Origin) (s : State) (x : TankNo) :
    (takeSuspect u o s).tank x = if u = x then (s.tank u).suspected o else s.tank x := by
  rw [takeSuspect, tank_flushWindow]
  simp only [tank_modTank, if_true]
  split <;> rfl

theorem tank_takeIn (u : TankNo) (level : Nat) (s : State) (x : TankNo) :
    (takeIn u level s).tank x = if u = x then (s.tank u).takenIn s.now (s.expiry s.config.device.staleTime) level else s.tank x := by
  have htake : takeIn u level s = if ((s.tank u).joined s.now (s.expiry s.config.device.staleTime) level).window.length = 8 then
      setGaugeStep u false (s.modTank u fun k => k.joined s.now (s.expiry s.config.device.staleTime) level)
      else s.modTank u fun k => k.joined s.now (s.expiry s.config.device.staleTime) level := by
    unfold takeIn
    simp only [tank_modTank, if_true]
    rfl
  rw [htake, Tank.takenIn]
  split
  · rw [tank_setGaugeStep, tank_modTank, tank_modTank, if_pos rfl]
    split <;> rfl
  · rw [tank_modTank]

theorem tank_judgeReading (u : TankNo) (level : Nat) (q : Quality) (s : State) (x : TankNo) : (judgeReading u level q s).tank x =
    if u = x then (s.tank u).read s.now (s.expiry s.config.device.staleTime) level q else s.tank x := by
  unfold judgeReading Tank.read
  split
  · exact tank_takeSuspect ..
  cases q with
  | suspect => exact tank_takeSuspect ..
  | good =>
    simp only
    split
    · exact tank_takeIn ..
    · rw [tank_setGaugeStep, tank_takeSuspect, tank_takeSuspect, if_pos rfl]
      split <;> rfl

theorem tankAfter_eq (s : State) (u : TankNo) (l : Nat) (q : Quality) :
    s.tankAfter u l q = (s.tank u).read s.now (s.expiry s.config.device.staleTime) l q := by
  rw [State.tankAfter, tank_judgeReading, if_pos rfl]

/-- The ship's flags stored (R44). -/
def Tank.flagged (k : Tank) (hi hihi : Bool) : Tank := { k with shipHi := hi, shipHihi := hihi }

theorem Tank.read_flagged (k : Tank) (hi hihi : Bool) (now timer l : Nat) (q : Quality) :
    (k.flagged hi hihi).read now timer l q = (k.read now timer l q).flagged hi hihi := by
  have hok : (k.flagged hi hihi).stepOk l = k.stepOk l := rfl
  have hin : (k.flagged hi hihi).takenIn now timer l = (k.takenIn now timer l).flagged hi hihi := by
    unfold Tank.takenIn
    have hj : ((k.flagged hi hihi).joined now timer l).window = (k.joined now timer l).window := rfl
    rw [hj]
    split <;> rfl
  unfold Tank.read
  rw [hok, hin]
  split
  · rfl
  cases q with
  | suspect => rfl
  | good =>
    simp only
    split <;> rfl

/-! ### Steps 1 to 3 of R43 -/

/-- The part once the flags are stored, the reading judged, and the tank's own alarms and above-table flag worked (R43 steps 1 to 3). -/
def readTaken (u : TankNo) (l : Nat) (q : Quality) (hi hihi : Bool) (s : State) : State :=
  judgeAbove u ((judgeReading u l q (s.modTank u fun k => { k with shipHi := hi, shipHihi := hihi })).modTank u Tank.judgeOwn)

theorem readTaken_writes (u : TankNo) (l : Nat) (q : Quality) (hi hihi : Bool) (s : State) :
    Writes [.tanks, .trip, .notices] s (readTaken u l q hi hihi s) := readIn_writes ..

theorem tank_judgeAbove (u : TankNo) (s : State) : ∃ b, (judgeAbove u s).tank u = { s.tank u with aboveTable := b } := by
  unfold judgeAbove
  split
  · exact ⟨_, by rw [tank_setAbove, if_pos rfl]⟩
  · exact ⟨_, rfl⟩

theorem readings_judgeAbove (u : TankNo) (s : State) : (judgeAbove u s).readings = s.readings := (judgeAbove_moves u s).readings

/-- The tank's record after steps 1 to 3, but for the above-table flag. -/
theorem tank_readTaken (u : TankNo) (l : Nat) (q : Quality) (hi hihi : Bool) (s : State) :
    ∃ b, (readTaken u l q hi hihi s).tank u = { ((s.tankAfter u l q).flagged hi hihi).judgeOwn with aboveTable := b } := by
  obtain ⟨b, hb⟩ := tank_judgeAbove u ((judgeReading u l q (s.modTank u fun k => { k with shipHi := hi, shipHihi := hihi })).modTank u Tank.judgeOwn)
  refine ⟨b, hb.trans ?_⟩
  rw [tank_modTank, if_pos rfl, tank_judgeReading, if_pos rfl, tank_modTank, if_pos rfl]
  have hflag := Tank.read_flagged (s.tank u) hi hihi s.now (s.expiry s.config.device.staleTime) l q
  rw [tankAfter_eq, ← hflag]
  rfl

theorem tank_readTaken_other (u : TankNo) (l : Nat) (q : Quality) (hi hihi : Bool) (s : State) (h : u ≠ x) :
    (readTaken u l q hi hihi s).tank x = s.tank x := by
  rw [readTaken, tank_judgeAbove_of_ne h, tank_modTank, if_neg h, tank_judgeReading, if_neg h, tank_modTank, if_neg h]

/-! ### The figures of the record so read -/

theorem Tank.judgeOwn_eq (k : Tank) : k.judgeOwn = { k with ownHi := k.judgeOwn.ownHi, ownHihi := k.judgeOwn.ownHihi } := by
  unfold Tank.judgeOwn
  split <;> rfl

/-- A record with nothing of its window or declaration changed. -/
theorem readTaken_same (u : TankNo) (l : Nat) (q : Quality) (hi hihi : Bool) (s : State) :
    (readTaken u l q hi hihi s).tank u = { s.tankAfter u l q with
      shipHi := hi, shipHihi := hihi, ownHi := ((readTaken u l q hi hihi s).tank u).ownHi, ownHihi := ((readTaken u l q hi hihi s).tank u).ownHihi
      aboveTable := ((readTaken u l q hi hihi s).tank u).aboveTable } := by
  obtain ⟨b, hb⟩ := tank_readTaken u l q hi hihi s
  rw [hb, Tank.judgeOwn_eq]
  rfl

theorem readTaken_level (u : TankNo) (l : Nat) (q : Quality) (hi hihi : Bool) (s : State) :
    ((readTaken u l q hi hihi s).tank u).levelState = (s.tankAfter u l q).levelState
      ∧ ((readTaken u l q hi hihi s).tank u).lEff = (s.tankAfter u l q).lEff := by
  rw [readTaken_same]; exact ⟨rfl, rfl⟩

theorem Tank.decl_read (k : Tank) (now timer l : Nat) (q : Quality) : (k.read now timer l q).declared = k.declared := by
  unfold Tank.read Tank.takenIn
  repeat' split
  all_goals rfl

theorem Tank.own_read (k : Tank) (now timer l : Nat) (q : Quality) :
    (k.read now timer l q).ownHi = k.ownHi ∧ (k.read now timer l q).ownHihi = k.ownHihi := by
  unfold Tank.read Tank.takenIn
  repeat' split
  all_goals exact ⟨rfl, rfl⟩

/-- The tank's own assertions after the reading (R44). -/
theorem readTaken_own {d : TankDecl} (hd : (s.tank u).decl = some d) (l : Nat) (q : Quality) (hi hihi : Bool) :
    ((readTaken u l q hi hihi s).tank u).ownHi = (match (s.tankAfter u l q).lEff with
        | some x => decide (d.hHi ≤ x)
        | none => (s.tank u).ownHi)
      ∧ ((readTaken u l q hi hihi s).tank u).ownHihi = (match (s.tankAfter u l q).lEff with
        | some x => decide (d.hHihi ≤ x)
        | none => (s.tank u).ownHihi) := by
  obtain ⟨b, hb⟩ := tank_readTaken u l q hi hihi s
  have hdecl : (s.tankAfter u l q).decl = some d := by
    rw [tankAfter_eq, ← hd]; exact congrArg Declared.decl (Tank.decl_read ..)
  have hown := Tank.own_read (s.tank u) s.now (s.expiry s.config.device.staleTime) l q
  rw [← tankAfter_eq] at hown
  have hl : ((s.tankAfter u l q).flagged hi hihi).lEff = (s.tankAfter u l q).lEff := rfl
  have hdd : ((s.tankAfter u l q).flagged hi hihi).decl = some d := hdecl
  rw [hb]
  unfold Tank.judgeOwn
  rw [hl, hdd]
  cases (s.tankAfter u l q).lEff with
  | none => exact hown
  | some x => exact ⟨rfl, rfl⟩

/-! ### Steps 4 to 9 of R43 -/

/-- The notices of a reading (R43 step 9, R49). -/
def readTold (u : TankNo) (k : Tank) (l : Nat) (q : Quality) (s : State) : State :=
  let s9 := noteLevelChange u k.levelState k.suspect (some (clampLevel l, q)) s
  if (s9.tank u).alarms = k.alarms then s9 else noteAlarm u s9

theorem readTold_writes (u : TankNo) (k : Tank) (l : Nat) (q : Quality) (s : State) : Writes [.notices] s (readTold u k l q s) :=
  Writes.ite (noteLevelChange_writes ..) ((noteLevelChange_writes ..).then (noteAlarm_writes ..))

theorem acceptReading_eq (u : TankNo) (l : Nat) (q : Quality) (hi hihi : Bool) (s : State) : acceptReading u l q hi hihi s =
    startAfterLevel u (s.tank u).levelState (readTold u (s.tank u) l q (reconcile u (evaluateReading u (judgeBlind u (judgeHi u hi
      (judgeHihi u (s.tank u).hihi (readTaken u l q hi hihi s))))))) := rfl

/-- The HIHI assertion does not rise: no shutdown is taken (R46). -/
theorem judgeHihi_stays {d : TankDecl} (hd : (s.tank u).decl = some d) (hs : s.HihiStays u d l q hihi) :
    judgeHihi u (s.tank u).hihi (readTaken u l q hi hihi s) = readTaken u l q hi hihi s := by
  unfold judgeHihi
  refine if_neg ?_
  rcases hs with h | ⟨rfl, hown, hbelow⟩
  · simp [h]
  · have hship : ((readTaken u l q hi false s).tank u).shipHihi = false := by rw [readTaken_same]
    have hno : ((readTaken u l q hi false s).tank u).ownHihi = false := by
      rw [(readTaken_own hd l q hi false).2]
      cases hx : (s.tankAfter u l q).lEff with
      | none => exact hown
      | some x => exact decide_eq_false (Nat.not_le.mpr (hbelow x hx))
    unfold Tank.hihi at *
    rw [hship, hno]
    simp

/-- No HI assertion stands: no stop is taken (R45). -/
theorem judgeHi_none {f : Bool} (h : (s.tank u).hi = false) : judgeHi u f s = s := by
  unfold judgeHi
  split
  · split
    · rw [h]; rfl
    · rfl
  · rfl

theorem evaluateReading_unknown (h : (s.tank u).levelState.known = false) : evaluateReading u s = s := by
  unfold evaluateReading
  split
  · split
    · rw [h]; rfl
    · rfl
  · rfl

theorem Tank.lEff_unknown (h : k.levelState.known = false) : k.lEff = none := by
  unfold Tank.lEff
  cases hs : k.levelState <;> simp_all [LevelState.known]

theorem reconcile_unknown (h : (s.tank u).levelState.known = false) : reconcile u s = s := by
  unfold reconcile
  split
  · have hnone : (s.tank u).nowVolume = none := by rw [Tank.nowVolume, Tank.lEff_unknown h]; rfl
    rw [hnone]
    split
    case h_1 h => cases h
    case h_2 => rfl
  · rfl

theorem LevelState.unsettled_of_unknown {a : LevelState} (h : a.known = false) : a.settled = false := by
  cases a <;> simp_all [LevelState.known, LevelState.settled]

/-! PROOF. LEVEL of a tank, served or not (R35 to R49). -/


variable {P : List Part} {s t v : State} {u x : TankNo} {c d : Chan} {i : EntryId} {e : Entry} {k : Tank} {q : Quality} {l n m : Nat} {hi hihi : Bool}

/-! ### What the steps after the reading leave of the window (R43) -/

theorem endCurrent_moves (c : Chan) (i : EntryId) (r : EndReason) (s : State) : Moves s (endCurrent c i r s) := by
  unfold endCurrent
  split
  case h_2 => exact .refl s
  case h_1 =>
    refine .ite (.refl s) ?_
    exact ((markEnd_moves i r s).trans (.ite (closeChannel_moves ..) (.refl _))).trans (settleEnd_moves ..)

theorem returnToAwait_moves (c : Chan) (s : State) : Moves s (returnToAwait c s) := by
  unfold returnToAwait
  split
  case h_2 => exact .refl s
  case h_1 i e _ =>
    exact (((modEntry_moves i _ s).trans (clearSlug_moves ..)).trans (leaveActive_moves ..)).trans (noteEntry_moves ..)

theorem readings_channelStop (cause : StopCause) (o : Origin) (y : Option TankNo) (c : Chan) (s : State) :
    (channelStop cause o y c s).readings = s.readings := by
  have hvalve (w : State) : (if cause = .valveStuck then goFault c w else closeChannel c w).readings = w.readings := by
    split
    · exact (goFault_writes c w).readings_eq
    · exact (closeChannel_writes c w).readings_eq
  have hentry (w : State) : (if cause = .levelHi then match w.current c with | some (i, _) => endCurrent c i .levelHi w | none => w
      else returnToAwait c w).readings = w.readings := by
    split
    · split
      · exact (endCurrent_moves ..).readings
      · rfl
    · exact (returnToAwait_moves c w).readings
  unfold channelStop
  simp only
  rw [(noteChan_writes ..).readings_eq, (judgeHorn_writes ..).readings_eq]
  refine (hentry _).trans ?_
  rw [(withdrawWhere_writes ..).readings_eq, (setAuth_false_writes ..).readings_eq]
  exact (hvalve _).trans rfl

theorem readings_judgeHi (u : TankNo) (f : Bool) (s : State) : (judgeHi u f s).readings = s.readings := by
  have hmark (w : State) (i : EntryId) : (w.modTank u fun k => { k with hiStopMark := some i }).readings = w.readings :=
    readings_modTank u w fun _ => rfl
  unfold judgeHi
  split
  · split
    · split
      · exact (hmark _ _).trans (readings_channelStop ..)
      · rfl
    · rfl
  · rfl

theorem readings_judgeBlind (u : TankNo) (s : State) : (judgeBlind u s).readings = s.readings := by
  have htimer (o : Option Nat) : (s.modTank u fun k => { k with blindTimer := o }).readings = s.readings :=
    readings_modTank u s fun _ => rfl
  unfold judgeBlind
  split
  · split
    · exact (removeHold_writes ..).readings_eq.trans (htimer _)
    split
    · rfl
    · exact (addHold_writes ..).readings_eq.trans (htimer _)
  · rfl

theorem evaluateReading_moves (u : TankNo) (s : State) : Moves s (evaluateReading u s) := by
  unfold evaluateReading
  split
  · split
    · exact .ite (evaluate_moves ..) (.refl s)
    · exact .refl s
  · exact .refl s

theorem readings_reconcile (u : TankNo) (s : State) : (reconcile u s).readings = s.readings := by
  have hcompare (c : Chan) (i : EntryId) (e : Entry) (v : Nat) (w : State) : (compareVolumes c i e v w).readings = w.readings := by
    have hset := (setUnmetered_writes c e.tank (decide ((e.compare w.now (w.chan c).meter.total v w.config.device.reconFloor).result = .gain))
      (w.modEntry i fun e' => { e' with
        recon := some { origin := e'.origin, figures := some (e.compare w.now (w.chan c).meter.total v w.config.device.reconFloor) }
        strikes := strikesAfter e.strikes (e.compare w.now (w.chan c).meter.total v w.config.device.reconFloor).result })).readings_eq
    unfold compareVolumes
    simp only
    split
    · exact (readings_channelStop ..).trans hset
    · exact hset
  unfold reconcile
  split
  case h_2 => rfl
  case h_1 c _ =>
    split
    case h_2 => rfl
    case h_1 i e v _ _ =>
      split
      case isFalse => rfl
      have habove := readings_judgeAbove u s
      simp only
      split
      · exact (setUnmetered_writes ..).readings_eq.trans habove
      · exact (hcompare ..).trans habove
      · exact habove

theorem takeStart_readings (c : Chan) (i : EntryId) (s : State) : (takeStart c i s).readings = s.readings := by
  have hact : (activate c i s).readings = s.readings := (evaluate_moves ..).readings
  have hopen (w : State) : (openValve c w).readings = w.readings := by
    have hupdate (f : Channel → Channel) : (updateChan c f w).readings = w.readings := by rw [updateChan_made]; rfl
    unfold openValve
    simp only
    split
    · exact (noteChan_writes ..).readings_eq.trans (hupdate _)
    · exact hupdate _
  unfold takeStart
  simp only
  split
  · split
    · exact (beginWatches_writes ..).readings_eq.trans ((hopen _).trans ((noteEntry_writes ..).readings_eq.trans hact))
    · exact hact
  · exact hact

theorem readings_startAfterLevel (u : TankNo) (b : LevelState) (s : State) : (startAfterLevel u b s).readings = s.readings := by
  unfold startAfterLevel judgeStart
  repeat' split
  all_goals first | rfl | exact takeStart_readings ..

/-- Nothing after the reading is judged touches the window, the ship's flags or the tank's own alarms (R43). -/
theorem readings_acceptReading {d : TankDecl} (hd : (s.tank u).decl = some d) (hs : s.HihiStays u d l q hihi) :
    (acceptReading u l q hi hihi s).readings = (readTaken u l q hi hihi s).readings := by
  rw [acceptReading_eq, readings_startAfterLevel, (readTold_writes ..).readings_eq, readings_reconcile, (evaluateReading_moves ..).readings,
    readings_judgeBlind, readings_judgeHi, judgeHihi_stays hd hs]


/-! ### LEVEL as a request (R35) -/

theorem level_undefined (body : List Byte) (hs : s.Hears .ship) (hd : decodeRequest .level body = some (.level u l q hi hihi))
    (hn : (s.tank u).decl = none) : Refuses (.level .ship body) .ship .level body .undefinedTank s := by
  refine refuses_of_handle (k := .level) hs rfl hd fun a b => ?_
  have hn' : ((s.withPorts a b).tank u).decl = none := hn
  simp only [handle, doLevel, tankOf_val, hn', Option.isSome_none, Bool.false_eq_true, if_false]

theorem handle_level {d : TankDecl} {p : Side} (hd : (s.tank u).decl = some d) :
    handle p (.level u l q hi hihi) s = (acceptReading u l q hi hihi s,
      .done (.level ((acceptReading u l q hi hihi s).tank u).levelState ((acceptReading u l q hi hihi s).tank u).lEff
        ((acceptReading u l q hi hihi s).tank u).suspect)) := by
  simp only [handle, doLevel, tankOf_val, hd, Option.isSome_some, if_true]

/-- The part as a LEVEL leaves it. -/
def levelEnd (body : List Byte) (u : TankNo) (l : Nat) (q : Quality) (hi hihi : Bool) (s : State) : State :=
  requestEnd .ship .level body (.level u l q hi hihi) s

theorem tankAfter_refreshLink (s : State) (u : TankNo) (l : Nat) (q : Quality) : (refreshLink .ship s).tankAfter u l q = s.tankAfter u l q := by
  rw [tankAfter_eq, tankAfter_eq, refreshLink_eq_withPorts]; rfl

theorem HihiStays_refreshLink {d : TankDecl} (h : s.HihiStays u d l q hihi) : (refreshLink .ship s).HihiStays u d l q hihi := by
  unfold State.HihiStays
  rw [tankAfter_refreshLink, refreshLink_eq_withPorts]
  exact h

theorem decl_refreshLink {d : TankDecl} (h : (s.tank u).decl = some d) : ((refreshLink .ship s).tank u).decl = some d := by
  rw [refreshLink_eq_withPorts]; exact h

theorem readings_pushReply (p : Side) (y : Reply) (s : State) : (pushReply p y s).readings = s.readings := by
  rw [pushReply_eq_withPorts]; rfl

/-- The level state, the effective level and the suspect mark are worked from the readings (R40). -/
theorem Tank.level_of_readings {j : Tank} (h : k.readings = j.readings) :
    k.levelState = j.levelState ∧ k.lEff = j.lEff ∧ k.suspect = j.suspect := by
  have hstate : k.readings.levelState = j.readings.levelState := congrArg Tank.levelState h
  have heff : k.readings.lEff = j.readings.lEff := congrArg Tank.lEff h
  have hsusp : k.readings.suspect = j.readings.suspect := congrArg Tank.suspect h
  exact ⟨hstate, heff, hsusp⟩

/-- What a LEVEL leaves of the tank's window and alarms: what its reading left of them (R43). -/
theorem levelEnd_readings {body : List Byte} {d : TankDecl} (h : s.TakesLevel body u d l q hi hihi) :
    (levelEnd body u l q hi hihi s).readings = (readTaken u l q hi hihi (refreshLink .ship s)).readings := by
  obtain ⟨-, -, hd, hh⟩ := h
  have hread := readings_acceptReading (hi := hi) (decl_refreshLink hd) (HihiStays_refreshLink hh)
  rw [levelEnd, requestEnd, effect_readings, handle_level (decl_refreshLink hd), readings_pushReply]
  dsimp only
  rw [hread]

theorem level_answered {body : List Byte} {d : TankDecl} (h : s.TakesLevel body u d l q hi hihi) :
    exec (.level .ship body) s = .next (levelEnd body u l q hi hihi s).startSending
      ∧ LevelAnswered body u s (levelEnd body u l q hi hihi s) := by
  obtain ⟨hs, hdec, hd, hh⟩ := h
  refine ⟨exec_request hs rfl hdec, ?_⟩
  have hans := answered_requestEnd (p := .ship) (k := .level) (body := body) (r := .level u l q hi hihi) (s := s)
  rw [handle_level (decl_refreshLink hd)] at hans
  have htank : ((levelEnd body u l q hi hihi s).tank u).readings = ((acceptReading u l q hi hihi (refreshLink .ship s)).tank u).readings := by
    have h1 := congrFun (levelEnd_readings ⟨hs, hdec, hd, hh⟩) u
    have h2 := congrFun (readings_acceptReading (hi := hi) (decl_refreshLink hd) (HihiStays_refreshLink hh)) u
    exact h1.trans h2.symm
  obtain ⟨hstate, heff, hsusp⟩ := Tank.level_of_readings htank
  unfold LevelAnswered
  rw [hstate, heff, hsusp]
  exact hans

/-- The tank's record after a LEVEL, field by field. -/
theorem level_tank {body : List Byte} {d : TankDecl} (h : s.TakesLevel body u d l q hi hihi) :
    ((levelEnd body u l q hi hihi s).tank u).shipHi = hi ∧ ((levelEnd body u l q hi hihi s).tank u).shipHihi = hihi
      ∧ ((levelEnd body u l q hi hihi s).tank u).declared = (s.tank u).declared
      ∧ ((levelEnd body u l q hi hihi s).tank u).window = (s.tankAfter u l q).window
      ∧ ((levelEnd body u l q hi hihi s).tank u).suspect = (s.tankAfter u l q).suspect
      ∧ ((levelEnd body u l q hi hihi s).tank u).stale = (s.tankAfter u l q).stale
      ∧ ((levelEnd body u l q hi hihi s).tank u).staleTimer = (s.tankAfter u l q).staleTimer
      ∧ ((levelEnd body u l q hi hihi s).tank u).stepRef = (s.tankAfter u l q).stepRef
      ∧ ((levelEnd body u l q hi hihi s).tank u).gaugeStep = (s.tankAfter u l q).gaugeStep := by
  have hkey : ((levelEnd body u l q hi hihi s).tank u).readings
      = ((readTaken u l q hi hihi (refreshLink .ship s)).tank u).readings := congrFun (levelEnd_readings h) u
  rw [readTaken_same, tankAfter_refreshLink] at hkey
  have hfield {α : Type} (π : Tank → α) := congrArg π hkey
  have hdecl : (s.tankAfter u l q).declared = (s.tank u).declared := by rw [tankAfter_eq]; exact Tank.decl_read ..
  exact ⟨hfield Tank.shipHi, hfield Tank.shipHihi, (hfield Tank.declared).trans hdecl, hfield Tank.window, hfield Tank.suspect,
    hfield Tank.stale, hfield Tank.staleTimer, hfield Tank.stepRef, hfield Tank.gaugeStep⟩


/-! ### LEVEL of a tank no channel serves (R35 to R44) -/

theorem activeChan_none (h : s.servingChan u = none) : s.activeChan u = none := by
  unfold State.activeChan State.servingChan at *
  rw [List.find?_eq_none] at h ⊢
  intro c hc
  have hno := h c hc
  cases he : s.activeEntry c with
  | none => simp
  | some p =>
    rw [(activeEntry_eq_some_iff.mp he).1] at hno
    exact hno

theorem acceptReading_unserved {d : TankDecl} (hd : (s.tank u).decl = some d) (hs : s.HihiStays u d l q hihi) (hn : s.servingChan u = none) :
    acceptReading u l q hi hihi s = readTold u (s.tank u) l q (readTaken u l q hi hihi s) := by
  have hserve : (readTaken u l q hi hihi s).servingChan u = none := by rw [servingChan_congr (readTaken_writes ..).entry_eq]; exact hn
  have hactive := activeChan_none hserve
  have hhi : judgeHi u hi (readTaken u l q hi hihi s) = readTaken u l q hi hihi s := by unfold judgeHi; rw [hserve]
  have heval : evaluateReading u (readTaken u l q hi hihi s) = readTaken u l q hi hihi s := by unfold evaluateReading; rw [hactive]
  have hrec : reconcile u (readTaken u l q hi hihi s) = readTaken u l q hi hihi s := by unfold reconcile; rw [hactive]
  rw [acceptReading_eq, judgeHihi_stays hd hs, hhi, judgeBlind_unserved hactive, heval, hrec]
  have htold : (readTold u (s.tank u) l q (readTaken u l q hi hihi s)).servingChan u = none := by
    rw [servingChan_congr (readTold_writes ..).entry_eq]; exact hserve
  unfold startAfterLevel
  rw [htold]
  exact ite_self _

theorem hornOnly_setGaugeStep (u : TankNo) (b : Bool) (s : State) :
    (setGaugeStep u b s).trip.HornOnly { s.trip with cautions := (setGaugeStep u b s).trip.cautions } := by
  unfold setGaugeStep
  split
  · rfl
  · exact hornOnly_setCaution (.gaugeStep u) b (s.modTank u fun k => { k with gaugeStep := b })

/-- A reading judged touches the cautions alone of the trip record, and the horn judged with them (R37, R160). -/
theorem hornOnly_judgeReading (u : TankNo) (l : Nat) (q : Quality) (s : State) :
    (judgeReading u l q s).trip.HornOnly { s.trip with cautions := (judgeReading u l q s).trip.cautions } := by
  have hsame {w : State} (h : w.trip = s.trip) : w.trip.HornOnly { s.trip with cautions := w.trip.cautions } := by rw [h]; rfl
  have hstep {w : State} (b : Bool) (h : w.trip = s.trip) :
      (setGaugeStep u b w).trip.HornOnly { s.trip with cautions := (setGaugeStep u b w).trip.cautions } := by
    rw [← h]; exact hornOnly_setGaugeStep u b w
  unfold judgeReading
  split
  · exact hsame (takeSuspect_writes ..).trip_eq
  cases q with
  | suspect => exact hsame (takeSuspect_writes ..).trip_eq
  | good =>
    simp only
    split
    · unfold takeIn
      simp only
      split
      · exact hstep false rfl
      · exact hsame rfl
    · exact hstep true (takeSuspect_writes ..).trip_eq

theorem trip_readTaken (u : TankNo) (l : Nat) (q : Quality) (hi hihi : Bool) (s : State) :
    (readTaken u l q hi hihi s).trip.HornOnly { s.trip with cautions := (readTaken u l q hi hihi s).trip.cautions } := by
  have h := hornOnly_judgeReading u l q (s.modTank u fun k => { k with shipHi := hi, shipHihi := hihi })
  have htrip : (readTaken u l q hi hihi s).trip = (judgeReading u l q (s.modTank u fun k => { k with shipHi := hi, shipHihi := hihi })).trip :=
    (judgeAbove_writes ..).trip_eq
  rw [htrip]
  exact h

/-- The part after a LEVEL of a tank no channel serves: the tank and the cautions, and no more. -/
theorem level_unserved {body : List Byte} {d : TankDecl} (h : s.TakesLevel body u d l q hi hihi) (hn : s.servingChan u = none) :
    EndedKept s (levelEnd body u l q hi hihi s)
      ∧ levelEnd body u l q hi hihi s = { s with
          tanks := s.tanks.set u ((levelEnd body u l q hi hihi s).tank u), trip := (levelEnd body u l q hi hihi s).trip
          portB := (levelEnd body u l q hi hihi s).portB, portS := (levelEnd body u l q hi hihi s).portS }
      ∧ (levelEnd body u l q hi hihi s).trip.HornOnly { s.trip with cautions := (levelEnd body u l q hi hihi s).trip.cautions }
      ∧ (levelEnd body u l q hi hihi s).tank u = (readTaken u l q hi hihi (refreshLink .ship s)).tank u := by
  obtain ⟨hs, -, hd, hh⟩ := h
  have hd' := decl_refreshLink hd
  have hn' : (refreshLink .ship s).servingChan u = none := by rw [refreshLink_eq_withPorts]; exact hn
  have hacc := acceptReading_unserved (hi := hi) hd' (HihiStays_refreshLink hh) hn'
  have hhandle := handle_level (q := q) (l := l) (hi := hi) (hihi := hihi) (p := .ship) hd'
  have hwrites := (readTaken_writes u l q hi hihi (refreshLink .ship s)).then
    (readTold_writes u ((refreshLink .ship s).tank u) l q _) (R := [.tanks, .trip, .notices])
  rw [← hacc] at hwrites
  have hev : (acceptReading u l q hi hihi (refreshLink .ship s)).evals = [] := by
    rw [hwrites.evals_eq, refreshLink_eq_withPorts]; exact hs.1.2
  have htold := readTold_writes u ((refreshLink .ship s).tank u) l q (readTaken u l q hi hihi (refreshLink .ship s))
  rw [← hacc] at htold
  have hend := requestEnd_quiet (k := .level) (body := body) hhandle hev
  rw [pushReply_eq_withPorts] at hend
  have hended : EndedKept s (levelEnd body u l q hi hihi s) :=
    ended_requestEnd_quiet (by rw [hhandle]; dsimp only; rw [hev]) fun p => by rw [hhandle]; dsimp only; rw [hwrites.ended_eq (q := p)]
  have hother (x : TankNo) (hx : u ≠ x) : (readTaken u l q hi hihi (refreshLink .ship s)).tank x = s.tank x := by
    rw [tank_readTaken_other u l q hi hihi _ hx, refreshLink_eq_withPorts]; rfl
  have hhorn := trip_readTaken u l q hi hihi (refreshLink .ship s)
  rw [show (refreshLink .ship s).trip = s.trip by rw [refreshLink_eq_withPorts]; rfl] at hhorn
  have heq := refreshLink_eq_withPorts .ship s
  rw [show requestEnd .ship .level body (.level u l q hi hihi) s = levelEnd body u l q hi hihi s from rfl] at hend
  generalize acceptReading u l q hi hihi (refreshLink .ship s) = b at hwrites htold hend
  generalize readTaken u l q hi hihi (refreshLink .ship s) = a at htold hother hhorn ⊢
  generalize refreshLink .ship s = v at hwrites heq
  generalize levelEnd body u l q hi hihi s = t at hend hended ⊢
  have hplant := hwrites.only_plant
  have htanks : b.tanks = s.tanks.set u (b.tank u) := by
    refine tanks_ext (s := s.setTank u (b.tank u)) fun x => ?_
    rw [tank_setTank]
    split
    case isTrue hx => rw [hx]
    case isFalse hx => rw [htold.tank_eq, hother x hx]
  rw [hwrites.channels_eq, hwrites.plan_eq, hwrites.header_eq, hwrites.queue_eq, hwrites.evals_eq, htanks] at hplant
  have hmade : t = { s with tanks := s.tanks.set u (b.tank u), trip := b.trip, portB := t.portB, portS := t.portS } := by
    have hports {x y : Port} (h : t = b.withPorts x y) : t = { b with portB := t.portB, portS := t.portS } := by subst h; rfl
    have hfrom : b = { s with tanks := s.tanks.set u (b.tank u), trip := b.trip, portB := b.portB, portS := b.portS } := by
      rw [heq] at hplant; exact hplant
    exact (hports hend).trans (congrArg (fun w : State => { w with portB := t.portB, portS := t.portS }) hfrom)
  have htank : t.tank u = b.tank u := by rw [hmade]; simp [State.tank, Vector.get_eq_getElem]
  have htrip : t.trip = b.trip := by rw [hmade]
  refine ⟨hended, by rw [htank, htrip]; exact hmade, ?_, ?_⟩
  · rw [htrip, htold.trip_eq]; exact hhorn
  · rw [htank, htold.tank_eq]

/-! PROOF. What a LEVEL leaves of a tank, and of a channel it makes blind (R35 to R47). -/


variable {s t v : State} {u x : TankNo} {c : Chan} {k : Tank} {q : Quality} {l n now timer : Nat} {hi hihi : Bool} {body : List Byte} {d : TankDecl}

/-! ### The record after a reading that joins, and after one that flushes (R36 to R39) -/

theorem Tank.read_good (hl : l ≤ topLevelMm) (hok : k.stepOk l = true) : k.read now timer l .good = k.takenIn now timer l := by
  simp only [Tank.read, if_neg (Nat.not_lt.mpr hl), hok, if_true]

theorem Tank.gaugeStep_takenIn (k : Tank) (now timer l : Nat) :
    (k.takenIn now timer l).gaugeStep = (k.gaugeStep && decide ((k.takenIn now timer l).window.length ≠ 8)) := by
  unfold Tank.takenIn
  split
  case isTrue h => simp [h]
  case isFalse h => rw [decide_eq_true h, Bool.and_true]; rfl

theorem Tank.takenIn_joined (k : Tank) (now timer l : Nat) :
    k.takenIn now timer l = { k.joined now timer l with gaugeStep := (k.takenIn now timer l).gaugeStep } := by
  unfold Tank.takenIn
  split <;> rfl

/-- A reading that is not taken in flushes the window (R36, R37, R42). -/
theorem Tank.read_flushes (h : q = .suspect ∨ topLevelMm < l ∨ k.stepOk l = false) :
    k.read now timer l q = { k.suspected (if q = .suspect ∧ l ≤ topLevelMm then .ship else .watch) with
      gaugeStep := if q = .good ∧ l ≤ topLevelMm then true else k.gaugeStep } := by
  unfold Tank.read
  by_cases hl : topLevelMm < l
  · have hn : ¬ l ≤ topLevelMm := Nat.not_le.mpr hl
    simp only [hl, hn, if_true, and_false, if_false]
    rfl
  have hle : l ≤ topLevelMm := Nat.not_lt.mp hl
  cases q with
  | suspect => simp only [hl, hle, if_true, if_false, and_self, reduceCtorEq, false_and]; rfl
  | good =>
    have hno : k.stepOk l = false := by simpa [hl] using h
    simp [hl, hle, hno]

theorem Tank.blindTimer_read (k : Tank) (now timer l : Nat) (q : Quality) : (k.read now timer l q).blindTimer = k.blindTimer := by
  unfold Tank.read Tank.takenIn
  repeat' split
  all_goals rfl

/-! ### The alarms and the above-table flag with no level known (R31, R44) -/

theorem judgeAbove_unknown (h : (s.tank u).lEff = none) : judgeAbove u s = s := by
  unfold judgeAbove
  rw [h]
  split
  case h_1 h => cases h
  case h_2 => rfl

theorem Tank.judgeOwn_unknown (h : k.lEff = none) : k.judgeOwn = k := by
  unfold Tank.judgeOwn
  rw [h]

theorem tank_readTaken_unknown (h : (s.tankAfter u l q).lEff = none) (hi hihi : Bool) :
    (readTaken u l q hi hihi s).tank u = (s.tankAfter u l q).flagged hi hihi := by
  have hread : ((judgeReading u l q (s.modTank u fun k => { k with shipHi := hi, shipHihi := hihi })).tank u)
      = (s.tankAfter u l q).flagged hi hihi := by
    have hflag := Tank.read_flagged (s.tank u) hi hihi s.now (s.expiry s.config.device.staleTime) l q
    rw [tank_judgeReading, if_pos rfl, tank_modTank, if_pos rfl, tankAfter_eq, ← hflag]
    rfl
  have hunknown : ((s.tankAfter u l q).flagged hi hihi).lEff = none := h
  have hown : ((judgeReading u l q (s.modTank u fun k => { k with shipHi := hi, shipHihi := hihi })).modTank u Tank.judgeOwn).tank u
      = (s.tankAfter u l q).flagged hi hihi := by
    rw [tank_modTank, if_pos rfl, hread, Tank.judgeOwn_unknown hunknown]
  rw [readTaken, judgeAbove_unknown (by rw [hown]; exact hunknown), hown]

/-! ### A channel made blind by a reading (R47) -/

/-- The part after a reading that leaves no level known and no HI assertion: BLIND judged, and the notices. -/
theorem acceptReading_unknown (hd : (s.tank u).decl = some d) (hs : s.HihiStays u d l q hihi) (hk : (s.tankAfter u l q).levelState.known = false)
    (hown : (s.tank u).ownHi = false) :
    acceptReading u l q false hihi s = readTold u (s.tank u) l q (judgeBlind u (readTaken u l q false hihi s)) := by
  have hread := readTaken_level u l q false hihi s
  have hlow : ((readTaken u l q false hihi s).tank u).hi = false := by
    have hship : ((readTaken u l q false hihi s).tank u).shipHi = false := by rw [readTaken_same]
    have hnone : ((readTaken u l q false hihi s).tank u).ownHi = false := by
      rw [(readTaken_own hd l q false hihi).1, Tank.lEff_unknown hk]; exact hown
    rw [Tank.hi, hship, hnone]; rfl
  have hblind : ((judgeBlind u (readTaken u l q false hihi s)).tank u).levelState = (s.tankAfter u l q).levelState := by
    obtain ⟨b, hb⟩ := tank_judgeBlind (u := u) (readTaken u l q false hihi s)
    rw [hb]; exact hread.1
  have htold : ((readTold u (s.tank u) l q (judgeBlind u (readTaken u l q false hihi s))).tank u).levelState
      = (s.tankAfter u l q).levelState := by rw [(readTold_writes ..).tank_eq]; exact hblind
  rw [acceptReading_eq, judgeHihi_stays hd hs, judgeHi_none hlow, evaluateReading_unknown (by rw [hblind]; exact hk),
    reconcile_unknown (by rw [hblind]; exact hk), startAfterLevel_unsettled _ (by rw [htold]; exact LevelState.unsettled_of_unknown hk)]

/-- A channel that a LEVEL leaves asking for nothing stands as the reading left it, and its tank with it. -/
theorem level_spares (hd : (s.tank u).decl = some d) {b : State} (hb : acceptReading u l q hi hihi (refreshLink .ship s) = b)
    (ha : (b.chan c).asks = false) (hf : (b.chan c).FlowsByGrant) (hv : c ∉ b.evals) (hserved : b.ServedBy u c) :
    (levelEnd body u l q hi hihi s).chan c = b.chan c ∧ (levelEnd body u l q hi hihi s).tank u = b.tank u := by
  have hhandle := handle_level (q := q) (l := l) (hi := hi) (hihi := hihi) (p := .ship) (decl_refreshLink hd)
  rw [levelEnd, requestEnd, hhandle]
  dsimp only
  rw [hb]
  generalize hy : pushReply .ship _ b = y
  have hplain : y.chan c = b.chan c ∧ y.evals = b.evals ∧ y.tank u = b.tank u ∧ y.entry = b.entry := by
    rw [← hy, pushReply_eq_withPorts]; exact ⟨rfl, rfl, rfl, rfl⟩
  obtain ⟨hchan, hevals, htank, hentry⟩ := hplain
  have ha' : (y.chan c).asks = false := by rw [hchan]; exact ha
  have hf' : (y.chan c).FlowsByGrant := by rw [hchan]; exact hf
  have hv' : c ∉ y.evals := by rw [hevals]; exact hv
  exact ⟨(effect_spares (f := fun _ => y) ha' hf' hv').1.trans hchan,
    (effect_tank (f := fun _ => y) ha' hf' hv' (hserved.congr hentry)).trans htank⟩

/-- BLIND judged where no level is known: the reason is on, the grant 0, the valve as it was, and the blind timer runs (R47). -/
theorem judgeBlind_stands (hc : s.activeChan u = some c) (hk : (s.tank u).levelState.known = false) (hf : (s.chan c).FlowsByGrant) :
    ((judgeBlind u s).chan c).asks = false ∧ ((judgeBlind u s).chan c).FlowsByGrant ∧ (c ∉ s.evals → c ∉ (judgeBlind u s).evals)
      ∧ ((judgeBlind u s).chan c).holds.blind = true ∧ ((judgeBlind u s).chan c).grant = 0
      ∧ ((s.chan c).command = (s.chan c).state.command → ((judgeBlind u s).chan c).command = (s.chan c).command)
      ∧ ((judgeBlind u s).chan c).state = (if (s.chan c).state = .flowing then .held else (s.chan c).state)
      ∧ ((judgeBlind u s).tank u).blindTimer = (if (s.chan c).holds.blind then (s.tank u).blindTimer
          else some (s.expiry s.config.device.blindLimit)) := by
  have hstill (hn : (s.chan c).state ≠ .flowing) : (s.chan c).grant = 0 := Nat.eq_zero_of_not_pos fun h => hn (hf.1.mp h)
  cases hb : (s.chan c).holds.blind with
  | true =>
    have hsame : judgeBlind u s = s := by
      unfold judgeBlind
      simp only [hc, hk, hb, Bool.false_eq_true, if_false, if_true]
    have hno : (s.chan c).state ≠ .flowing := fun h => by rw [hf.2.1 h] at hb; cases hb
    rw [hsame]
    exact ⟨Channel.asks_of_holds (r := .blind) hno hb (by decide), hf, id, hb, hstill hno, fun _ => rfl, (if_neg hno).symm, (if_pos rfl).symm⟩
  | false =>
    have hadd := judgeBlind_unknown hc hk hb
    generalize hw : (s.modTank u fun k => { k with blindTimer := some (s.expiry s.config.device.blindLimit) }) = w at hadd
    have hchan : w.chan c = s.chan c := by rw [← hw]; rfl
    have hevals : w.evals = s.evals := by rw [← hw]; rfl
    have htimer : (w.tank u).blindTimer = some (s.expiry s.config.device.blindLimit) := by rw [← hw, tank_modTank, if_pos rfl]
    have hr : (s.chan c).holds.has .blind = false := hb
    obtain ⟨hheld, hev, hasks, hflows⟩ := addHold_stands (s := w) (c := c) (r := .blind) (by rw [hchan]; exact hf) (by rw [hchan]; exact hr)
      (by decide)
    rw [hadd]
    refine ⟨hasks, hflows, by rw [← hevals]; exact hev, ?_⟩
    rw [hheld, hchan, Channel.holdWith_fresh hr, (addHold_writes c .blind w).tank_eq, htimer]
    split
    case isTrue h => exact ⟨rfl, rfl, fun hcmd => by rw [hcmd, h]; rfl, rfl, rfl⟩
    case isFalse h => exact ⟨rfl, hstill h, fun _ => rfl, rfl, rfl⟩

theorem level_blind (h : s.TakesLevel body u d l q false hihi) (hg : s.GrantsOk) (hshare : s.TanksShared) (hc : s.activeChan u = some c)
    (hk : (s.tankAfter u l q).levelState.known = false) (hown : (s.tank u).ownHi = false) :
    ((levelEnd body u l q false hihi s).chan c).holds.blind = true ∧ ((levelEnd body u l q false hihi s).chan c).grant = 0
      ∧ ((s.chan c).command = (s.chan c).state.command → ((levelEnd body u l q false hihi s).chan c).command = (s.chan c).command)
      ∧ ((levelEnd body u l q false hihi s).chan c).state = (if (s.chan c).state = .flowing then .held else (s.chan c).state)
      ∧ ((levelEnd body u l q false hihi s).tank u).blindTimer = (if (s.chan c).holds.blind then (s.tank u).blindTimer
          else some (s.expiry s.config.device.blindLimit)) := by
  obtain ⟨hs, -, hd, hh⟩ := h
  have hk' : ((refreshLink .ship s).tankAfter u l q).levelState.known = false := by rw [tankAfter_refreshLink]; exact hk
  have hplain : (refreshLink .ship s).entry = s.entry ∧ (refreshLink .ship s).chan c = s.chan c ∧ (refreshLink .ship s).evals = s.evals
      ∧ ((refreshLink .ship s).tank u) = s.tank u ∧ (refreshLink .ship s).expiry = s.expiry ∧ (refreshLink .ship s).config = s.config := by
    rw [refreshLink_eq_withPorts]; exact ⟨rfl, rfl, rfl, rfl, rfl, rfl⟩
  have hacc := acceptReading_unknown (decl_refreshLink hd) (HihiStays_refreshLink hh) hk' (by rw [hplain.2.2.2.1]; exact hown)
  have hread := readTaken_writes u l q false hihi (refreshLink .ship s)
  have hlevel := (readTaken_level u l q false hihi (refreshLink .ship s)).1
  have htimer : ((readTaken u l q false hihi (refreshLink .ship s)).tank u).blindTimer = (s.tank u).blindTimer := by
    rw [readTaken_same, tankAfter_refreshLink, tankAfter_eq]
    exact Tank.blindTimer_read ..
  have hspare := level_spares (c := c) (body := body) hd hacc
  generalize levelEnd body u l q false hihi s = y at hspare ⊢
  generalize readTaken u l q false hihi (refreshLink .ship s) = r at hread hlevel htimer hspare
  generalize refreshLink .ship s = w at hplain hread hlevel hk' hspare
  obtain ⟨hentry, hchan, hevals, -, hexp, hconf⟩ := hplain
  have hrchan : r.chan c = s.chan c := (congrFun hread.chan_eq c).trans hchan
  have hractive : r.activeChan u = some c := by rw [activeChan_congr (hread.entry_eq.trans hentry)]; exact hc
  obtain ⟨hasks, hflows, hev, hfacts⟩ := judgeBlind_stands (s := r) hractive (by rw [hlevel]; exact hk') (by rw [hrchan]; exact hg.2.2 c)
  have htold := readTold_writes u (w.tank u) l q (judgeBlind u r)
  obtain ⟨i, e, he, rfl⟩ := activeChan_chan hc
  have hserved : r.ServedBy e.tank c := (hshare.servedBy (activeEntry_eq_some_iff.mp he).1).congr (hread.entry_eq.trans hentry)
  have hblind := judgeBlind_writes e.tank r
  obtain ⟨hy, hytank⟩ := hspare (by rw [htold.chan_eq]; exact hasks) (by rw [htold.chan_eq]; exact hflows)
    (by rw [htold.evals_eq]; exact hev (by rw [hread.evals_eq, hevals, hs.1.2]; exact List.not_mem_nil))
    (htold.served (hblind.served hserved))
  have hrexp : r.expiry r.config.device.blindLimit = s.expiry s.config.device.blindLimit := by
    rw [hread.config_eq, hconf, ← hexp]; unfold State.expiry; rw [hread.now_eq]
  rw [hrchan, htimer, hrexp] at hfacts
  rw [hy, hytank, htold.chan_eq, htold.tank_eq]
  exact hfacts

/-- Settles O42: the reading is judged on the tank's record (`Tank.read`), and what follows it leaves the window (`level_tank`); where no
channel serves the tank nothing follows it (`level_unserved`), and where its channel is left without a level, BLIND goes on (`level_blind`). -/
theorem levelReadingJoinsOrFlushesTheWindow : Obligations.LevelReadingJoinsOrFlushesTheWindow := by
  refine ⟨fun body u l q hi hihi s hs hdec hn => level_undefined body hs hdec hn, ?_⟩
  intro body u d l q hi hihi s h hn
  obtain ⟨hexec, hans⟩ := level_answered h
  obtain ⟨hended, hmade, hhorn, htank⟩ := level_unserved h hn
  obtain ⟨hhi, hhihi, hdecl, hwindow, hsuspect, hstale, htimer, hstep, hgauge⟩ := level_tank h
  have hown := readTaken_own (decl_refreshLink h.2.2.1) l q hi hihi
  rw [← htank, tankAfter_refreshLink] at hown
  have hlevel := readTaken_level u l q hi hihi (refreshLink .ship s)
  rw [← htank, tankAfter_refreshLink] at hlevel
  refine ⟨_, hexec, hans, hended, hmade, hhorn, hhi, hhihi, hdecl, fun hgood hl hok => ?_, fun hflush => ?_, ?_⟩
  · subst hgood
    have hread : s.tankAfter u l .good = (s.tank u).takenIn s.now (s.expiry s.config.device.staleTime) l := by
      rw [tankAfter_eq, Tank.read_good hl hok]
    rw [hwindow, hsuspect, hstale, htimer, hstep, hgauge, hread, Tank.gaugeStep_takenIn, Tank.takenIn_joined]
    refine ⟨rfl, rfl, rfl, rfl, rfl, rfl, fun x hx => ?_⟩
    rw [hlevel.2] at hx
    rw [hown.1, hown.2, hx]
    exact ⟨rfl, rfl⟩
  · have hread := Tank.read_flushes (now := s.now) (timer := s.expiry s.config.device.staleTime) hflush
    rw [← tankAfter_eq] at hread
    have hunknown : (s.tankAfter u l q).lEff = none := by rw [hread]; rfl
    have habove : ((levelEnd body u l q hi hihi s).tank u).aboveTable = (s.tankAfter u l q).aboveTable := by
      rw [htank, tank_readTaken_unknown (by rw [tankAfter_refreshLink]; exact hunknown), tankAfter_refreshLink]; rfl
    rw [hunknown] at hown
    have hrefresh : ((refreshLink .ship s).tank u) = s.tank u := by rw [refreshLink_eq_withPorts]; rfl
    rw [hwindow, hsuspect, hstale, htimer, hstep, hgauge, habove, hlevel.1, hlevel.2, hown.1, hown.2, hrefresh, hread]
    exact ⟨rfl, rfl, rfl, rfl, rfl, rfl, rfl, rfl, rfl, rfl, rfl⟩
  · intro body u d l q hi hihi s h hg hshare
    obtain ⟨hexec, hans⟩ := level_answered h
    obtain ⟨hhi, hhihi, hdecl, hwindow, hsuspect, hstale, htimer, hstep, hgauge⟩ := level_tank h
    refine ⟨_, hexec, hans, hhi, hhihi, hdecl, hwindow, hsuspect, hstale, htimer, hstep, hgauge, fun c hc hk hlow hown => ?_⟩
    subst hlow
    exact level_blind h hg hshare hc hk hown

/-! SUPPORT. An end set on a channel's current entry, and the close it brings (R10, R69, R81, R82). -/


variable {P : List Part} {s t v : State} {u x : TankNo} {c d : Chan} {i j : EntryId} {e f : Entry} {k l : Channel} {r : EndReason} {n m : Nat}

/-! ### The end set (R10, R69) -/

theorem entry_markEnd (he : s.entry i = some e) (hn : e.endPending = none) (hs : e.state = .await ∨ e.state = .active) (j : EntryId) :
    (markEnd i r s).entry j = if i = j then some (e.withEnd r) else s.entry j := by
  have hguard : (e.endPending.isNone && (e.state == .await || e.state == .active)) = true := by
    rcases hs with h | h <;> simp [hn, h]
  unfold markEnd
  rw [he]
  simp only [hguard, if_true]
  rw [entry_clearSlug, (noteEntry_writes ..).entry_eq, entry_modEntry, entry_modEntry, if_pos rfl, he]
  split <;> rfl

/-- A channel's record with SETTLING off its set, where the entry's slug is settling (R69). -/
def Channel.unsettled (k : Channel) (e : Entry) : Channel := if e.settling then { k with holds := k.holdsWithout [.settling] } else k

theorem chan_clearSlug (he : s.entry i = some e) (d : Chan) :
    (clearSlug i s).chan d = if e.chan = d then (s.chan d).unsettled e else s.chan d := by
  have hmod (w : Entry → Entry) : (s.modEntry i w).chan = s.chan := rfl
  unfold clearSlug Channel.unsettled
  simp only [he]
  split
  case h_2 hslug =>
    have hno : e.settling = false := by unfold Entry.settling; rw [hslug]
    simp [hno]
  case h_1 =>
    cases hset : e.settling with
    | false => simp only [Bool.false_eq_true, if_false, hmod, ite_self]
    | true =>
      simp only [if_true, chan_removeHolds, hmod]
      split
      case isTrue h => subst h; rfl
      case isFalse => rfl

theorem chan_markEnd (he : s.entry i = some e) (hn : e.endPending = none) (hs : e.state = .await ∨ e.state = .active) (d : Chan) :
    (markEnd i r s).chan d = if e.chan = d then (s.chan d).unsettled e else s.chan d := by
  have hguard : (e.endPending.isNone && (e.state == .await || e.state == .active)) = true := by
    rcases hs with h | h <;> simp [hn, h]
  have hmade : (noteEntry .endPending i (s.modEntry i fun e => { e with endPending := some r })).entry i = some { e with endPending := some r } := by
    rw [(noteEntry_writes ..).entry_eq, entry_modEntry, if_pos rfl, he]; rfl
  unfold markEnd
  rw [he]
  simp only [hguard, if_true]
  rw [chan_clearSlug hmade, (noteEntry_writes ..).chan_eq]
  rfl

/-- What SETTLING off the set leaves of a channel. -/
theorem Channel.unsettled_eq (k : Channel) (e : Entry) : k.unsettled e = { k with holds := (k.unsettled e).holds } := by
  unfold Channel.unsettled
  split <;> rfl

/-- The parts an end set writes: its entry, its channel's holds and the notices. -/
theorem markEnd_made (i : EntryId) (r : EndReason) (s : State) : markEnd i r s = { s with
    plan := (markEnd i r s).plan, channels := (markEnd i r s).channels, portB := (markEnd i r s).portB, portS := (markEnd i r s).portS } := by
  have h := (markEnd_writes i r s).only_plant
  have hw := markEnd_writes i r s
  rw [hw.tanks_eq, hw.header_eq, hw.queue_eq, hw.trip_eq, hw.evals_eq] at h
  exact h

/-! ### The close (R81, R82) -/

/-- A channel closing, as an end's close leaves it of the record `k` (R81, R82). -/
theorem Channel.valveClosed_closing (hw : k.watched = true) (n m : Nat) : (k.valveClosed n m).state = .closing ∧ (k.valveClosed n m).grant = 0 := by
  unfold Channel.watched at hw
  unfold Channel.valveClosed
  cases h : k.state <;> simp [h] at hw <;> exact ⟨rfl, rfl⟩

theorem Channel.asks_of_closing (hs : k.state = .closing) : k.asks = false := by unfold Channel.asks; rw [hs]

theorem Channel.flowsByGrant_of_closing (hs : k.state = .closing) (hg : k.grant = 0) : k.FlowsByGrant :=
  Channel.flowsByGrant_of_resting (by rw [hs]; unfold ChState.resting; decide) hg

/-- A channel whose valve is open or opening closes, and the regrant gives it nothing. -/
theorem chan_closeChannel (hw : (s.chan c).watched = true) : (closeChannel c s).chan c
    = (s.chan c).valveClosed (s.expiry (strokeTimeout (s.chanConfig c).strokeTime)) (s.expiry (reversalTimeout (s.spentOpening c))) := by
  have hshut : (closeValve c s).chan c
      = (s.chan c).valveClosed (s.expiry (strokeTimeout (s.chanConfig c).strokeTime)) (s.expiry (reversalTimeout (s.spentOpening c))) := by
    rw [chan_closeValve, if_pos rfl]
  have hcall (w : State) : (if (s.chan c).calling then headerUncall w else w).chan c = w.chan c := by
    split
    · rw [(headerUncall_writes w).chan_eq]
    · rfl
  obtain ⟨hclosing, hgrant⟩ := Channel.valveClosed_closing hw (s.expiry (strokeTimeout (s.chanConfig c).strokeTime))
    (s.expiry (reversalTimeout (s.spentOpening c)))
  unfold closeChannel
  simp only [hw, if_true]
  rw [(regrant_spares _ c _).chan (by rw [hcall, hshut]; exact Channel.asks_of_closing hclosing)
    (by rw [hcall, hshut]; exact Channel.flowsByGrant_of_closing hclosing hgrant), hcall, hshut]

theorem closeChannel_closing (hw : (s.chan c).watched = true) :
    ((closeChannel c s).chan c).state = .closing ∧ ((closeChannel c s).chan c).asks = false ∧ ((closeChannel c s).chan c).FlowsByGrant := by
  rw [chan_closeChannel hw]
  obtain ⟨hclosing, hgrant⟩ := Channel.valveClosed_closing hw (s.expiry (strokeTimeout (s.chanConfig c).strokeTime))
    (s.expiry (reversalTimeout (s.spentOpening c)))
  exact ⟨hclosing, Channel.asks_of_closing hclosing, Channel.flowsByGrant_of_closing hclosing hgrant⟩

/-- Nothing closing is handed on for evaluation (R111). -/
theorem evals_closeChannel (hw : (s.chan c).watched = true) (hv : c ∉ s.evals) : c ∉ (closeChannel c s).evals := by
  have hshut := Channel.valveClosed_closing hw (s.expiry (strokeTimeout (s.chanConfig c).strokeTime)) (s.expiry (reversalTimeout (s.spentOpening c)))
  have hmade : ((closeValve c s).chan c).state = .closing ∧ ((closeValve c s).chan c).grant = 0 := by
    rw [chan_closeValve, if_pos rfl]; exact hshut
  have hcall : Writes [.chans, .header, .notices] s (if (s.chan c).calling then headerUncall (closeValve c s) else closeValve c s) :=
    Writes.ite ((closeValve_writes c s).then (headerUncall_writes _)) (closeValve_writes c s).mono
  have hchan : (if (s.chan c).calling then headerUncall (closeValve c s) else closeValve c s).chan c = (closeValve c s).chan c := by
    split
    · rw [(headerUncall_writes _).chan_eq]
    · rfl
  unfold closeChannel
  simp only [hw, if_true]
  exact (regrant_spares _ c _).evals (by rw [hchan]; exact Channel.asks_of_closing hmade.1)
    (by rw [hchan]; exact Channel.flowsByGrant_of_closing hmade.1 hmade.2) (by rw [hcall.evals_eq]; exact hv)

/-- The record of a channel that closes for an end, of the record before and the stroke times (R10, R81, R82). -/
theorem Channel.valveClosed_items (hw : k.watched = true) (n m : Nat) :
    (k.valveClosed n m).command = .toClose ∧ (k.valveClosed n m).holds.sourceLow = false ∧ (k.valveClosed n m).authorised = k.authorised
      ∧ (k.valveClosed n m).lastStop = k.lastStop ∧ (k.valveClosed n m).hose = k.hose
      ∧ (k.state ≠ .opening → (k.valveClosed n m).strokeTimer = some n ∧ (k.valveClosed n m).holds.noGrant = false
          ∧ (k.valveClosed n m).holds.headerWait = false ∧ (k.valveClosed n m).holds.noPump = false)
      ∧ (k.state = .opening → (k.valveClosed n m).strokeTimer = some m) := by
  have hoff (rs : List HoldReason) (q : HoldReason) (hq : q ∈ rs) : (k.holds.minus rs).has q = false := by
    rw [HoldSet.has_minus]; simp [hq]
  unfold Channel.watched at hw
  unfold Channel.valveClosed
  cases h : k.state with
  | masked | idle | closing | fault => simp [h] at hw
  | opening => exact ⟨rfl, hoff _ .sourceLow (by decide), rfl, rfl, rfl, fun hn => absurd rfl hn, fun _ => rfl⟩
  | flowing | held =>
    exact ⟨rfl, hoff _ .sourceLow (by decide), rfl, rfl, rfl,
      fun _ => ⟨rfl, hoff _ .noGrant (by decide), hoff _ .headerWait (by decide), hoff _ .noPump (by decide)⟩, fun hn => nomatch hn⟩

/-- A channel of `t` that is that of `s`, but for SETTLING, with its valve closed has closed for an end. -/
theorem ClosesForAnEnd.of_closed (hw : (s.chan c).watched = true)
    (h : t.chan c = ((s.chan c).unsettled e).valveClosed (s.expiry (strokeTimeout (s.chanConfig c).strokeTime))
      (s.expiry (reversalTimeout (s.spentOpening c)))) : ClosesForAnEnd c s t := by
  have hsame := (s.chan c).unsettled_eq e
  have hw' : ((s.chan c).unsettled e).watched = true := by rw [hsame]; exact hw
  obtain ⟨hclosing, hgrant⟩ := Channel.valveClosed_closing hw' (s.expiry (strokeTimeout (s.chanConfig c).strokeTime))
    (s.expiry (reversalTimeout (s.spentOpening c)))
  obtain ⟨hcmd, hlow, hauth, hstop, hhose, hfull, hrev⟩ := Channel.valveClosed_items hw'
    (s.expiry (strokeTimeout (s.chanConfig c).strokeTime)) (s.expiry (reversalTimeout (s.spentOpening c)))
  rw [← h] at *
  have hstate : ((s.chan c).unsettled e).state = (s.chan c).state := by rw [hsame]
  rw [hstate] at hfull hrev
  refine ⟨hclosing, hcmd, hgrant, hlow, hauth.trans (by rw [hsame]), hstop.trans (by rw [hsame]), hhose.trans (by rw [hsame]), hfull,
    fun y ho hy => ?_⟩
  rw [hrev ho, State.spentOpening, hy]
  rfl

/-! ### An end cause on an ACTIVE entry whose valve is open or opening (R10) -/

/-- The end set and the close it brings, in the state they leave: the closing channel has its valve on its way, so no end is applied. -/
theorem endCurrent_active (hc : s.current c = some (i, e)) (ha : e.state = .active) (hn : e.endPending = none)
    (hw : (s.chan c).watched = true) : endCurrent c i r s = closeChannel c (markEnd i r s) := by
  obtain ⟨he, hchan, -⟩ := current_live hc
  have hsame := (s.chan c).unsettled_eq e
  have hmark : ((markEnd i r s).chan c) = (s.chan c).unsettled e := by rw [chan_markEnd he hn (.inr ha), if_pos hchan]
  have hclosing := (closeChannel_closing (c := c) (s := markEnd i r s) (by rw [hmark, hsame]; exact hw)).1
  have hstroke : ((closeChannel c (markEnd i r s)).chan c).stroking = true := by unfold Channel.stroking; rw [hclosing]
  unfold endCurrent
  rw [he]
  simp only [hn, Option.isSome_none, Bool.false_eq_true, if_false, ha, if_true]
  unfold settleEnd
  split
  · rw [hstroke]; simp
  · rfl

/-- An end set with its close: the entry, the channel, and nothing handed on for it. -/
theorem markClosed (hc : s.current c = some (i, e)) (ha : e.state = .active) (hn : e.endPending = none) (hw : (s.chan c).watched = true) :
    (closeChannel c (markEnd i r s)).entry i = some (e.withEnd r) ∧ ClosesForAnEnd c s (closeChannel c (markEnd i r s))
      ∧ (c ∉ s.evals → c ∉ (closeChannel c (markEnd i r s)).evals) := by
  obtain ⟨he, hchan, -⟩ := current_live hc
  have hsame := (s.chan c).unsettled_eq e
  have hmark : ((markEnd i r s).chan c) = (s.chan c).unsettled e := by rw [chan_markEnd he hn (.inr ha), if_pos hchan]
  have hw' : ((markEnd i r s).chan c).watched = true := by rw [hmark, hsame]; exact hw
  have hmade := markEnd_made i r s
  have hexp : (markEnd i r s).expiry = s.expiry := by rw [hmade]; rfl
  have hconf : (markEnd i r s).chanConfig = s.chanConfig := by rw [hmade]; rfl
  have hspent : (markEnd i r s).spentOpening c = s.spentOpening c := by
    unfold State.spentOpening
    rw [hmark, hsame, hmade]
  refine ⟨?_, ?_, fun hv => evals_closeChannel hw' (by rw [(markEnd_writes i r s).evals_eq]; exact hv)⟩
  · rw [(closeChannel_writes ..).entry_eq, entry_markEnd he hn (.inr ha), if_pos rfl]
  · refine .of_closed (e := e) hw ?_
    rw [chan_closeChannel hw', hexp, hconf, hspent, hmark]

/-! SUPPORT. What an end cause and the tests at a pulse leave of the entries (R10, R11, R60, R67). -/


variable {P : List Part} {s t v : State} {u x : TankNo} {c d : Chan} {i j : EntryId} {e f : Entry} {k l : Channel} {r : EndReason} {q : HoldReason}
  {n m : Nat}

/-! ### The courses of the entries -/

theorem Entry.state_of_fixed (h : f.fixed = e.fixed) : f.state = e.state := by
  have hstate := congrArg Entry.state h
  exact hstate

/-- An end cause on the current entry, not QUEUED: it goes on as its channel's current entry, or its end is applied. -/
theorem endCurrent_outcome (hc : s.current c = some (i, e)) (hq : e.state ≠ .queued) : (endCurrent c i r s).course = s.course
    ∧ ((∃ f, (endCurrent c i r s).current c = some (i, f) ∧ f.fixed = e.fixed)
      ∨ ∃ f, (endCurrent c i r s).entry i = some f ∧ f.state.terminal = true) := by
  obtain ⟨he, -, -⟩ := current_live hc
  unfold endCurrent
  simp only [he]
  split
  case isTrue => exact ⟨rfl, .inl ⟨e, hc, rfl⟩⟩
  case isFalse =>
    have hfixed : (if e.state = .active then closeChannel c (markEnd i r s) else markEnd i r s).fixed = s.fixed :=
      (fixed_ite (closeChannel_writes ..).fixed_eq rfl).trans (markEnd_fixed i r s)
    generalize (if e.state = .active then closeChannel c (markEnd i r s) else markEnd i r s) = w at hfixed ⊢
    obtain ⟨f, hf, hfe⟩ := current_of_fixed hfixed hc
    have hlive : ∀ j g, w.current c = some (j, g) → g.state ≠ .queued := fun j g hg => by
      rw [hf] at hg; cases hg
      have hstate : f.state = e.state := Entry.state_of_fixed hfe
      rw [hstate]; exact hq
    refine ⟨(settleEnd_course hlive).trans (course_of_fixed hfixed), ?_⟩
    unfold settleEnd
    simp only [hf]
    split
    case isFalse => exact .inl ⟨f, hf, hfe⟩
    case isTrue h =>
      simp only [Bool.and_eq_true, Option.isSome_iff_exists] at h
      obtain ⟨⟨⟨r', hr⟩, -⟩, -⟩ := h
      exact .inr ⟨_, entry_applyEnd_self (current_eq_some_iff.mp hf).2 hr, terminal_finish ..⟩

theorem fixed_reworkMargin (e : Entry) : e.reworkMargin.fixed = e.fixed := by
  unfold Entry.reworkMargin
  split <;> rfl

theorem workMargin_outcome (hc : s.current c = some (i, e)) (hq : e.state ≠ .queued) : (workMargin c i s).course = s.course
    ∧ ((∃ f, (workMargin c i s).current c = some (i, f) ∧ f.fixed = e.fixed)
      ∨ ∃ f, (workMargin c i s).entry i = some f ∧ f.state.terminal = true) := by
  have hfixed : (s.modEntry i Entry.reworkMargin).fixed = s.fixed := fixed_modEntry i s fixed_reworkMargin
  obtain ⟨f, hf, hfe⟩ := current_of_fixed hfixed hc
  have hstate : f.state = e.state := Entry.state_of_fixed hfe
  obtain ⟨hcourse, hwhere⟩ := endCurrent_outcome (r := .allotment) hf (by rw [hstate]; exact hq)
  unfold workMargin
  simp only [(current_eq_some_iff.mp hf).2]
  split
  · refine ⟨hcourse.trans (course_of_fixed hfixed), hwhere.imp_left fun ⟨g, hg, hge⟩ => ⟨g, hg, hge.trans hfe⟩⟩
  · exact ⟨course_of_fixed hfixed, .inl ⟨f, hf, hfe⟩⟩

theorem testSlug_fixed (c : Chan) (i : EntryId) (s : State) : (testSlug c i s).fixed = s.fixed := by
  have hslug (w : State) : (w.modEntry i fun e => { e with slug := e.slug.map fun r => { r with phase := .settling } }).fixed = w.fixed :=
    fixed_modEntry i w fun _ => rfl
  unfold testSlug
  split
  case h_2 => rfl
  case h_1 =>
    refine fixed_ite ?_ rfl
    unfold endSlug
    simp only
    rw [(judgeBlind_writes ..).fixed_eq, (noteLevelChange_writes ..).fixed_eq, (flushWindow_writes ..).fixed_eq, (addHold_writes ..).fixed_eq, hslug]

theorem testAllotment_course (h : ∀ e, s.entry i = some e → (e.state = .await ∨ e.state = .active) → ∃ f, s.current c = some (i, f)) :
    (testAllotment c i s).course = s.course := by
  unfold testAllotment
  split
  case h_2 => rfl
  case h_1 e he =>
    split
    case isFalse => rfl
    case isTrue hg =>
      obtain ⟨f, hf⟩ := h e he hg.1
      have hfe := (current_eq_some_iff.mp hf).2
      rw [he] at hfe; cases hfe
      exact (endCurrent_outcome hf (by rcases hg.1 with h | h <;> rw [h] <;> decide)).1

/-- What a pulse brings past the delivered volume keeps every entry's course. -/
theorem afterRecount_course {b : Bool} (hc : s.current c = some (i, e)) (hb : b = true → e.state = .active) :
    (afterRecount c i b s).course = s.course := by
  unfold afterRecount
  cases b with
  | false => exact testAllotment_course fun _ _ _ => ⟨e, hc⟩
  | true =>
    have hact := hb rfl
    obtain ⟨hcourse, hwhere⟩ := workMargin_outcome hc (by rw [hact]; decide)
    have hslug := testSlug_fixed c i (workMargin c i s)
    simp only [if_true]
    refine (testAllotment_course fun g hg hlive => ?_).trans ((course_of_fixed hslug).trans hcourse)
    rcases hwhere with ⟨f, hf, -⟩ | ⟨f, hf, hend⟩
    · obtain ⟨h, hh, -⟩ := current_of_fixed hslug hf
      exact ⟨h, hh⟩
    · obtain ⟨h, hh, hhf⟩ := entry_of_fixed hslug hf
      have hstate : h.state = f.state := Entry.state_of_fixed hhf
      rw [hg] at hh; cases hh
      rw [hstate] at hlive
      rcases hlive with h | h <;> rw [h] at hend <;> cases hend

/-! ### The items counted (R116, R119) -/

theorem given_modMeter_counts (f : Meter → Meter) (c : Chan) (s : State) : (s.modMeter c f).given = { s.given with
    counts := fun d => if d = c then (f (s.chan c).meter).counts else (s.chan d).meter.counts } := by
  have hinputs : (fun d => ((s.modMeter c f).chan d).inputs) = fun d => (s.chan d).inputs := by
    funext d
    rw [chan_modMeter]
    split
    case isTrue h => rw [← h]; rfl
    case isFalse => rfl
  have hcounts : (fun d => ((s.modMeter c f).chan d).meter.counts)
      = fun d => if d = c then (f (s.chan c).meter).counts else (s.chan d).meter.counts := by
    funext d
    rw [chan_modMeter]
    by_cases h : c = d
    · rw [if_pos h, if_pos h.symm]
    · rw [if_neg h, if_neg (Ne.symm h)]
  unfold State.given
  rw [hinputs, hcounts]
  rfl

theorem given_modMeter_same {f : Meter → Meter} (c : Chan) (s : State) (h : ∀ m, (f m).counts = m.counts) : (s.modMeter c f).given = s.given := by
  have hsame : (fun d => if d = c then (f (s.chan c).meter).counts else (s.chan d).meter.counts) = fun d => (s.chan d).meter.counts := by
    funext d
    split
    case isTrue hd => rw [hd, h]
    case isFalse => rfl
  rw [given_modMeter_counts, hsame]
  rfl

theorem given_countPulse (c : Chan) (s : State) : (countPulse c s).given = { s.given with
    counts := fun d => if d = c then (s.chan c).meter.count.counts else (s.chan d).meter.counts } := by
  have hstall (x : Option Nat) (w : State) : (w.modMeter c fun m => { m with stallTimer := x }).given = w.given :=
    given_modMeter_same c w fun _ => rfl
  have hfull (w : State) : (cautionOn (.meterFull c) w).given = w.given := by simp
  unfold countPulse
  simp only [apply_ite State.given, hstall, hfull, ite_self, given_modMeter_counts]

/-! ### A pulse, entry by entry -/

theorem chan_countPulse (c : Chan) (s : State) (d : Chan) : ((countPulse c s).chan d).meter.total
    = (if c = d then (s.chan d).meter.total + 1 else (s.chan d).meter.total) := by
  have hcount : ((countPulse c s).chan d).meter.counts = if d = c then (s.chan c).meter.count.counts else (s.chan d).meter.counts :=
    congrFun (congrArg Given.counts (given_countPulse c s)) d
  have htotal : ((countPulse c s).chan d).meter.total = (((countPulse c s).chan d).meter.counts).total := rfl
  rw [htotal, hcount]
  by_cases h : c = d
  · subst h; rw [if_pos rfl, if_pos rfl]; rfl
  · rw [if_neg h, if_neg (Ne.symm h)]; rfl

theorem countPulse_entry (hsat : (s.chan c).meter.saturated = false) : (countPulse c s).entry = s.entry := (countPulse_writes hsat).entry_eq

/-- The delivered volume a pulse brings the current entry (R4, R116). -/
theorem entry_countAndRecount_of {b : Baseline} (hsat : (s.chan c).meter.saturated = false) (hc : s.current c = some (i, e))
    (hb : e.baseline = some b) : countAndRecount c s = (countPulse c s).modEntry i
      (fun e => e.recount ((s.chan c).meter.total + 1))
    ∧ (countAndRecount c s).current c = some (i, { e with delivered := ((s.chan c).meter.total + 1 - b.total) * 100 / b.kFactor }) := by
  have hcur : (countPulse c s).current c = some (i, e) := by rw [current_congr (countPulse_entry hsat)]; exact hc
  have hmade : countAndRecount c s = (countPulse c s).modEntry i (fun e => e.recount ((s.chan c).meter.total + 1)) := by
    simp only [countAndRecount, hcur, hb, Option.isSome_some, if_true, chan_countPulse]
  have hre : e.recount ((s.chan c).meter.total + 1)
      = { e with delivered := ((s.chan c).meter.total + 1 - b.total) * 100 / b.kFactor } := by
    unfold Entry.recount; rw [hb]; rfl
  refine ⟨hmade, ?_⟩
  rw [hmade, ← hre]
  exact current_modEntry hcur (by rw [hre]) (by rw [hre]; exact (current_live hc).2.2)

/-- A pulse leaves the course of every entry as the count leaves it. -/
theorem takePulse_course (hsat : (s.chan c).meter.saturated = false) : (takePulse c s).course = (countAndRecount c s).course := by
  rw [takePulse_eq hsat]
  split
  case h_2 => rfl
  case h_1 i e hc =>
    split
    case isFalse => rfl
    case isTrue hb =>
      obtain ⟨b, hb⟩ := Option.isSome_iff_exists.mp hb
      rw [current_congr (countPulse_entry hsat)] at hc
      exact afterRecount_course (entry_countAndRecount_of hsat hc hb).2 (by simp)

/-- A pulse leaves the entries of other channels their delivered volume. -/
theorem entry_countAndRecount_other (hsat : (s.chan c).meter.saturated = false) (he : s.entry i = some e) (hc : e.chan ≠ c) :
    (countAndRecount c s).entry i = some e := by
  have hentry : (countPulse c s).entry i = some e := by rw [countPulse_entry hsat]; exact he
  unfold countAndRecount
  simp only
  split
  case h_2 => exact hentry
  case h_1 j f hf =>
    split
    case isFalse => exact hentry
    case isTrue =>
      rw [entry_modEntry, if_neg ?_]
      · exact hentry
      · rintro rfl
        obtain ⟨hfe, hfc, -⟩ := current_live hf
        rw [hentry] at hfe; cases hfe
        exact hc hfc

/-! PROOF. Pulses and refreshes (R60, R67, R115 to R119). -/


variable {P : List Part} {s t v : State} {u x : TankNo} {c d : Chan} {i j : EntryId} {e f : Entry} {k l : Channel} {r : EndReason} {q : HoldReason}
  {n m : Nat}

/-! ### The tank's ACTIVE entry through changes of figures (R3) -/

/-- What of an entry says whose it is: its channel, its tank and its state. -/
def Entry.place (e : Entry) : Chan × TankNo × EntryState := (e.chan, e.tank, e.state)

theorem activeChan_of_place (h : ∀ j, (t.entry j).map Entry.place = (s.entry j).map Entry.place) : t.activeChan = s.activeChan := by
  have hlive (w : State) (c : Chan) (j : EntryId) : (match w.entry j with | some e => e.live c | none => false)
      = ((w.entry j).map Entry.place).any fun p => p.1 == c && !p.2.2.terminal := by
    cases w.entry j <;> rfl
  have hid (c : Chan) : t.currentId c = s.currentId c :=
    congrArg entryIds.find? (funext fun j => ((hlive t c j).trans (by rw [h j])).trans (hlive s c j).symm)
  have htest (w : State) (c : Chan) (u : TankNo) : (match w.activeEntry c with | some (_, e) => e.tank == u | none => false)
      = ((w.currentId c).bind fun j => (w.entry j).map Entry.place).any fun p => p.2.2 == .active && p.2.1 == u := by
    unfold State.activeEntry State.current
    cases w.currentId c with
    | none => rfl
    | some j =>
      cases he : w.entry j with
      | none => simp [he]
      | some e =>
        simp only [he, Option.map_some, Option.bind_some, Option.any_some, Entry.place]
        split
        case h_1 heq => split at heq <;> simp_all
        case h_2 heq => split at heq <;> simp_all
  funext u
  unfold State.activeChan
  refine congrArg chans.find? (funext fun c => ((htest t c u).trans ?_).trans (htest s c u).symm)
  rw [hid]
  cases s.currentId c with
  | none => rfl
  | some j => rw [Option.bind_some, Option.bind_some, h j]

theorem activeChan_modEntry {g : Entry → Entry} (i : EntryId) (s : State) (h : ∀ e, (g e).place = e.place) :
    (s.modEntry i g).activeChan = s.activeChan := by
  refine activeChan_of_place fun j => ?_
  rw [entry_modEntry]
  split
  case isTrue hij => subst hij; cases s.entry i <;> simp [h]
  case isFalse => rfl

/-! ### The end of a slug (R67) -/

/-- A reason put on a channel: it stands, and the channel neither flows nor asks (R76). -/
theorem addHold_holds {r : HoldReason} (hf : (s.chan c).FlowsByGrant) (hn : r ≠ .noGrant) :
    ((addHold c r s).chan c).holds.has r = true ∧ ((addHold c r s).chan c).asks = false ∧ ((addHold c r s).chan c).FlowsByGrant
      ∧ (c ∉ s.evals → c ∉ (addHold c r s).evals)
      ∧ ((addHold c r s).chan c).state = (if (s.chan c).state = .flowing then .held else (s.chan c).state) := by
  cases hr : (s.chan c).holds.has r with
  | true =>
    have hsame : addHold c r s = s := by rw [addHold, if_pos hr]
    have hno : (s.chan c).state ≠ .flowing := fun h => by
      rw [hf.2.1 h] at hr; cases r <;> cases hr
    rw [hsame]
    exact ⟨hr, Channel.asks_of_holds hno hr hn, hf, id, (if_neg hno).symm⟩
  | false =>
    obtain ⟨hheld, hev, hasks, hflows⟩ := addHold_stands hf hr hn
    refine ⟨by rw [hheld]; exact Channel.has_holdWith hr, hasks, hflows, hev, ?_⟩
    rw [hheld, Channel.holdWith_fresh hr]
    split <;> rfl

theorem Channel.still_of_not_asks (hf : k.FlowsByGrant) (ha : k.asks = false) : k.state ≠ .flowing ∧ k.grant = 0 := by
  have hno : k.state ≠ .flowing := fun h => by unfold Channel.asks at ha; rw [h] at ha; cases ha
  exact ⟨hno, Nat.eq_zero_of_not_pos fun h => hno (hf.1.mp h)⟩

/-- BLIND judged takes no reason off where no level is known. -/
theorem judgeBlind_has {q : HoldReason} (hc : s.activeChan u = some c) (hk : (s.tank u).levelState.known = false) (hf : (s.chan c).FlowsByGrant)
    (ha : (s.chan c).asks = false) (hq : (s.chan c).holds.has q = true) : ((judgeBlind u s).chan c).holds.has q = true := by
  cases hb : (s.chan c).holds.blind with
  | true =>
    have hsame : judgeBlind u s = s := by
      unfold judgeBlind
      simp only [hc, hk, hb, Bool.false_eq_true, if_false, if_true]
    rw [hsame]; exact hq
  | false =>
    have hno := (Channel.still_of_not_asks hf ha).1
    obtain ⟨hheld, -, -, -⟩ := addHold_stands (s := s.modTank u fun k => { k with blindTimer := some (s.expiry s.config.device.blindLimit) })
      (c := c) (r := .blind) hf hb (by decide)
    rw [judgeBlind_unknown hc hk hb, hheld, Channel.holds_holdWith, HoldSet.has_plus]
    exact Bool.or_eq_true_iff.mpr (.inl hq)

theorem tank_flushed_unknown (k : Tank) : k.flushed.levelState.known = false := by
  unfold Tank.levelState
  split
  · rfl
  split
  · rfl
  case isFalse h => exact absurd rfl h

/-- A slug ended: its phase, the two reasons, and the window flushed. -/
theorem endSlug_stands (he : s.entry i = some e) (hc : s.activeChan u = some c) (hf : (s.chan c).FlowsByGrant) :
    (endSlug c i u s).entry i = some { e with slug := e.slug.map fun r => { r with phase := .settling } }
      ∧ ((endSlug c i u s).chan c).asks = false ∧ ((endSlug c i u s).chan c).FlowsByGrant ∧ (c ∉ s.evals → c ∉ (endSlug c i u s).evals)
      ∧ ((endSlug c i u s).chan c).holds.settling = true ∧ ((endSlug c i u s).chan c).holds.blind = true
      ∧ ((endSlug c i u s).chan c).state = (if (s.chan c).state = .flowing then .held else (s.chan c).state)
      ∧ (endSlug c i u s).readings u = (s.tank u).flushed.readings := by
  have hslug := entry_modEntry s i i fun e => { e with slug := e.slug.map fun r => { r with phase := .settling } }
  rw [if_pos rfl, he, Option.map_some] at hslug
  have hactive := activeChan_modEntry (g := fun e => { e with slug := e.slug.map fun r => { r with phase := .settling } }) i s fun _ => rfl
  have hchan : ((s.modEntry i fun e => { e with slug := e.slug.map fun r => { r with phase := .settling } })).chan c = s.chan c := rfl
  have htank : ((s.modEntry i fun e => { e with slug := e.slug.map fun r => { r with phase := .settling } })).tank u = s.tank u := rfl
  have hevals : ((s.modEntry i fun e => { e with slug := e.slug.map fun r => { r with phase := .settling } })).evals = s.evals := rfl
  unfold endSlug
  simp only
  generalize (s.modEntry i fun e => { e with slug := e.slug.map fun r => { r with phase := .settling } }) = s1
    at hslug hactive hchan htank hevals ⊢
  obtain ⟨hsettle, hasks, hflows, hev, hstate⟩ := addHold_holds (s := s1) (c := c) (r := .settling) (by rw [hchan]; exact hf) (by decide)
  have hadd := addHold_writes c .settling s1
  generalize addHold c .settling s1 = s2 at hsettle hasks hflows hev hstate hadd ⊢
  have hnote := (flushWindow_writes u s2).then (noteLevelChange_writes u (s2.tank u).levelState (s2.tank u).suspect none (flushWindow u s2))
    (R := [.tanks, .notices])
  have hflush : (noteLevelChange u (s2.tank u).levelState (s2.tank u).suspect none (flushWindow u s2)).tank u = (s.tank u).flushed := by
    rw [(noteLevelChange_writes ..).tank_eq, tank_flushWindow, if_pos rfl, hadd.tank_eq, htank]
  generalize noteLevelChange u (s2.tank u).levelState (s2.tank u).suspect none (flushWindow u s2) = s3 at hnote hflush ⊢
  have hc3 : s3.chan c = s2.chan c := congrFun hnote.chan_eq c
  have hactive3 : s3.activeChan u = some c := by
    rw [activeChan_congr (hnote.entry_eq.trans hadd.entry_eq), hactive]; exact hc
  have hunknown : (s3.tank u).levelState.known = false := by rw [hflush]; exact tank_flushed_unknown _
  obtain ⟨hasks3, hflows3, hev3, hblind, -, -, hstate3, -⟩ := judgeBlind_stands hactive3 hunknown (by rw [hc3]; exact hflows)
  have hkeep := judgeBlind_has (q := .settling) hactive3 hunknown (by rw [hc3]; exact hflows) (by rw [hc3]; exact hasks)
    (by rw [hc3]; exact hsettle)
  refine ⟨?_, hasks3, hflows3, fun hv => hev3 (by rw [hnote.evals_eq]; exact hev (by rw [hevals]; exact hv)), hkeep, hblind, ?_, ?_⟩
  · rw [(judgeBlind_writes ..).entry_eq, hnote.entry_eq, hadd.entry_eq]; exact hslug
  · rw [hstate3, hc3, if_neg (Channel.still_of_not_asks hflows hasks).1, hstate, hchan]
  · rw [readings_judgeBlind]
    exact congrArg Tank.readings hflush

/-! ### A pulse that ends a slug (R67, R116) -/

/-- From `s` to `t` no channel changes but in its meter. -/
def State.MeterOnly (s t : State) : Prop := ∀ d, t.chan d = { s.chan d with meter := (t.chan d).meter }

theorem State.MeterOnly.trans (h : s.MeterOnly t) (g : t.MeterOnly v) : s.MeterOnly v := fun d => by rw [g d, h d]

theorem modMeter_only (f : Meter → Meter) (c : Chan) (s : State) : s.MeterOnly (s.modMeter c f) := fun d => by
  rw [chan_modMeter]
  split
  case isTrue h => subst h; rfl
  case isFalse => rfl

theorem countPulse_only (c : Chan) (s : State) : s.MeterOnly (countPulse c s) := by
  have hfull (w : State) : w.MeterOnly (if (w.chan c).meter.saturated then cautionOn (.meterFull c) w else w) := fun d => by
    split
    · rw [(cautionOn_writes (by simp) _).chan_eq]
    · rfl
  have hstall (w : State) : w.MeterOnly (if (w.chan c).state = .flowing then
      w.modMeter c fun m => { m with stallTimer := some (w.expiry w.config.device.stallTime) } else w) := by
    split
    · exact modMeter_only _ c w
    · exact fun _ => rfl
  exact ((modMeter_only Meter.count c s).trans (hfull _)).trans (hstall _)

theorem Entry.reworkMargin_eq (e : Entry) : e.reworkMargin = { e with margin := e.reworkMargin.margin } := by
  unfold Entry.reworkMargin
  split <;> rfl

/-- A margin worked again that its closing allowance still covers ends nothing (R60). -/
theorem Entry.marginSpent_rework (h : ∀ r, e.margin = some r → r.aClose < e.remaining) : e.reworkMargin.marginSpent = false := by
  unfold Entry.reworkMargin Entry.marginSpent
  cases hm : e.margin with
  | none => simp [hm]
  | some r =>
    have hlt := h r hm
    refine decide_eq_false ?_
    change ¬ ((e.remaining : Int) - r.aClose ≤ 0)
    omega

/-- The entry as a pulse that ends its slug leaves it. -/
def Entry.pulsed (e : Entry) (n : Nat) : Entry :=
  { ({ e with delivered := n } : Entry).reworkMargin with
    slug := ({ e with delivered := n } : Entry).reworkMargin.slug.map fun r => { r with phase := .settling } }

theorem takePulse_endsSlug {b : Baseline} {size base : Nat} (hsat : (s.chan c).meter.saturated = false) (ha : s.activeEntry c = some (i, e))
    (hb : e.baseline = some b) (hslug : e.slug = some { phase := .delivering, size := some size, base := some base })
    (hsize : base + size ≤ ((s.chan c).meter.total + 1 - b.total) * 100 / b.kFactor)
    (hleft : ((s.chan c).meter.total + 1 - b.total) * 100 / b.kFactor < e.allotment)
    (hmargin : ∀ r, e.margin = some r → r.aClose < e.allotment - ((s.chan c).meter.total + 1 - b.total) * 100 / b.kFactor)
    (hf : (s.chan c).FlowsByGrant) (hserve : s.activeChan e.tank = some c) :
    takePulse c s = endSlug c i e.tank ((countAndRecount c s).modEntry i Entry.reworkMargin)
      ∧ (takePulse c s).entry i = some (e.pulsed (((s.chan c).meter.total + 1 - b.total) * 100 / b.kFactor))
      ∧ ((takePulse c s).chan c).asks = false ∧ ((takePulse c s).chan c).FlowsByGrant ∧ (c ∉ s.evals → c ∉ (takePulse c s).evals)
      ∧ ((takePulse c s).chan c).holds.settling = true ∧ ((takePulse c s).chan c).holds.blind = true
      ∧ ((takePulse c s).chan c).state = (if (s.chan c).state = .flowing then .held else (s.chan c).state)
      ∧ (takePulse c s).readings e.tank = (s.tank e.tank).flushed.readings := by
  obtain ⟨hc, hact⟩ := activeEntry_eq_some_iff.mp ha
  obtain ⟨hmade, hcur⟩ := entry_countAndRecount_of hsat hc hb
  generalize ((s.chan c).meter.total + 1 - b.total) * 100 / b.kFactor = n at hsize hleft hmargin hcur ⊢
  have hcurP : (countPulse c s).current c = some (i, e) := by rw [current_congr (countPulse_entry hsat)]; exact hc
  have htake : takePulse c s = afterRecount c i true (countAndRecount c s) := by
    rw [takePulse_eq hsat, hcurP]
    simp only [hb, Option.isSome_some, if_true, hact, decide_true]
  have hcount := countPulse_writes hsat
  have hchan : (countAndRecount c s).chan c = (countPulse c s).chan c := by rw [hmade]; rfl
  have htank : (countAndRecount c s).tank e.tank = s.tank e.tank := by rw [hmade]; exact congrFun hcount.tank_eq e.tank
  have hevals : (countAndRecount c s).evals = s.evals := by rw [hmade]; exact hcount.evals_eq
  have hmeter := countPulse_only c s c
  have hactive : (countAndRecount c s).activeChan e.tank = some c := by
    rw [hmade, activeChan_modEntry i _ fun f => by unfold Entry.recount; split <;> rfl, activeChan_congr (countPulse_entry hsat)]; exact hserve
  rw [htake]
  generalize countAndRecount c s = w at hcur hchan htank hevals hactive ⊢
  have hwe : w.entry i = some { e with delivered := n } := (current_eq_some_iff.mp hcur).2
  have hre : (w.modEntry i Entry.reworkMargin).entry i = some ({ e with delivered := n } : Entry).reworkMargin := by
    rw [entry_modEntry_self, hwe]; rfl
  have hspent : ({ e with delivered := n } : Entry).reworkMargin.marginSpent = false := Entry.marginSpent_rework hmargin
  have hform := Entry.reworkMargin_eq { e with delivered := n }
  have hwork : workMargin c i w = w.modEntry i Entry.reworkMargin := by
    unfold workMargin
    simp only [hre, hspent, Bool.false_eq_true, if_false]
  have hdone : ({ e with delivered := n } : Entry).reworkMargin.slugDone = true := by
    rw [hform]
    unfold Entry.slugDone
    simp only [hslug]
    exact decide_eq_true (by omega)
  have htested : testSlug c i (w.modEntry i Entry.reworkMargin) = endSlug c i e.tank (w.modEntry i Entry.reworkMargin) := by
    unfold testSlug
    simp only [hre, hdone, if_true]
    rw [hform]
  have hflows : ((w.modEntry i Entry.reworkMargin).chan c).FlowsByGrant := by
    have hsame : (w.modEntry i Entry.reworkMargin).chan c = { s.chan c with meter := ((countPulse c s).chan c).meter } := hchan.trans hmeter
    rw [hsame]; exact hf
  have hactive' : (w.modEntry i Entry.reworkMargin).activeChan e.tank = some c := by
    rw [activeChan_modEntry i w fun f => by rw [Entry.reworkMargin_eq]; rfl]; exact hactive
  obtain ⟨hentry, hasks, hfl, hev, hsettle, hblind, hstate, hread⟩ := endSlug_stands hre hactive' hflows
  have hrest : testAllotment c i (endSlug c i e.tank (w.modEntry i Entry.reworkMargin)) = endSlug c i e.tank (w.modEntry i Entry.reworkMargin) := by
    have hmore : ({ ({ e with delivered := n } : Entry).reworkMargin with
        slug := ({ e with delivered := n } : Entry).reworkMargin.slug.map fun r => { r with phase := .settling } } : Entry).remaining ≠ 0 := by
      rw [hform]
      exact Nat.sub_ne_zero_of_lt hleft
    unfold testAllotment
    rw [hentry]
    simp only [hmore, and_false, if_false]
  have hall : afterRecount c i true w = endSlug c i e.tank (w.modEntry i Entry.reworkMargin) := by
    unfold afterRecount
    rw [if_pos rfl, hwork, htested, hrest]
  rw [hall]
  have hcw : (w.modEntry i Entry.reworkMargin).chan c = { s.chan c with meter := ((countPulse c s).chan c).meter } := hchan.trans hmeter
  refine ⟨rfl, hentry, hasks, hfl, fun hv => hev (by rw [← hevals] at hv; exact hv), hsettle, hblind, ?_, ?_⟩
  · rw [hstate, hcw]
  · exact hread.trans (congrArg (fun k : Tank => k.flushed.readings) htank)

/-! PROOF. A refresh's evaluation (R53 to R60), and pulses and refreshes as commands (R116 to R119). -/


variable {P : List Part} {s t v : State} {u x : TankNo} {c d : Chan} {i j : EntryId} {e f : Entry} {k : EvalKind} {r : EndReason} {n m : Nat}

/-! ### When no end is applied (R10) -/

theorem settleEnd_none (h : ∀ i e, s.current c = some (i, e) → e.endPending = none) : settleEnd c s = s := by
  unfold settleEnd
  split
  case h_2 => rfl
  case h_1 i e hc => rw [h i e hc]; rfl

theorem settleEnd_stroking (h : (s.chan c).stroking = true) : settleEnd c s = s := by
  unfold settleEnd
  split
  case h_2 => rfl
  case h_1 => rw [h]; simp

theorem Channel.stroking_of_closing {k : Channel} (h : k.state = .closing) : k.stroking = true := by unfold Channel.stroking; rw [h]

/-! ### An evaluation whose level half does not run (R54, R60) -/

/-- The record of an evaluation without its level half: the figures of the half stay (R54 step 6). -/
def Entry.remargined (e : Entry) (now q a : Nat) : Entry :=
  { e with margin := some { evaluatedAt := now, q := q, aClose := a, level := e.margin.bind MarginRecord.level, mm := meterMargin e.remaining a } }

theorem entry_writeMargin (i : EntryId) (q a : Nat) (he : s.entry i = some e) (j : EntryId) :
    (writeMargin i q a none s).entry j = if i = j then some (e.remargined s.now q a) else s.entry j := by
  unfold writeMargin
  rw [entry_modEntry, he, Option.map_some]
  unfold Entry.remargined
  cases e.margin <;> rfl

theorem remargined_eq (e : Entry) (now q a : Nat) : e.remargined now q a = { e with margin := (e.remargined now q a).margin } := rfl

theorem judgeMargin_noLevel (hh : s.evalHalf c e k = none) : judgeMargin k c i e s
    = writeMargin i (s.marginRate c e k) (closureAllowance (s.marginRate c e k) (s.chanConfig c).strokeTime) none
      (meterHalf c i (closureAllowance (s.marginRate c e k) (s.chanConfig c).strokeTime) s) := by
  have hsteps : levelSteps k c i e s = s := by unfold levelSteps; rw [hh]
  unfold judgeMargin
  simp only
  rw [hsteps, hh]

/-- The meter margin above 0: the record alone is written. -/
theorem evaluate_covered (ha : s.activeEntry c = some (i, e)) (hh : s.evalHalf c e k = none) (hn : e.endPending = none)
    (hm : 0 < meterMargin e.remaining (closureAllowance (s.marginRate c e k) (s.chanConfig c).strokeTime)) :
    evaluate k c s = writeMargin i (s.marginRate c e k) (closureAllowance (s.marginRate c e k) (s.chanConfig c).strokeTime) none s := by
  obtain ⟨hc, -⟩ := activeEntry_eq_some_iff.mp ha
  have he := (current_live hc).1
  have hhalf : meterHalf c i (closureAllowance (s.marginRate c e k) (s.chanConfig c).strokeTime) s = s := by
    unfold meterHalf
    rw [he]
    exact if_neg fun h => absurd h.1 (Int.not_le.mpr hm)
  rw [evaluate_eq ha, judgeMargin_noLevel hh, hhalf, settleSet, hn]
  refine settleEnd_none fun j g hg => ?_
  have hentry := entry_writeMargin i (s.marginRate c e k) (closureAllowance (s.marginRate c e k) (s.chanConfig c).strokeTime) he i
  rw [if_pos rfl] at hentry
  have hfixed : (writeMargin i (s.marginRate c e k) (closureAllowance (s.marginRate c e k) (s.chanConfig c).strokeTime) none s).fixed = s.fixed :=
    writeMargin_fixed ..
  obtain ⟨f, hf, -⟩ := current_of_fixed hfixed hc
  rw [hf] at hg; cases hg
  have hfe := (current_eq_some_iff.mp hf).2
  rw [hentry] at hfe; cases hfe
  exact hn

/-- The meter margin at or below 0: the end ALLOTMENT, with its close (R60). -/
theorem evaluate_spent (ha : s.activeEntry c = some (i, e)) (hh : s.evalHalf c e k = none) (hn : e.endPending = none)
    (hw : (s.chan c).watched = true)
    (hm : meterMargin e.remaining (closureAllowance (s.marginRate c e k) (s.chanConfig c).strokeTime) ≤ 0) :
    evaluate k c s = writeMargin i (s.marginRate c e k) (closureAllowance (s.marginRate c e k) (s.chanConfig c).strokeTime) none
      (closeChannel c (markEnd i .allotment s)) := by
  obtain ⟨hc, hact⟩ := activeEntry_eq_some_iff.mp ha
  have he := (current_live hc).1
  have hhalf : meterHalf c i (closureAllowance (s.marginRate c e k) (s.chanConfig c).strokeTime) s = closeChannel c (markEnd i .allotment s) := by
    unfold meterHalf
    rw [he]
    exact if_pos ⟨hm, hn, hact⟩
  have hclose := (markClosed (r := .allotment) hc hact hn hw).2.1
  rw [evaluate_eq ha, judgeMargin_noLevel hh, hhalf, settleSet, hn]
  exact settleEnd_stroking (Channel.stroking_of_closing hclose.1)

/-! ### A refresh (R119) -/

theorem takeRefresh_due (h : (s.chan c).meter.nextRefresh ≤ s.now) :
    takeRefresh c s = evaluate .change c (s.modMeter c fun m => m.refresh (s.chanConfig c).kFactor) := if_pos h

theorem evalHalf_change_none (h : e.settling = true ∨ (s.tank e.tank).lEff = none) : s.evalHalf c e .change = none := by
  unfold State.evalHalf
  simp only
  split
  case isFalse => rfl
  case isTrue hruns =>
    have hruns' : (s.tank e.tank).levelState.known = true ∧ e.settling = false := by simpa [State.levelHalfRuns] using hruns
    rcases h with h | h
    · rw [hruns'.2] at h; cases h
    · unfold Tank.levelHalf
      rw [h]
      split
      case h_1 heq => cases heq
      case h_2 => rfl

/-- A refresh of an ACTIVE entry's channel: the rate, the margin without its level half, and its end. -/
theorem refresh_evaluates (hs : s.Ready) (ha : s.activeEntry c = some (i, e)) (hdue : (s.chan c).meter.nextRefresh ≤ s.now)
    (hh : e.settling = true ∨ (s.tank e.tank).lEff = none) (hw : (s.chan c).watched = true) (hn : e.endPending = none) {q a : Nat}
    (hq : max (s.chan c).grant (min (windowRate (s.chan c).meter.windowCount (s.chanConfig c).kFactor) 20000) = q)
    (hclose : closureAllowance q (s.chanConfig c).strokeTime = a) :
    ∃ (t : State) (f : Entry), exec (.rateWindowRefresh c) s = .next t.startSending ∧ t.entry i = some f
      ∧ f.margin = some { evaluatedAt := s.now, q := q, aClose := a, level := e.margin.bind MarginRecord.level, mm := meterMargin e.remaining a }
      ∧ f.stage = e.stage ∧ f.state = .active ∧ f.endPending = (if meterMargin e.remaining a ≤ 0 then some .allotment else none)
      ∧ (meterMargin e.remaining a ≤ 0 → (t.chan c).state = .closing) := by
  obtain ⟨hc, hact⟩ := activeEntry_eq_some_iff.mp ha
  obtain ⟨he, hchan, -⟩ := current_live hc
  have htake := takeRefresh_due hdue
  have hrate : (s.modMeter c fun m => m.refresh (s.chanConfig c).kFactor).marginRate c e .change = q := by
    unfold State.marginRate
    simp only [chan_modMeter, if_true, EvalKind.prospective, Bool.false_eq_true, if_false]
    exact hq
  have hconf : (s.modMeter c fun m => m.refresh (s.chanConfig c).kFactor).chanConfig = s.chanConfig := rfl
  have hwatched : ((s.modMeter c fun m => m.refresh (s.chanConfig c).kFactor).chan c).watched = true := by
    rw [chan_modMeter, if_pos rfl]; exact hw
  have hentry : (s.modMeter c fun m => m.refresh (s.chanConfig c).kFactor).entry = s.entry := rfl
  have hevals : (s.modMeter c fun m => m.refresh (s.chanConfig c).kFactor).evals = [] := hs.2
  have hnow : (s.modMeter c fun m => m.refresh (s.chanConfig c).kFactor).now = s.now := rfl
  have hnone : (s.modMeter c fun m => m.refresh (s.chanConfig c).kFactor).evalHalf c e .change = none := evalHalf_change_none hh
  generalize (s.modMeter c fun m => m.refresh (s.chanConfig c).kFactor) = w at htake hrate hconf hwatched hentry hevals hnow hnone
  have hwa : w.activeEntry c = some (i, e) := by rw [activeEntry_congr hentry]; exact ha
  have hwc : w.current c = some (i, e) := (activeEntry_eq_some_iff.mp hwa).1
  have hwe : w.entry i = some e := (current_live hwc).1
  by_cases hm : meterMargin e.remaining a ≤ 0
  · have heval := evaluate_spent hwa hnone hn hwatched (by rw [hrate, hconf, hclose]; exact hm)
    rw [hrate, hconf, hclose] at heval
    obtain ⟨hend, hclosed, hev⟩ := markClosed (r := .allotment) hwc hact hn hwatched
    have hwrites := (markEnd_writes i .allotment w).then (closeChannel_writes c _) (R := [.figures, .chans, .header, .grants, .evals, .notices])
    have hwnow : (closeChannel c (markEnd i .allotment w)).now = s.now := hwrites.now_eq.trans hnow
    have hwritten := entry_writeMargin i q a hend i
    rw [if_pos rfl, hwnow] at hwritten
    rw [← htake] at heval
    have hchans : (takeRefresh c s).chan = (closeChannel c (markEnd i .allotment w)).chan := by rw [heval]; rfl
    have hstate : ((takeRefresh c s).chan c).state = .closing := by rw [hchans]; exact hclosed.1
    have hgrant : ((takeRefresh c s).chan c).grant = 0 := by rw [hchans]; exact hclosed.2.2.1
    have hspare := effect_spares (f := takeRefresh c) (s := s) (c := c) (Channel.asks_of_closing hstate)
      (Channel.flowsByGrant_of_closing hstate hgrant) (by
        have hsame : (takeRefresh c s).evals = (closeChannel c (markEnd i .allotment w)).evals := by rw [heval]; rfl
        rw [hsame]; exact hev (by rw [hevals]; exact List.not_mem_nil))
    refine ⟨effect (takeRefresh c) s, (e.withEnd .allotment).remargined s.now q a, exec_on hs.1 rfl, entry_of_own hspare.2 ?_ ?_, rfl, rfl, hact, (if_pos hm).symm, fun _ => ?_⟩
    · rw [heval]; exact hwritten
    · exact hchan
    · rw [hspare.1]; exact hstate
  · have heval := evaluate_covered hwa hnone hn (by rw [hrate, hconf, hclose]; exact Int.not_le.mp hm)
    rw [hrate, hconf, hclose] at heval
    have hwritten := entry_writeMargin i q a hwe i
    rw [if_pos rfl, hnow] at hwritten
    refine ⟨_, e.remargined s.now q a, exec_quiet hs.1 rfl (htake.trans heval) hevals, hwritten, rfl, rfl, hact, ?_, fun h => absurd h hm⟩
    rw [if_neg hm]; exact hn

/-! ### Pulses and refreshes as commands -/

/-- A pulse counted (R115, R117). -/
theorem pulse_counted (hs : s.Ready) (hsat : (s.chan c).meter.saturated = false) :
    ∃ t : State, exec (.meterPulse c) s = .next t.startSending
      ∧ t.given = { s.given with counts := fun d => if d = c then (s.chan c).meter.count.counts else (s.chan d).meter.counts }
      ∧ (∀ i e b, s.current c = some (i, e) → e.baseline = some b →
          ∃ f, t.entry i = some f ∧ f.delivered = ((s.chan c).meter.total + 1 - b.total) * 100 / b.kFactor)
      ∧ (∀ i e, s.entry i = some e → e.chan ≠ c → ∃ f, t.entry i = some f ∧ f.delivered = e.delivered) := by
  have hcourse : (effect (takePulse c) s).course = (countAndRecount c s).course := (effect_course ..).trans (takePulse_course hsat)
  have hdelivered {f g : Entry} (h : f.course = g.course) : f.delivered = g.delivered := by
    have hd := congrArg Entry.delivered h
    exact hd
  refine ⟨effect (takePulse c) s, exec_on hs.1 rfl, ?_, fun i e b hc hb => ?_, fun i e he hc => ?_⟩
  · rw [given_effect, takePulse, hsat]
    simp only [Bool.false_eq_true, if_false, given_handPulse, given_countPulse]
  · obtain ⟨f, hf, hfe⟩ := entry_of_course hcourse (current_eq_some_iff.mp (entry_countAndRecount_of hsat hc hb).2).2
    exact ⟨f, hf, hdelivered hfe⟩
  · obtain ⟨f, hf, hfe⟩ := entry_of_course hcourse (entry_countAndRecount_other hsat he hc)
    exact ⟨f, hf, hdelivered hfe⟩

/-- Settles O57: the counts are the given items' (`given_countPulse`), the delivered volumes stand through what follows a pulse
(`takePulse_course`), and a slug's end and a refresh's evaluation are worked step by step (`takePulse_endsSlug`, `refresh_evaluates`). -/
theorem pulsesAndRefreshesAreCounted : Obligations.PulsesAndRefreshesAreCounted := by
  intro c s hs
  refine ⟨fun hsat => exec_nothing hs rfl (takePulse_saturated hsat), fun hsat => pulse_counted hs hsat, fun hdue hroom => ?_, ?_, ?_⟩
  · refine ⟨effect (takeRefresh c) s, exec_on hs.1 rfl, ?_⟩
    have hnext : ((s.chan c).meter.refresh (s.chanConfig c).kFactor).counts = { (s.chan c).meter.counts with
        rate := (s.chan c).meter.windowCount * 100 / (s.chanConfig c).kFactor * 6, windowCount := 0
        nextRefresh := (s.chan c).meter.nextRefresh + 10 } := by
      unfold Meter.refresh Meter.counts ratePeriod stampAdd
      simp only [hroom, if_true]
      rfl
    rw [given_effect, takeRefresh_due hdue, given_evaluate, given_modMeter_counts, hnext]
  · intro i e b size base hsat ha hchan hb hn hslug m hsize hleft hmargin hg hserve
    obtain ⟨-, hentry, hasks, hflows, hev, hsettle, hblind, hstate, hread⟩ :=
      takePulse_endsSlug hsat ha hb hslug hsize hleft hmargin (hg.2.2 c) hserve
    have hact := (activeEntry_eq_some_iff.mp ha).2
    have hspare := effect_spares (f := takePulse c) hasks hflows (hev (by rw [hs.2]; exact List.not_mem_nil))
    have htank : ((effect (takePulse c) s).tank e.tank).readings = (s.tank e.tank).flushed.readings :=
      (congrFun (effect_readings (takePulse c) s) e.tank).trans hread
    have hfield {α : Type} (π : Tank → α) := congrArg π htank
    have hform := Entry.reworkMargin_eq { e with delivered := m }
    refine ⟨effect (takePulse c) s, e.pulsed m, exec_on hs.1 rfl, entry_of_own hspare.2 hentry ?_, ?_, ?_, ?_, ?_, ?_⟩
    · rw [Entry.pulsed, hform]; exact hchan
    · rw [Entry.pulsed, hform]; simp only [hslug, Option.map_some]
    · rw [Entry.pulsed, hform]; exact hn
    · rw [Entry.pulsed, hform]
    · rw [Entry.pulsed, hform]; exact hact
    · rw [hspare.1]
      exact ⟨hsettle, hblind, (Channel.still_of_not_asks hflows hasks).2, hstate, hfield Tank.window, hfield Tank.stale, hfield Tank.staleTimer,
        hfield Tank.suspect, hfield Tank.stepRef⟩
  · intro i e ha hchan hdue hh hw hn
    exact refresh_evaluates hs ha hdue hh hw hn rfl rfl

/-! SUPPORT. An end applied, item by item (R14, R113). -/


variable {P : List Part} {s t v w : State} {u x : TankNo} {c d : Chan} {i j n : EntryId} {e f : Entry} {k : Channel} {r : EndReason} {m : Nat}

/-! ### What follows the end of an entry (R14 steps 2 to 5) -/

/-- The rotation at DONE and SHORT (R113). -/
def rotated (c : Chan) (r : EndReason) (m : Nat) (s : State) : State := if terminalState r m = .cancelled then s else rotate c s

/-- The authorisation cleared where the channel has no entry left (R14 step 4). -/
def endJudged (c : Chan) (s : State) : State := if (s.current c).isNone then setAuth c false s else s

theorem rotated_writes (c : Chan) (r : EndReason) (m : Nat) (s : State) : Writes [.header, .notices] s (rotated c r m s) :=
  .ite (.refl s) (rotate_writes ..)

theorem endJudged_writes (c : Chan) (s : State) : Writes [.chans, .notices] s (endJudged c s) := .ite (setAuth_false_writes ..) (.refl s)

theorem afterFinish_told (c : Chan) (i : EntryId) (r : EndReason) (m : Nat) (s : State) :
    Writes [.notices] (endJudged c (setEnded c (regrant false (rotated c r m (promote c s).1)))) (afterFinish c i r m s) := by
  have htold (o : Option EntryId) (u : State) : Writes [.notices] u (match o with | some j => noteEntry .state j u | none => u) := by
    cases o with
    | some j => exact noteEntry_writes ..
    | none => exact .refl u
  exact (noteEntry_writes .state i _).then (htold (promote c s).2 _) (R := [.notices])

theorem chan_endJudged (c : Chan) (s : State) (d : Chan) : (endJudged c s).chan d =
    if c = d then { s.chan d with authorised := (s.chan d).authorised && (s.currentId c).isSome } else s.chan d := by
  unfold endJudged
  cases hc : s.currentId c with
  | none =>
    rw [if_pos (current_isNone_iff.mpr hc), chan_setAuth]
    split
    case isTrue h => subst h; simp
    case isFalse => rfl
  | some i =>
    have hsome : (s.current c).isNone = false := by
      cases hs : s.current c with
      | some p => rfl
      | none => rw [current_isNone_iff.mp (by rw [hs]; rfl)] at hc; cases hc
    rw [hsome]
    simp

theorem ended_setEnded (c : Chan) (s : State) (q : Side) : ((setEnded c s).port q).ended = (s.port q).ended.set c true := by cases q <;> rfl

theorem chan_setEnded (c : Chan) (s : State) : (setEnded c s).chan = s.chan := rfl
theorem header_setEnded (c : Chan) (s : State) : (setEnded c s).header = s.header := rfl
theorem evals_setEnded (c : Chan) (s : State) : (setEnded c s).evals = s.evals := rfl
theorem entry_setEnded (c : Chan) (s : State) : (setEnded c s).entry = s.entry := rfl

/-- A channel's next entry coming up leaves it the same current slot. -/
theorem currentId_promote (c d : Chan) (s : State) : (promote c s).1.currentId d = s.currentId d := by
  have hlive (j : EntryId) : (match (promote c s).1.entry j with | some e => e.live d | none => false)
      = (match s.entry j with | some e => e.live d | none => false) := by
    rw [entry_promote]
    by_cases hj : s.currentId c = some j
    · rw [if_pos hj]
      cases s.entry j with
      | none => rfl
      | some e =>
        simp only [Option.map_some, Entry.promoted]
        split
        case isTrue h => simp [Entry.live, EntryState.terminal, h]
        case isFalse => rfl
    · rw [if_neg hj]
  unfold State.currentId
  exact congrArg entryIds.find? (funext hlive)

theorem currentId_afterFinish (c d : Chan) (i : EntryId) (r : EndReason) (m : Nat) (s : State) :
    (afterFinish c i r m s).currentId d = s.currentId d := by
  rw [currentId_congr (entry_afterFinish r m s), currentId_promote]

/-- The header past an end applied: the rotation's (R113). -/
theorem header_afterFinish (c : Chan) (i : EntryId) (r : EndReason) (m : Nat) (s : State) :
    (afterFinish c i r m s).header = (rotated c r m s).header := by
  have hpromote : (rotated c r m (promote c s).1).header = (rotated c r m s).header := by
    unfold rotated
    split
    · exact (promote_writes c s).header_eq
    · rw [header_rotate, header_rotate, (promote_writes c s).header_eq]
  rw [(afterFinish_told c i r m s).header_eq, (endJudged_writes c _).header_eq, header_setEnded, (regrant_writes false _).header_eq, hpromote]

theorem ended_afterFinish (c : Chan) (i : EntryId) (r : EndReason) (m : Nat) (s : State) (q : Side) :
    ((afterFinish c i r m s).port q).ended = (s.port q).ended.set c true := by
  rw [(afterFinish_told c i r m s).ended_eq, (endJudged_writes c _).ended_eq, ended_setEnded, (regrant_writes false _).ended_eq,
    (rotated_writes c r m _).ended_eq, (promote_writes c s).ended_eq]

/-- A channel that asks for nothing past its entry's end: its authorisation stays where it has an entry left (R14 step 4). -/
theorem chan_afterFinish (ha : (s.chan c).asks = false) (hf : (s.chan c).FlowsByGrant) (i : EntryId) (r : EndReason) (m : Nat) :
    (afterFinish c i r m s).chan c = { s.chan c with authorised := (s.chan c).authorised && (s.currentId c).isSome } := by
  have hchan : (rotated c r m (promote c s).1).chan c = s.chan c := by rw [(rotated_writes c r m _).chan_eq, (promote_writes c s).chan_eq]
  have hgrant : (regrant false (rotated c r m (promote c s).1)).chan c = s.chan c :=
    ((regrant_spares false c _).chan (by rw [hchan]; exact ha) (by rw [hchan]; exact hf)).trans hchan
  have hid : (setEnded c (regrant false (rotated c r m (promote c s).1))).currentId c = s.currentId c := by
    have hentry : (setEnded c (regrant false (rotated c r m (promote c s).1))).entry = (promote c s).1.entry := by
      rw [entry_setEnded, (regrant_writes false _).entry_eq, (rotated_writes c r m _).entry_eq]
    rw [currentId_congr hentry, currentId_promote]
  rw [(afterFinish_told c i r m s).chan_eq, chan_endJudged, if_pos rfl, hid, chan_setEnded, hgrant]

theorem evals_afterFinish (ha : (s.chan c).asks = false) (hf : (s.chan c).FlowsByGrant) (hv : c ∉ s.evals) (i : EntryId) (r : EndReason) (m : Nat) :
    c ∉ (afterFinish c i r m s).evals := by
  have hchan : (rotated c r m (promote c s).1).chan c = s.chan c := by rw [(rotated_writes c r m _).chan_eq, (promote_writes c s).chan_eq]
  have hevals : (rotated c r m (promote c s).1).evals = s.evals := by rw [(rotated_writes c r m _).evals_eq, (promote_writes c s).evals_eq]
  rw [(afterFinish_told c i r m s).evals_eq, (endJudged_writes c _).evals_eq, evals_setEnded]
  exact (regrant_spares false c _).evals (by rw [hchan]; exact ha) (by rw [hchan]; exact hf) (by rw [hevals]; exact hv)

/-! ### The same with the header not SERVING (R108) -/

theorem Writes.grantsOk (h : Writes P s t) (hs : s.GrantsOk)
    (hP : ∀ p ∈ P, p ∈ Part.cautionDefaults :: innerParts [.shutdown, .clear] := by decide) : t.GrantsOk :=
  h.keeps (I := State.GrantsOk) (fun p hp _ _ hw hu => hw.grantsOk (hP p hp) hu) hs

/-- With the header not SERVING an end applied touches its own channel's authorisation alone of the channels, and hands nothing on. -/
theorem afterFinish_still (hst : s.header.state ≠ .serving) (hg : s.GrantsOk) (i : EntryId) (r : EndReason) (m : Nat) :
    (afterFinish c i r m s).evals = s.evals ∧ ∀ d, (afterFinish c i r m s).chan d
      = if c = d then { s.chan d with authorised := (s.chan d).authorised && (s.currentId c).isSome } else s.chan d := by
  have hw := (promote_writes c s).then (rotated_writes c r m _) (R := [.promote, .header, .notices])
  have hstate : (rotated c r m (promote c s).1).header.state ≠ .serving := by
    have hsame : (rotated c r m (promote c s).1).header.state = s.header.state := by
      unfold rotated
      split
      · rw [(promote_writes c s).header_eq]
      · rw [header_rotate, (promote_writes c s).header_eq]; split <;> rfl
    rw [hsame]; exact hst
  have hstill := regrant_of_not_serving hstate (hw.grantsOk hg) false
  have htold := afterFinish_told c i r m s
  rw [hstill] at htold
  simp only [Bool.false_eq_true, if_false] at htold
  have hentry : (setEnded c (rotated c r m (promote c s).1)).entry = (promote c s).1.entry := by
    rw [entry_setEnded, (rotated_writes c r m _).entry_eq]
  have hchan : (setEnded c (rotated c r m (promote c s).1)).chan = s.chan := by rw [chan_setEnded, hw.chan_eq]
  refine ⟨?_, fun d => ?_⟩
  · rw [htold.evals_eq, (endJudged_writes c _).evals_eq, evals_setEnded, hw.evals_eq]
  · rw [htold.chan_eq, chan_endJudged, hchan, currentId_congr hentry, currentId_promote]

/-! ### An end pending, applied -/

theorem withEnd_finish (e : Entry) (r : EndReason) (m : Nat) : (e.withEnd r).finish r m = e.endedBy r m := by
  cases r <;> rfl

/-- The next entry that comes up of a well-ordered plan was QUEUED (R3). -/
theorem promoted_of_ok (hok : s.CurrentOk) (hc : s.currentId c = some i) (hf : s.entry j = some f) (hj : j ≠ i) (hl : f.state.terminal = false)
    (hfc : f.chan = c) : f.promoted = { f with state := .await, lineup := .notReady } := by
  have hqueued : f.state = .queued := by
    by_contra hq
    have hid := (hok j f hf hl).mp hq
    rw [hfc, hc] at hid
    exact hj (Option.some.inj hid).symm
  rw [Entry.promoted, if_pos hqueued]

/-! SUPPORT. An end cause by the state of its entry (R10, R13, R14). -/


variable {P : List Part} {s t v w b : State} {u : TankNo} {c d : Chan} {i j n : EntryId} {e f : Entry} {k : Channel} {r : EndReason} {m : Nat}

/-! ### What evaluations leave -/

theorem Move.stands (h : Move s t) : t.queue = s.queue ∧ t.config = s.config ∧ t.store = s.store := by
  have hstands {P : List Part} {t : State} (hw : Writes P s t) (hq : ∀ p ∈ P, p.item ≠ .queue ∧ p.item ≠ .many := by decide)
      (hc : ∀ p ∈ P, p.item ≠ .config ∧ p.item ≠ .many := by decide) (hs : ∀ p ∈ P, p.item ≠ .store ∧ p.item ≠ .many := by decide) :
      t.queue = s.queue ∧ t.config = s.config ∧ t.store = s.store := ⟨hw.queue_eq hq, hw.config_eq hc, hw.store_eq hs⟩
  cases h with
  | aside _ _ h _ => rw [h]; exact ⟨rfl, rfl, rfl⟩
  | settled d | returned d => exact hstands (removeHolds_writes d _)
  | soon => exact hstands (setHighSoon_writes ..)
  | gain => exact hstands (setUnmetered_writes ..)
  | unauthorise => exact hstands (setAuth_false_writes ..)
  | close => exact hstands (closeChannel_writes ..)
  | regrant => exact hstands (regrant_writes ..)
  | rotate => exact hstands (rotate_writes ..)

theorem Moves.stands (h : Moves s t) : t.queue = s.queue ∧ t.config = s.config ∧ t.store = s.store :=
  h.keeps (I := fun v => v.queue = s.queue ∧ v.config = s.config ∧ v.store = s.store)
    (fun _ _ hm ⟨hq, hc, hs⟩ => ⟨hm.stands.1.trans hq, hm.stands.2.1.trans hc, hm.stands.2.2.trans hs⟩) ⟨rfl, rfl, rfl⟩

theorem effect_stands (f : State → State) (s : State) :
    (effect f s).queue = (f s).queue ∧ (effect f s).config = (f s).config ∧ (effect f s).store = (f s).store :=
  effect_keeps (I := fun v => v.queue = (f s).queue ∧ v.config = (f s).config ∧ v.store = (f s).store)
    (fun _ _ hm ⟨hq, hc, hs⟩ => ⟨hm.stands.1.trans hq, hm.stands.2.1.trans hc, hm.stands.2.2.trans hs⟩) (fun _ _ h => h) ⟨rfl, rfl, rfl⟩

/-- A terminal entry stands through evaluations (R2). -/
theorem effect_terminal {g : State → State} (hn : i.val < (g s).plan.nextId) (he : (g s).entry i = some e) (ht : e.state.terminal = true) :
    (effect g s).entry i = some e := by
  have hholds : (g s).Holds i e := ⟨fun _ => hn, e, he, .refl e⟩
  obtain ⟨-, f, hf, hstands⟩ := (runEvals_writes evalBudget (g s)).holds hholds
  rw [← hstands.done ht]
  exact hf

theorem State.PlanOk.slot (h : s.PlanOk) (he : s.entry i = some e) : i.val < s.plan.nextId := (h.1.2 i).mp (by rw [he]; rfl)

/-! ### The state an end cause leaves, case by case -/

theorem Channel.provenClosed_unsettled (k : Channel) (e : Entry) :
    (k.unsettled e).provenClosed = k.provenClosed ∧ (k.unsettled e).stroking = k.stroking ∧ (k.unsettled e).authorised = k.authorised := by
  rw [Channel.unsettled_eq]; exact ⟨rfl, rfl, rfl⟩

theorem current_markEnd (hc : s.current c = some (n, e)) (hn : e.endPending = none) (hs : e.state = .await ∨ e.state = .active) :
    (markEnd n r s).current c = some (n, e.withEnd r) := by
  obtain ⟨f, hf, -⟩ := current_of_fixed (markEnd_fixed n r s) hc
  have he := (current_eq_some_iff.mp hf).2
  rw [entry_markEnd (current_live hc).1 hn hs, if_pos rfl] at he
  cases he
  exact hf

/-- An AWAIT entry whose channel is proven closed and still: the end is applied at once (R10). -/
theorem endCurrent_applies (hc : s.current c = some (n, e)) (ha : e.state = .await) (hn : e.endPending = none)
    (hp : (s.chan c).provenClosed = true) (hk : (s.chan c).stroking = false) : endCurrent c n r s
      = afterFinish c n r e.delivered ((markEnd n r s).modEntry n fun e => e.finish r (markEnd n r s).now) := by
  obtain ⟨he, hchan, -⟩ := current_live hc
  have hcur := current_markEnd (r := r) hc hn (.inl ha)
  have hsame := Channel.provenClosed_unsettled (s.chan c) e
  have hend : endCurrent c n r s = settleEnd c (markEnd n r s) := by
    unfold endCurrent
    simp only [he, hn, Option.isSome_none, Bool.false_eq_true, if_false, ha, reduceCtorEq]
  have hsettle : settleEnd c (markEnd n r s) = applyEnd c n (markEnd n r s) := by
    unfold settleEnd
    simp only [hcur]
    rw [if_pos]
    rw [chan_markEnd he hn (.inl ha), if_pos hchan, hsame.1, hsame.2.1, hp, hk]
    rfl
  rw [hend, hsettle, applyEnd_eq (r := r) (current_eq_some_iff.mp hcur).2 rfl]
  exact congrArg _ (if_neg (by rw [show (e.withEnd r).state = e.state from rfl, ha]; decide))

/-- An AWAIT entry with its valve elsewhere: the end is pending, and no more. -/
theorem endCurrent_waits (hc : s.current c = some (n, e)) (ha : e.state = .await) (hn : e.endPending = none)
    (hp : (s.chan c).provenClosed = false ∨ (s.chan c).stroking = true) : endCurrent c n r s = markEnd n r s := by
  obtain ⟨he, hchan, -⟩ := current_live hc
  have hcur := current_markEnd (r := r) hc hn (.inl ha)
  have hsame := Channel.provenClosed_unsettled (s.chan c) e
  have hend : endCurrent c n r s = settleEnd c (markEnd n r s) := by
    unfold endCurrent
    simp only [he, hn, Option.isSome_none, Bool.false_eq_true, if_false, ha, reduceCtorEq]
  rw [hend]
  unfold settleEnd
  simp only [hcur]
  refine if_neg ?_
  rw [chan_markEnd he hn (.inl ha), if_pos hchan, hsame.1, hsame.2.1]
  rcases hp with hp | hp <;> simp [hp]

theorem ClosesForAnEnd.congr (h : ClosesForAnEnd c s t) (hc : v.chan c = t.chan c) : ClosesForAnEnd c s v := by
  unfold ClosesForAnEnd at *
  rw [hc]; exact h

/-! ### The entries past an end applied at once -/

/-- The state in which an AWAIT entry's end is applied. -/
def awaitEnded (n : EntryId) (r : EndReason) (s : State) : State := (markEnd n r s).modEntry n fun e => e.finish r (markEnd n r s).now

theorem awaitEnded_entry (he : s.entry n = some e) (hn : e.endPending = none) (ha : e.state = .await) (j : EntryId) :
    (awaitEnded n r s).entry j = if n = j then some (e.endedBy r s.now) else s.entry j := by
  have hnow : (markEnd n r s).now = s.now := (markEnd_writes n r s).now_eq
  rw [awaitEnded, entry_modEntry, entry_markEnd he hn (.inl ha), entry_markEnd he hn (.inl ha), if_pos rfl, hnow]
  split
  · rw [Option.map_some, withEnd_finish]
  · rfl

theorem terminal_endedBy (e : Entry) (r : EndReason) (m : Nat) : (e.endedBy r m).state.terminal = true := by
  rw [← withEnd_finish]; exact terminal_finish ..

theorem chan_awaitEnded (he : s.entry n = some e) (hn : e.endPending = none) (ha : e.state = .await) (d : Chan) :
    (awaitEnded n r s).chan d = if e.chan = d then (s.chan d).unsettled e else s.chan d := chan_markEnd he hn (.inl ha) d

/-- The parts that end an AWAIT entry leave, but for the entries, its channel's holds and the notices. -/
theorem awaitEnded_same (n : EntryId) (r : EndReason) (s : State) : (awaitEnded n r s).header = s.header ∧ (awaitEnded n r s).evals = s.evals
    ∧ (awaitEnded n r s).config = s.config ∧ (awaitEnded n r s).tanks = s.tanks ∧ (awaitEnded n r s).store = s.store
    ∧ ∀ q, ((awaitEnded n r s).port q).ended = (s.port q).ended := by
  have hw := markEnd_writes n r s
  exact ⟨hw.header_eq, hw.evals_eq, hw.config_eq, hw.tanks_eq, hw.store_eq, fun q => hw.ended_eq (q := q)⟩

theorem grantsOk_awaitEnded (hg : s.GrantsOk) (n : EntryId) (r : EndReason) : (awaitEnded n r s).GrantsOk := (markEnd_writes n r s).grantsOk hg

/-- The slots of the entries past an end applied at once: its own is terminal, the next comes up, the others stand. -/
theorem entry_applied (hok : s.CurrentOk) (hc : s.current c = some (n, e)) (hn : e.endPending = none) (ha : e.state = .await) :
    (afterFinish c n r m (awaitEnded n r s)).entry n = some (e.endedBy r s.now)
      ∧ ∀ j f, j ≠ n → s.entry j = some f → (afterFinish c n r m (awaitEnded n r s)).entry j
          = some (if (afterFinish c n r m (awaitEnded n r s)).currentId c = some j then { f with state := .await, lineup := .notReady } else f) := by
  obtain ⟨hid, he⟩ := current_eq_some_iff.mp hc
  have hself := awaitEnded_entry (r := r) he hn ha n
  rw [if_pos rfl] at hself
  refine ⟨?_, fun j f hj hf => ?_⟩
  · rw [entry_afterFinish, entry_promote, hself]
    split
    case isFalse => rfl
    case isTrue h =>
      have hl := (current_live (current_eq_some_iff.mpr ⟨h, hself⟩)).2.2
      rw [terminal_endedBy] at hl; cases hl
  · have hother : (awaitEnded n r s).entry j = some f := by rw [awaitEnded_entry he hn ha, if_neg (Ne.symm hj), hf]
    rw [entry_afterFinish, entry_promote, hother, currentId_afterFinish]
    split
    case isFalse => rfl
    case isTrue h =>
      obtain ⟨-, hfc, hl⟩ := current_live (current_eq_some_iff.mpr ⟨h, hother⟩)
      rw [Option.map_some, promoted_of_ok hok hid hf hj hl hfc]

/-! PROOF. ENTRY-END (R10, R14, R16). -/


variable {P : List Part} {s t v w b : State} {u : TankNo} {c d : Chan} {i j n : EntryId} {e f : Entry} {k : Channel} {r : EndReason} {m : Nat}

/-! ### An end cause, told and answered -/

/-- States that differ in their ports' lines and the queue alone: what an end cause does is said alike of both. -/
structure State.AlikeInPlant (s w : State) : Prop where
  made : w = { s with queue := w.queue, portB := w.portB, portS := w.portS }
  ended : ∀ q, (w.port q).ended = (s.port q).ended

/-- The same, but for the record in slot `n`. -/
structure State.AlikeBut (n : EntryId) (s w : State) : Prop where
  made : w = { s with plan := w.plan, queue := w.queue, portB := w.portB, portS := w.portS }
  other : ∀ j, j ≠ n → w.entry j = s.entry j
  ended : ∀ q, (w.port q).ended = (s.port q).ended

theorem State.AlikeInPlant.but (h : s.AlikeInPlant w) (n : EntryId) : s.AlikeBut n w where
  made := by
    have hmade := h.made
    generalize w.queue = x, w.portB = y, w.portS = z at hmade
    subst hmade; rfl
  other _ _ := by rw [h.made]; rfl
  ended := h.ended

theorem EndsBy.of_alikeBut (h : s.AlikeBut n w) (hb : EndsBy r n e w t) : EndsBy r n e s t := by
  obtain ⟨hmade, hother, hended⟩ := h
  have hnow : w.now = s.now := by rw [hmade]
  have hheader : w.header = s.header := by rw [hmade]
  have hrotated : (if (e.endedBy r w.now).state = .cancelled then w else rotate e.chan w).header
      = (if (e.endedBy r s.now).state = .cancelled then s else rotate e.chan s).header := by
    rw [hnow]
    split
    · exact hheader
    · rw [header_rotate, header_rotate, hheader]
  obtain ⟨happlied, hpending, hclosing⟩ := hb
  have happlied' (ha : e.state = .await) (hp : (w.chan e.chan).provenClosed = true) (hk : (w.chan e.chan).stroking = false) :=
    (happlied ha hp hk).imp_right fun hquiet hst =>
      (hquiet hst).imp (fun h j f hj (hf : s.entry j = some f) => h j f hj ((hother j hj).trans hf)) fun h =>
        h.imp (fun h q => (h q).trans (congrArg (fun v => v.set e.chan.val true) (hended q)))
        fun h => h.imp_right fun h => h.imp_right fun h => h.imp_right fun h => h.imp_right fun h => h.imp_right fun h => h.trans hrotated
  have hpending' (ha : e.state = .await) (hp : (w.chan e.chan).provenClosed = false ∨ (w.chan e.chan).stroking = true) :=
    (hpending ha hp).imp_right fun h => h.imp_left fun h j hj => (h j hj).trans (hother j hj)
  clear happlied hpending hrotated hended hnow hheader hother
  generalize w.plan = o, w.queue = x, w.portB = y, w.portS = z at hmade
  subst hmade
  exact ⟨happlied', hpending', hclosing⟩

theorem EndsBy.of_alike (h : s.AlikeInPlant w) (hb : EndsBy r n e w t) : EndsBy r n e s t := hb.of_alikeBut (h.but n)

theorem withPorts_entry (s : State) (x y : Port) : (s.withPorts x y).entry = s.entry := rfl

theorem endedBy_state (e : Entry) (r : EndReason) (m : Nat) : (e.endedBy r m).state = terminalState r e.delivered := by cases r <;> rfl

/-- AWAIT, the valve closed and still: the end applied (R10, R14). -/
theorem endsBy_applied {x y : Port} (hok : w.PlanOk) (hg : w.GrantsOk) (hc : w.current e.chan = some (n, e)) (hn : e.endPending = none)
    (hev : w.evals = []) (ha : e.state = .await) (hp : (w.chan e.chan).provenClosed = true) (hk : (w.chan e.chan).stroking = false)
    (hports : ∀ q, (((endCurrent e.chan n r w).withPorts x y).port q).ended = ((endCurrent e.chan n r w).port q).ended) (s : State)
    (ht : t = effect (fun _ => (endCurrent e.chan n r w).withPorts x y) s) :
    t.entry n = some (e.endedBy r w.now) ∧ (w.header.state ≠ .serving →
        (∀ j f, j ≠ n → w.entry j = some f →
            t.entry j = some (if t.currentId e.chan = some j then { f with state := .await, lineup := .notReady } else f))
          ∧ (∀ q, (t.port q).ended = (w.port q).ended.set e.chan true)
          ∧ (t.currentId e.chan = none → (t.chan e.chan).authorised = false)
          ∧ (t.currentId e.chan ≠ none → (t.chan e.chan).authorised = (w.chan e.chan).authorised)
          ∧ t.config = w.config ∧ t.tanks = w.tanks ∧ t.store = w.store
          ∧ t.header = (if (e.endedBy r w.now).state = .cancelled then w else rotate e.chan w).header) := by
  obtain ⟨he, -, -⟩ := current_live hc
  have hb := endCurrent_applies (r := r) hc ha hn hp hk
  obtain ⟨hself, hothers⟩ := entry_applied (r := r) (m := e.delivered) hok.2.1 hc hn ha
  obtain ⟨hheader, hevals, hconf, htanks, hstore, hended⟩ := awaitEnded_same n r w
  have hid := fun d => currentId_afterFinish e.chan d n r e.delivered (awaitEnded n r w)
  have hslot : n.val < (endCurrent e.chan n r w).plan.nextId := by
    have hholds : w.Holds n e := ⟨fun _ => hok.slot he, e, he, .refl e⟩
    exact ((endCurrent_writes e.chan n r w).holds hholds).1 trivial
  change endCurrent e.chan n r w = afterFinish e.chan n r e.delivered (awaitEnded n r w) at hb
  rw [← hb] at hself hothers hid
  refine ⟨?_, fun hst => ?_⟩
  · rw [ht]
    exact effect_terminal (g := fun _ => (endCurrent e.chan n r w).withPorts x y) hslot hself (terminal_endedBy ..)
  obtain ⟨hquiet, hchan⟩ := afterFinish_still (c := e.chan) (by rw [hheader]; exact hst) (grantsOk_awaitEnded hg n r) n r e.delivered
  have hheaderF := header_afterFinish e.chan n r e.delivered (awaitEnded n r w)
  have hendedF := ended_afterFinish e.chan n r e.delivered (awaitEnded n r w)
  have hwrites := afterFinish_writes e.chan n r e.delivered (awaitEnded n r w)
  rw [← hb] at hquiet hchan hheaderF hendedF hwrites
  have heff : t = (endCurrent e.chan n r w).withPorts x y := by
    rw [ht]; exact effect_of_no_evals (f := fun _ => (endCurrent e.chan n r w).withPorts x y) (hquiet.trans (hevals.trans hev))
  have hauth : (t.chan e.chan).authorised = ((w.chan e.chan).authorised && (t.currentId e.chan).isSome) := by
    rw [heff]
    change ((endCurrent e.chan n r w).chan e.chan).authorised = (_ && ((endCurrent e.chan n r w).currentId e.chan).isSome)
    rw [hchan, if_pos rfl, hid, chan_awaitEnded he hn ha, if_pos rfl, (Channel.provenClosed_unsettled ..).2.2]
  refine ⟨?_, ?_, fun hnone => by rw [hauth, hnone]; simp, fun hsome => ?_, ?_, ?_, ?_, ?_⟩
  · rw [heff]; exact hothers
  · intro q
    rw [heff, hports, hendedF, hended]
  · rw [hauth, Option.isSome_iff_ne_none.mpr hsome, Bool.and_true]
  · rw [heff]; exact hwrites.config_eq.trans hconf
  · rw [heff]; exact hwrites.tanks_eq.trans htanks
  · rw [heff]; exact hwrites.store_eq.trans hstore
  · rw [heff, endedBy_state]
    refine hheaderF.trans ?_
    unfold rotated
    split
    · exact hheader
    · rw [header_rotate, header_rotate, hheader]

/-- AWAIT, the valve elsewhere: the end pending (R10). -/
theorem endsBy_pending {x y : Port} (hc : w.current e.chan = some (n, e)) (hn : e.endPending = none)
    (hev : w.evals = []) (ha : e.state = .await) (hp : (w.chan e.chan).provenClosed = false ∨ (w.chan e.chan).stroking = true) (s : State)
    (ht : t = effect (fun _ => (endCurrent e.chan n r w).withPorts x y) s) :
    t.entry n = some (e.withEnd r) ∧ (∀ j, j ≠ n → t.entry j = w.entry j)
      ∧ (∀ d, t.chan d = { w.chan d with holds := (t.chan d).holds }) ∧ (e.settling = false → t.channels = w.channels)
      ∧ t.config = w.config ∧ t.tanks = w.tanks ∧ t.store = w.store ∧ t.header = w.header ∧ t.trip = w.trip := by
  obtain ⟨he, -, -⟩ := current_live hc
  have hb := endCurrent_waits (r := r) hc ha hn hp
  have hwrites := markEnd_writes n r w
  have heff : t = (markEnd n r w).withPorts x y := by
    rw [ht, hb]; exact effect_of_no_evals (f := fun _ => (markEnd n r w).withPorts x y) (hwrites.evals_eq.trans hev)
  have hentry (j : EntryId) : t.entry j = if n = j then some (e.withEnd r) else w.entry j := by
    rw [heff]; exact entry_markEnd he hn (.inl ha) j
  have hchan (d : Chan) : t.chan d = if e.chan = d then (w.chan d).unsettled e else w.chan d := by
    rw [heff]; exact chan_markEnd he hn (.inl ha) d
  refine ⟨by rw [hentry, if_pos rfl], fun j hj => by rw [hentry, if_neg (Ne.symm hj)], fun d => ?_, fun hs => ?_, ?_, ?_, ?_, ?_, ?_⟩
  · rw [hchan]
    split
    · exact Channel.unsettled_eq ..
    · rfl
  · refine channels_ext fun d => ?_
    rw [hchan]
    split
    · rw [Channel.unsettled, hs]; rfl
    · rfl
  · rw [heff]; exact hwrites.config_eq
  · rw [heff]; exact hwrites.tanks_eq
  · rw [heff]; exact hwrites.store_eq
  · rw [heff]; exact hwrites.header_eq
  · rw [heff]; exact hwrites.trip_eq

theorem Channel.settling_closed {k : Channel} (hw : k.watched = true) (hs : e.settling = true) (x y : Nat) :
    ((k.unsettled e).valveClosed x y).holds.settling = false := by
  have hoff : (k.unsettled e).holds.has .settling = false := by
    rw [Channel.unsettled, if_pos hs, Channel.holdsWithout_eq]
    have hminus : (k.holds.minus [.settling]).has .settling = false := by rw [HoldSet.has_minus]; simp
    split
    · rw [HoldSet.has_put_of_ne (by decide)]; exact hminus
    · exact hminus
  have hclosing (rs : List HoldReason) : ((k.unsettled e).holds.minus rs).has .settling = false := by
    rw [HoldSet.has_minus, hoff]; rfl
  have hw' : (k.unsettled e).watched = true := by rw [Channel.unsettled_eq]; exact hw
  unfold Channel.watched at hw'
  unfold Channel.valveClosed
  cases h : (k.unsettled e).state with
  | masked | idle | closing | fault => simp [h] at hw'
  | opening => exact hclosing _
  | flowing | held => exact hclosing _

/-- ACTIVE, the valve open or opening: the end pending and the channel closing (R10, R13). -/
theorem endsBy_closing {x y : Port} (hc : w.current e.chan = some (n, e)) (hn : e.endPending = none)
    (hev : w.evals = []) (ha : e.state = .active) (hw : (w.chan e.chan).watched = true) (s : State)
    (ht : t = effect (fun _ => (endCurrent e.chan n r w).withPorts x y) s) :
    t.entry n = some (e.withEnd r) ∧ ClosesForAnEnd e.chan w t
      ∧ (e.settling = true → (t.chan e.chan).holds.settling = false) ∧ t.config = w.config ∧ t.store = w.store := by
  obtain ⟨he, -, -⟩ := current_live hc
  obtain ⟨hend, hclose, hevals⟩ := markClosed (r := r) hc ha hn hw
  have hb := endCurrent_active (r := r) hc ha hn hw
  rw [← hb] at hend hclose hevals
  have hclosing := hclose.1
  have hspare := effect_spares (f := fun _ => (endCurrent e.chan n r w).withPorts x y) (s := s) (c := e.chan) (Channel.asks_of_closing hclosing)
    (Channel.flowsByGrant_of_closing hclosing hclose.2.2.1) (hevals (by rw [hev]; exact List.not_mem_nil))
  have hstands := effect_stands (fun _ => (endCurrent e.chan n r w).withPorts x y) s
  rw [← ht] at hspare hstands
  have hends := (endCurrent_moves e.chan n r w).stands
  refine ⟨entry_of_own hspare.2 hend rfl, hclose.congr hspare.1, fun hs => ?_, hstands.2.1.trans hends.2.1, hstands.2.2.trans hends.2.2⟩
  rw [hspare.1]
  change ((endCurrent e.chan n r w).chan e.chan).holds.settling = false
  have hmark : (markEnd n r w).chan e.chan = (w.chan e.chan).unsettled e := by rw [chan_markEnd he hn (.inr ha), if_pos rfl]
  rw [hb, chan_closeChannel (by rw [hmark, Channel.unsettled_eq]; exact hw), hmark]
  exact Channel.settling_closed hw hs _ _

/-- An end cause on a current entry, told and answered, ends it by its state (R10). -/
theorem endsBy_effect {x y : Port} (hok : w.PlanOk) (hg : w.GrantsOk) (hc : w.current e.chan = some (n, e)) (hn : e.endPending = none)
    (hev : w.evals = [])
    (hports : ∀ q, (((endCurrent e.chan n r w).withPorts x y).port q).ended = ((endCurrent e.chan n r w).port q).ended) (s : State) :
    EndsBy r n e w (effect (fun _ => (endCurrent e.chan n r w).withPorts x y) s) :=
  ⟨fun ha hp hk => endsBy_applied hok hg hc hn hev ha hp hk hports s rfl, fun ha hp => endsBy_pending hc hn hev ha hp s rfl,
    fun ha hw => endsBy_closing hc hn hev ha hw s rfl⟩

/-! PROOF. LINEUP's and ENTRY-END's refusals, and ENTRY-END (R10, R15, R16). -/


variable {P : List Part} {s t v w b : State} {u : TankNo} {c d : Chan} {i j n : EntryId} {e f : Entry} {k : Channel} {r : EndReason} {m : Nat}
  {body : List Byte}

/-! ### The port's own traces in a state (R166) -/

theorem refreshLink_alike (p : Side) (s : State) : s.AlikeInPlant (refreshLink p s) := by
  refine ⟨?_, fun q => ended_refreshLink ..⟩
  have h := refreshLink_eq_withPorts p s
  generalize refreshLink p s = w at h
  generalize w.portB = x, w.portS = y at h
  subst h; rfl

theorem State.AlikeInPlant.planOk (h : s.AlikeInPlant w) (hok : s.PlanOk) : w.PlanOk := by
  have hmade := h.made
  generalize w.queue = x, w.portB = y, w.portS = z at hmade
  subst hmade; exact hok

theorem State.AlikeInPlant.grantsOk (h : s.AlikeInPlant w) (hg : s.GrantsOk) : w.GrantsOk := by
  have hmade := h.made
  generalize w.queue = x, w.portB = y, w.portS = z at hmade
  subst hmade; exact hg

theorem State.AlikeInPlant.entry_eq (h : s.AlikeInPlant w) : w.entry = s.entry := by rw [h.made]; rfl

theorem State.AlikeInPlant.evals_eq (h : s.AlikeInPlant w) : w.evals = s.evals := by rw [h.made]

/-! ### The refusals (R15, R16) -/

/-- What is no current entry's id is refused, by its range first. -/
theorem entryOf_refused (hm : 16 ≤ m ∨ ∀ i : EntryId, m = i → ∀ e, s.entry i = some e → s.currentId e.chan ≠ some i) :
    (16 ≤ m ∧ entryOf m = none) ∨ (¬ 16 ≤ m ∧ ∃ i, entryOf m = some i ∧ ∀ e, s.entry i = some e → s.isCurrent i e = false) := by
  by_cases hr : 16 ≤ m
  · exact .inl ⟨hr, by simp [entryOf, Nat.not_lt.mpr hr]⟩
  · refine .inr ⟨hr, ⟨m, Nat.lt_of_not_le hr⟩, by simp [entryOf, Nat.lt_of_not_le hr], fun e he => ?_⟩
    have hno := (hm.resolve_left hr) ⟨m, Nat.lt_of_not_le hr⟩ rfl e he
    unfold State.isCurrent
    simpa using hno

theorem lineup_refused (x : Lineup) (hm : 16 ≤ m ∨ ∀ i : EntryId, m = i → ∀ e, s.entry i = some e → s.currentId e.chan ≠ some i) :
    doLineup m x s = refuse s (if 16 ≤ m then .range else .notCurrent) := by
  unfold doLineup
  rcases entryOf_refused hm with ⟨hr, hn⟩ | ⟨hr, i, hi, hno⟩
  · rw [hn, if_pos hr]
  · rw [hi, if_neg hr]
    simp only
    cases he : s.entry i with
    | none => rfl
    | some e => simp only [hno e he, Bool.false_eq_true, if_false]

theorem entryEnd_refused (hm : 16 ≤ m ∨ ∀ i : EntryId, m = i → ∀ e, s.entry i = some e → s.currentId e.chan ≠ some i) :
    doEntryEnd m s = refuse s (if 16 ≤ m then .range else .notCurrent) := by
  unfold doEntryEnd
  rcases entryOf_refused hm with ⟨hr, hn⟩ | ⟨hr, i, hi, hno⟩
  · rw [hn, if_pos hr]
  · rw [hi, if_neg hr]
    simp only
    cases he : s.entry i with
    | none => rfl
    | some e => simp only [hno e he, Bool.false_eq_true, if_false]

/-! ### ENTRY-END of a current entry (R16) -/

theorem doEntryEnd_current (he : s.entry n = some e) (hc : s.currentId e.chan = some n) :
    doEntryEnd n s = (endCurrent e.chan n .shipEnd s, .done .nothing) := by
  have hcur : s.isCurrent n e = true := by unfold State.isCurrent; simpa using hc
  unfold doEntryEnd
  rw [entryOf_val]
  simp only [he, hcur, if_true]
  rfl

/-- An ENTRY-END taken: what the end cause does, and the queue as it was. -/
theorem entryEnd_ends (hs : s.Hears .ship) (hok : s.PlanOk) (hg : s.GrantsOk) (hd : decodeRequest .entryEnd body = some (.entryEnd n))
    (he : s.entry n = some e) (hc : s.currentId e.chan = some n) (hn : e.endPending = none) :
    ∃ t : State, exec (.entryEnd .ship body) s = .next t.startSending
      ∧ Answered .ship (bodyTag body) RequestKind.entryEnd.code (.done .nothing) s t ∧ EndsBy .shipEnd n e s t ∧ t.queue = s.queue := by
  have halike := refreshLink_alike .ship s
  have hentry : (refreshLink .ship s).entry n = some e := by rw [halike.entry_eq]; exact he
  have hid : (refreshLink .ship s).currentId e.chan = some n := by rw [currentId_congr halike.entry_eq]; exact hc
  have hhandle : handle .ship (.entryEnd n) (refreshLink .ship s) = (endCurrent e.chan n .shipEnd (refreshLink .ship s), .done .nothing) :=
    doEntryEnd_current hentry hid
  have hans := answered_requestEnd (p := .ship) (k := .entryEnd) (body := body) (r := .entryEnd n) (s := s)
  have hend : requestEnd .ship .entryEnd body (.entryEnd n) s = effect (fun _ => pushReply .ship
      { tag := bodyTag body, kind := RequestKind.entryEnd.code, result := .done .nothing }
      (endCurrent e.chan n .shipEnd (refreshLink .ship s))) s := by rw [requestEnd, hhandle]
  rw [hhandle] at hans
  refine ⟨_, exec_request hs rfl hd, hans, ?_, ?_⟩
  · rw [hend, pushReply_eq_withPorts]
    refine (endsBy_effect (halike.planOk hok) (halike.grantsOk hg) (current_eq_some_iff.mpr ⟨hid, hentry⟩) hn
      (halike.evals_eq.trans hs.1.2) (fun q => ?_) s).of_alike halike
    rw [← pushReply_eq_withPorts, ended_pushReply]
  · rw [hend, (effect_stands _ s).1, pushReply_eq_withPorts]
    exact (endCurrent_moves ..).stands.1.trans (by rw [refreshLink_eq_withPorts]; rfl)

/-- An ENTRY-END of an entry whose end is pending already changes nothing (R10). -/
theorem entryEnd_pending (hs : s.Hears .ship) (hd : decodeRequest .entryEnd body = some (.entryEnd n))
    (he : s.entry n = some e) (hc : s.currentId e.chan = some n) (hn : e.endPending ≠ none) :
    Does (.entryEnd .ship body) .ship .entryEnd body (.done .nothing) [] s s := by
  refine does_of_handle (k := .entryEnd) hs rfl hd hs.1.2 fun a b => ?_
  have hentry : (s.withPorts a b).entry n = some e := he
  have hid : (s.withPorts a b).currentId e.chan = some n := by rw [currentId_congr (withPorts_entry s a b)]; exact hc
  have hsame : endCurrent e.chan n .shipEnd (s.withPorts a b) = s.withPorts a b := by
    unfold endCurrent
    simp only [hentry, Option.isSome_iff_ne_none.mpr hn, if_true]
  exact (doEntryEnd_current hentry hid).trans (by rw [hsame]; rfl)

/-- The lists past a rotation, where the channel stands in them (R113). -/
theorem header_rotate_high (hh : HighItem.chan c ∈ s.header.high) (hl : c ∉ s.header.low) :
    (rotate c s).header.high = s.header.high.filter (· ≠ .chan c) ++ [.chan c] ∧ (rotate c s).header.low = s.header.low := by
  rw [header_rotate, if_neg hl]
  exact ⟨if_pos hh, rfl⟩

theorem header_rotate_low (hl : c ∈ s.header.low) (hh : HighItem.lowToken ∈ s.header.high) :
    (rotate c s).header.high = s.header.high.filter (· ≠ .lowToken) ++ [.lowToken]
      ∧ (rotate c s).header.low = s.header.low.filter (· ≠ c) ++ [c] := by
  rw [header_rotate, if_pos hl]
  exact ⟨if_pos hh, if_pos hl⟩

theorem header_rotate_lists (c : Chan) (s : State) :
    (rotate c s).header = { s.header with high := (rotate c s).header.high, low := (rotate c s).header.low } := by
  rw [header_rotate]
  split <;> rfl

/-- Settles O37: what the end cause does by the entry's state is `endsBy_effect`; where the end is applied at once, the rotation is R113's. -/
theorem entryEndAppliesToAWaitingEntry : Obligations.EntryEndAppliesToAWaitingEntry := by
  refine ⟨?_, fun body n e s hs hok hg hd he hc => ⟨fun hn => entryEnd_ends hs hok hg hd he hc hn, fun hn => entryEnd_pending hs hd he hc hn⟩,
    fun body m s hs hm => ⟨fun v hd => ?_, fun hd => ?_⟩⟩
  · intro body n e s hs hok hg hst hd he hc ha hn hp hk
    obtain ⟨t, hexec, hans, hends, hqueue⟩ := entryEnd_ends hs hok hg hd he hc hn
    obtain ⟨hself, hquiet⟩ := hends.1 ha hp hk
    obtain ⟨hothers, hended, hnone, hsome, hconf, htanks, -, hheader⟩ := hquiet hst
    rw [endedBy_state] at hheader
    have hrotated (hd : 0 < e.delivered) : t.header = (rotate e.chan s).header := by
      have hshort : terminalState .shipEnd e.delivered = .short := if_pos hd
      rw [hheader, hshort]; rfl
    refine ⟨t, hexec, hans, hself, hothers, hended, hnone, hsome, hqueue, hconf, fun u => ?_, ?_, fun hz => ?_, fun hd hh hl => ?_,
      fun hd hl hh => ?_⟩
    · unfold State.tank; rw [htanks]
    · rw [hheader]
      split
      · rfl
      · exact header_rotate_lists ..
    · have hcancelled : terminalState .shipEnd e.delivered = .cancelled := if_neg (Nat.not_lt.mpr (Nat.le_of_eq hz))
      rw [hheader, hcancelled]; rfl
    · rw [hrotated hd]; exact header_rotate_high hh hl
    · rw [hrotated hd]; exact header_rotate_low hl hh
  · exact refuses_of_handle (k := .lineup) hs rfl hd fun a b => lineup_refused v hm
  · exact refuses_of_handle (k := .entryEnd) hs rfl hd fun a b => entryEnd_refused hm

/-! SUPPORT. An end pending on a closing channel, through evaluations of any channel (R10, R53, R81). -/


variable {P : List Part} {s t v w b : State} {u : TankNo} {c d : Chan} {i j n : EntryId} {e f : Entry} {k : Channel} {r : EndReason} {m : Nat}
  {a : EvalKind}

/-- Channel `c` is closing as the record `k` has it, for its current entry `i`, which is ACTIVE with the end `r` pending. -/
structure State.Closing (c : Chan) (i : EntryId) (r : EndReason) (k : Channel) (s : State) : Prop where
  state : k.state = .closing
  grant : k.grant = 0
  entry : ∃ f, s.current c = some (i, f) ∧ f.state = .active ∧ f.endPending = some r ∧ f.settling = false
  chan : ∃ h, s.chan c = { k with highSoon := h }

namespace State.Closing

variable (h : s.Closing c i r k)
include h

theorem still : (s.chan c).asks = false ∧ (s.chan c).FlowsByGrant ∧ (s.chan c).watched = false := by
  obtain ⟨b, hb⟩ := h.chan
  have hstate : (s.chan c).state = .closing := by rw [hb]; exact h.state
  have hgrant : (s.chan c).grant = 0 := by rw [hb]; exact h.grant
  exact ⟨Channel.asks_of_closing hstate, Channel.flowsByGrant_of_closing hstate hgrant, by unfold Channel.watched; rw [hstate]⟩

/-- Kept by what leaves the entries and the channel. -/
theorem of_same (he : t.entry = s.entry) (hc : ∃ b, t.chan c = { s.chan c with highSoon := b }) : t.Closing c i r k where
  state := h.state
  grant := h.grant
  entry := by rw [current_congr he]; exact h.entry
  chan := by
    obtain ⟨x, hx⟩ := h.chan
    obtain ⟨b, hb⟩ := hc
    exact ⟨b, by rw [hb, hx]⟩

theorem of_told (hw : Writes P s t) (hp : ∀ p ∈ P, p.item ≠ .plan ∧ p.item ≠ .channels ∧ p.item ≠ .many := by decide) : t.Closing c i r k :=
  h.of_same (hw.entry_eq fun p hpP => ⟨(hp p hpP).1, (hp p hpP).2.2⟩)
    ⟨(s.chan c).highSoon, congrFun (hw.chan_eq fun p hpP => ⟨(hp p hpP).2.1, (hp p hpP).2.2⟩) c⟩

/-- Kept by a write of the entry that keeps its place, its end and a slug not settling. -/
theorem modEntry {g : Entry → Entry} (hg : ∀ e, (g e).chan = e.chan ∧ (g e).state = e.state ∧ (g e).endPending = e.endPending)
    (hs : ∀ e, e.settling = false → (g e).settling = false) : (s.modEntry i g).Closing c i r k where
  state := h.state
  grant := h.grant
  entry := by
    obtain ⟨f, hf, hact, hend, hslug⟩ := h.entry
    obtain ⟨hc, hst, he⟩ := hg f
    exact ⟨g f, current_modEntry hf hc (by rw [hst]; exact (current_live hf).2.2), hst.trans hact, he.trans hend, hs f hslug⟩
  chan := h.chan

theorem regrant (z : Bool) : (regrant z s).Closing c i r k :=
  h.of_same (regrant_writes z s).entry_eq ⟨(s.chan c).highSoon, (regrant_spares z c s).chan h.still.1 h.still.2.1⟩

theorem setHighSoon (d : Chan) (b : Bool) : (setHighSoon d b s).Closing c i r k := by
  refine h.of_same (setHighSoon_writes ..).entry_eq ?_
  rw [chan_setHighSoon]
  split
  case isTrue hd => subst hd; exact ⟨b, rfl⟩
  case isFalse => exact ⟨_, rfl⟩

theorem lowerStage (st : Stage) : (lowerStage i st s).Closing c i r k :=
  (h.modEntry (g := fun e => { e with stage := some st }) (fun _ => ⟨rfl, rfl, rfl⟩) fun _ hs => hs).of_told (noteEntry_writes ..)

theorem closeChannel : closeChannel c s = s := by
  unfold Machine.closeChannel
  simp only [h.still.2.2, Bool.false_eq_true, if_false]

theorem markEnd (x : EndReason) : markEnd i x s = s := by
  obtain ⟨f, hf, -, hend, -⟩ := h.entry
  unfold Machine.markEnd
  simp only [(current_live hf).1, hend, Option.isNone_some, Bool.false_and, Bool.false_eq_true, if_false]

theorem clearSlug : (clearSlug i s).Closing c i r k := by
  obtain ⟨f, hf, hact, hend, hslug⟩ := h.entry
  have he := (current_live hf).1
  unfold Machine.clearSlug
  simp only [he, hslug, Bool.false_eq_true, if_false]
  split
  · exact h.modEntry (g := fun e => { e with slug := some { phase := .idle, size := none, base := none } }) (fun _ => ⟨rfl, rfl, rfl⟩) fun _ _ => rfl
  · exact h

theorem finalStage : (finalStage c i s).Closing c i r k := by
  rw [Machine.finalStage, h.markEnd, h.clearSlug.closeChannel]
  exact h.clearSlug

theorem sizeSlug (x : Nat) (y : Int) : sizeSlug c i x y s = s := by
  obtain ⟨f, hf, -, hend, -⟩ := h.entry
  unfold Machine.sizeSlug
  simp only [(current_live hf).1, hend, Option.isNone_some, Bool.and_false, Bool.false_eq_true, if_false]

omit h in
theorem ite {p : Prop} [Decidable p] (ht : t.Closing c i r k) (hv : v.Closing c i r k) : (if p then t else v).Closing c i r k := by
  split
  · exact ht
  · exact hv

end State.Closing

theorem State.Closing.applyStage (h : s.Closing c i r k) (a : EvalKind) (x : LevelHalf) (y : TankDecl) : (applyStage a c i x y s).Closing c i r k := by
  unfold Machine.applyStage
  split
  case h_2 => exact h
  case h_1 e _ =>
    simp only
    split
    · have hset := h.modEntry (g := fun e => { e with stage := some x.computed }) (fun _ => ⟨rfl, rfl, rfl⟩) fun _ hs => hs
      exact State.Closing.ite hset.finalStage (State.Closing.ite (by rw [hset.sizeSlug]; exact hset) hset)
    case h_2 held _ =>
      have hfell : (if decide (held.lower x.computed ≠ held) = true then Machine.lowerStage i (held.lower x.computed) s else s).Closing c i r k :=
        State.Closing.ite (h.lowerStage _) h
      have hgrant (p : Prop) [Decidable p] := State.Closing.ite (p := p) (hfell.regrant false) hfell
      exact State.Closing.ite (State.Closing.ite hfell.finalStage hfell) (State.Closing.ite (by rw [(hgrant _).sizeSlug]; exact hgrant _) (hgrant _))

theorem State.Closing.judgeMargin (h : s.Closing c i r k) (ha : a ≠ .settlingEnd) (e : Entry) : (judgeMargin a c i e s).Closing c i r k := by
  have hlevel : (levelSteps a c i e s).Closing c i r k := by
    unfold levelSteps
    split
    case h_2 => exact h
    case h_1 x y _ _ =>
      unfold levelEffects
      simp only [ha, if_false]
      exact ((h.of_told (judgeAbove_writes e.tank s)).setHighSoon c x.t.soon).applyStage a x y
  have hmeter (n : Nat) : meterHalf c i n (levelSteps a c i e s) = levelSteps a c i e s := by
    obtain ⟨f, hf, -, hend, -⟩ := hlevel.entry
    unfold meterHalf
    simp only [(current_live hf).1, hend, reduceCtorEq, false_and, and_false, if_false]
  unfold Machine.judgeMargin
  simp only
  rw [hmeter]
  exact hlevel.modEntry (fun _ => ⟨rfl, rfl, rfl⟩) fun _ hs => hs

/-- An evaluation of any channel leaves the closing one with its end pending: it is on its way, and only its limit applies the end. -/
theorem State.Closing.evaluate (h : s.Closing c i r k) (d : Chan) : (evaluate .change d s).Closing c i r k := by
  by_cases hd : d = c
  · subst hd
    obtain ⟨f, hf, hact, hend, -⟩ := h.entry
    rw [evaluate_eq (activeEntry_eq_some_iff.mpr ⟨hf, hact⟩), settleSet, hend]
    exact h.judgeMargin (by decide) f
  · have hspare := evaluate_spares hd .change s
    have hc := hspare.chan h.still.1 h.still.2.1
    refine ⟨h.state, h.grant, ?_, by rw [hc]; exact h.chan⟩
    rw [current_of_own hspare.own]; exact h.entry

theorem State.Closing.runEvals (m : Nat) {s : State} (h : s.Closing c i r k) : (runEvals m s).Closing c i r k := by
  induction m generalizing s with
  | zero => exact h
  | succ m ih =>
    unfold Machine.runEvals
    split
    · exact h
    case h_2 d rest _ => exact ih ((h.of_same (t := { s with evals := rest }) rfl ⟨_, rfl⟩).evaluate d)

theorem State.Closing.effect {g : State → State} (h : (g s).Closing c i r k) : (effect g s).Closing c i r k :=
  (h.runEvals evalBudget).of_same rfl ⟨_, rfl⟩

/-! PROOF. An adopted AMEND and an adopted CANCEL (R7, R8, R11, R60). -/


variable {P : List Part} {s t v w b : State} {u : TankNo} {c d : Chan} {i j n : EntryId} {e f g : Entry} {k : Channel} {r : EndReason} {m : Nat}
  {p : Side} {q : Proposal} {x : Instr} {o : RequestKind} {body : List Byte}

/-! ### An adoption carried out, its evaluations run (R137) -/

theorem adopting_alike (s : State) (p : Side) (q : Proposal) : s.AlikeInPlant (s.adopting p q) :=
  ⟨by rw [s.adopting_eq p q], fun y => (s.ended_adopting p q y).trans (ended_refreshLink ..)⟩

/-- An adoption whose check passes: what it carries out, told, answered and evaluated. -/
theorem adoption_effect (hs : s.Hears p) (hc : Consents x p o body q s) (hrej : (refreshLink p s).reject q.body = none) :
    ∃ (t : State) (a b : Port), exec x s = .next t.startSending ∧ Answered p (bodyTag body) o.code (.adopted q.id) s t
      ∧ t = effect (fun _ => (carryOut q.body (s.adopting p q)).withPorts a b) s
      ∧ ∀ y, (((carryOut q.body (s.adopting p q)).withPorts a b).port y).ended = ((carryOut q.body (s.adopting p q)).port y).ended := by
  obtain ⟨r, rfl, hp, hd, hr⟩ := hc.handle
  have hs1 := refreshLink_eq_withPorts p s
  have hhandle : handle p r (refreshLink p s) = (carryOut q.body (s.adopting p q), .adopted q.id) :=
    (hr _ (by rw [hs1]; rfl) (assigned_congr (by rw [hs1]; rfl) _)).trans (adopt_carried hrej)
  have hans := answered_requestEnd (p := p) (k := o) (body := body) (r := r) (s := s)
  have hend : requestEnd p o body r s = effect (fun _ => pushReply p { tag := bodyTag body, kind := o.code, result := .adopted q.id }
      (carryOut q.body (s.adopting p q))) s := by rw [requestEnd, hhandle]
  rw [hhandle] at hans
  rw [pushReply_eq_withPorts] at hend
  exact ⟨_, _, _, exec_request hs hp hd, hans, hend, fun y => by rw [← pushReply_eq_withPorts, ended_pushReply]⟩

theorem entryReject_none (he : s.entry n = some e) (hl : e.state.terminal = false) : s.entryReject n = none := by
  unfold State.entryReject
  simp only [he, hl, Bool.false_eq_true, if_false]

/-! ### CANCEL (R8) -/

theorem adoptCancel_current (he : s.entry n = some e) (hq : e.state ≠ .queued) : adoptCancel n s = endCurrent e.chan n .cancel s := by
  unfold adoptCancel
  rw [he]
  exact if_neg hq

/-- An adopted CANCEL of a current entry with no end pending: the end CANCEL. -/
theorem cancel_ends (hs : s.Hears p) (hok : s.PlanOk) (hg : s.GrantsOk) (hc : Consents x p o body q s) (he : s.entry n = some e)
    (hid : s.currentId e.chan = some n) (hb : q.body = .cancel n) (hn : e.endPending = none) :
    ∃ t : State, exec x s = .next t.startSending ∧ Answered p (bodyTag body) o.code (.adopted q.id) s t ∧ EndsBy .cancel n e s t
      ∧ t.queue = { s.queue with proposals := s.queue.proposals.filter fun x => x.id != q.id } := by
  have halike := adopting_alike s p q
  have hcur : s.current e.chan = some (n, e) := current_eq_some_iff.mpr ⟨hid, he⟩
  have hl := (current_live hcur).2.2
  have hcurA : (s.adopting p q).current e.chan = some (n, e) := by rw [current_congr halike.entry_eq]; exact hcur
  obtain ⟨t, a, b, hexec, hans, ht, hports⟩ := adoption_effect hs hc
    (by rw [hb]; exact entryReject_none (by rw [(refreshLink_alike p s).entry_eq]; exact he) hl)
  have hcarry : carryOut q.body (s.adopting p q) = endCurrent e.chan n .cancel (s.adopting p q) := by
    rw [hb]
    exact adoptCancel_current (by rw [halike.entry_eq]; exact he) ((hok.2.1 n e he hl).mpr hid)
  rw [hcarry] at ht hports
  refine ⟨t, hexec, hans, ?_, ?_⟩
  · rw [ht]
    exact (endsBy_effect (halike.planOk hok) (halike.grantsOk hg) hcurA hn (halike.evals_eq.trans hs.1.2) hports s).of_alike halike
  · rw [ht, (effect_stands _ s).1]
    exact (endCurrent_moves ..).stands.1.trans (by rw [s.adopting_eq p q]; rfl)

/-- With an end pending already an adopted CANCEL changes nothing. -/
theorem cancel_pending (hs : s.Hears p) (hok : s.PlanOk) (hc : Consents x p o body q s) (he : s.entry n = some e)
    (hid : s.currentId e.chan = some n) (hb : q.body = .cancel n) (hn : e.endPending ≠ none) :
    Does x p o body (.adopted q.id) [.proposal (.adopted p) q.id q.side q.body q.arrival s.now] s
      { s with queue := { s.queue with proposals := s.queue.proposals.filter fun x => x.id != q.id } } := by
  obtain ⟨req, rfl, hp, hd, hh⟩ := hc.handle
  have hl := (current_live (current_eq_some_iff.mpr ⟨hid, he⟩)).2.2
  refine does_of_handle hs hp hd hs.1.2 fun y z => ?_
  have hentry : (s.withPorts y z).entry n = some e := he
  have hnone : (s.withPorts y z).reject q.body = none := by rw [hb]; exact entryReject_none hentry hl
  have hcancel (w : State) (hw : w.entry n = some e) : adoptCancel n w = w := by
    rw [adoptCancel_current hw ((hok.2.1 n e he hl).mpr hid)]
    unfold endCurrent
    simp only [hw, Option.isSome_iff_ne_none.mpr hn, if_true]
  rw [hh (s.withPorts y z) rfl (assigned_congr rfl _), adopt_carried hnone, hb, carryOut, hcancel, noteProposal, hb]
  · rfl
  · exact hentry

/-- An adopted CANCEL of a QUEUED entry ends it at once (R8). -/
theorem cancel_queued (hs : s.Hears p) (hc : Consents x p o body q s) (he : s.entry n = some e) (hb : q.body = .cancel n)
    (hq : e.state = .queued) (hz : e.delivered = 0)
    (hf : f = { e with state := .cancelled, endReason := some .cancel, endPending := none, ended := some s.now }) :
    Does x p o body (.adopted q.id)
      [.proposal (.adopted p) q.id q.side q.body q.arrival s.now, .entry .state (f.view n) s.now] s
      { s with queue := { s.queue with proposals := s.queue.proposals.filter fun x => x.id != q.id },
               plan := { s.plan with slots := s.plan.slots.set n (some f) } } := by
  obtain ⟨req, rfl, hp, hd, hh⟩ := hc.handle
  refine does_of_handle hs hp hd hs.1.2 fun y z => ?_
  have hentry : (s.withPorts y z).entry n = some e := he
  have hnone : (s.withPorts y z).reject q.body = none := by rw [hb]; exact entryReject_none hentry (by rw [hq]; rfl)
  have hfinish : e.finish .cancel s.now = f := by
    rw [hf, Entry.finish, terminalState, if_neg (by omega)]
  have hcancel (w : State) (hw : w.entry n = some e) (hnow : w.now = s.now) :
      adoptCancel n w = raise (.entry .state (f.view n) s.now) (w.setEntry n (some f)) := by
    unfold adoptCancel
    simp only [hw, hq, if_true]
    have hmade : (w.modEntry n fun e => e.finish .cancel w.now) = w.setEntry n (some f) := by
      rw [State.modEntry, hw, Option.map_some, hnow, hfinish]
    rw [hmade, noteEntry_of (e := f) (by rw [entry_setEntry, if_pos rfl])]
    exact congrArg (fun y => raise (.entry .state (f.view n) y) (w.setEntry n (some f))) hnow
  rw [hh (s.withPorts y z) rfl (assigned_congr rfl _), adopt_carried hnone, hb, carryOut, hcancel, noteProposal, hb]
  · rfl
  · exact hentry
  · rfl

/-! ### AMEND (R7) -/

/-- The entry as an AMEND writes its figures. -/
def Entry.amended (e : Entry) (a rate : Nat) : Entry := { e with allotment := a, planRate := rate }

/-- The part with an AMEND's figures written and told. -/
def amendWritten (n : EntryId) (e : Entry) (a y : Nat) (s : State) : State :=
  noteEntry .amended n (s.modEntry n fun f => f.amended a (s.clampRate e.chan y))

theorem amendWritten_writes (n : EntryId) (e : Entry) (a y : Nat) (s : State) :
    Writes [.notices] (s.modEntry n fun f => f.amended a (s.clampRate e.chan y)) (amendWritten n e a y s) := noteEntry_writes ..

theorem amendWritten_entry (he : s.entry n = some e) (a y : Nat) (j : EntryId) :
    (amendWritten n e a y s).entry j = if n = j then some (e.amended a (s.clampRate e.chan y)) else s.entry j := by
  rw [(amendWritten_writes n e a y s).entry_eq, entry_modEntry, he]
  rfl

theorem adoptAmend_eq (he : s.entry n = some e) (a y : Nat) : adoptAmend n a y s =
    if e.state = .active then workMargin e.chan n (if s.clampRate e.chan y = e.planRate then testAllotment e.chan n (amendWritten n e a y s)
      else regrant false (testAllotment e.chan n (amendWritten n e a y s)))
    else testAllotment e.chan n (amendWritten n e a y s) := by
  unfold adoptAmend
  rw [he]
  rfl

theorem testAllotment_skips (he : s.entry n = some e)
    (h : ¬ ((e.state = .await ∨ e.state = .active) ∧ e.endPending = none ∧ e.remaining = 0)) : testAllotment c n s = s := by
  unfold testAllotment
  rw [he]
  exact if_neg h

theorem testAllotment_ends (he : s.entry n = some e) (hs : e.state = .await ∨ e.state = .active) (hn : e.endPending = none)
    (hz : e.remaining = 0) : testAllotment c n s = endCurrent c n .allotment s := by
  unfold testAllotment
  rw [he]
  exact if_pos ⟨hs, hn, hz⟩

/-- An AMEND of a QUEUED entry, or of an AWAIT one with something remaining, writes the figures and no more. -/
theorem amend_waiting (hs : s.Hears p) (hc : Consents x p o body q s) (he : s.entry n = some e) {a y : Nat} (hb : q.body = .amend n a y)
    (hw : e.state = .queued ∨ (e.state = .await ∧ e.delivered < a))
    (hf : f = { e with allotment := a, planRate := min y (s.chanConfig e.chan).hoseMaxRate }) :
    Does x p o body (.adopted q.id)
      [.proposal (.adopted p) q.id q.side q.body q.arrival s.now, .entry .amended (f.view n) s.now] s
      { s with queue := { s.queue with proposals := s.queue.proposals.filter fun x => x.id != q.id },
               plan := { s.plan with slots := s.plan.slots.set n (some f) } } := by
  obtain ⟨req, rfl, hp, hd, hh⟩ := hc.handle
  refine does_of_handle hs hp hd hs.1.2 fun z z' => ?_
  have hentry : (s.withPorts z z').entry n = some e := he
  have hlive : e.state.terminal = false ∧ e.state ≠ .active := by
    rcases hw with h | ⟨h, -⟩ <;> rw [h] <;> exact ⟨rfl, by decide⟩
  have hnone : (s.withPorts z z').reject q.body = none := by rw [hb]; exact entryReject_none hentry hlive.1
  have hfa : e.amended a (s.clampRate e.chan y) = f := hf.symm
  have hamend (w : State) (hwe : w.entry n = some e) (hnow : w.now = s.now) (hconf : w.clampRate e.chan y = s.clampRate e.chan y) :
      adoptAmend n a y w = raise (.entry .amended (f.view n) s.now) (w.setEntry n (some f)) := by
    have hmade : (w.modEntry n fun e' => e'.amended a (w.clampRate e.chan y)) = w.setEntry n (some f) := by
      rw [State.modEntry, hwe, Option.map_some, hconf, hfa]
    have hwritten : amendWritten n e a y w = raise (.entry .amended (f.view n) w.now) (w.setEntry n (some f)) := by
      rw [amendWritten, hmade, noteEntry_of (e := f) (by rw [entry_setEntry, if_pos rfl])]
      rfl
    have hsame : (amendWritten n e a y w).entry n = some f := by rw [amendWritten_entry hwe, if_pos rfl, hconf, hfa]
    rw [adoptAmend_eq hwe, if_neg hlive.2, testAllotment_skips hsame, hwritten, hnow]
    rintro ⟨hst, -, hz⟩
    have hstate : f.state = e.state := by rw [hf]
    have hleft : f.remaining = a - e.delivered := by rw [hf]; rfl
    rcases hw with h | ⟨-, hlt⟩
    · rw [hstate, h] at hst; rcases hst with h | h <;> cases h
    · omega
  rw [hh (s.withPorts z z') rfl (assigned_congr rfl _), adopt_carried hnone, hb, carryOut, hamend, noteProposal, hb]
  · rfl
  · exact hentry
  · rfl
  · rfl

/-! PROOF. An adopted AMEND of a current entry (R7, R11, R60). -/


variable {P : List Part} {s t v w b : State} {u : TankNo} {c d : Chan} {i j n : EntryId} {e f g : Entry} {k : Channel} {r : EndReason} {m a y : Nat}
  {p : Side} {q : Proposal} {x : Instr} {o : RequestKind} {body : List Byte}

/-! ### The moves of an AMEND -/

theorem testAllotment_moves (c : Chan) (i : EntryId) (s : State) : Moves s (testAllotment c i s) := by
  unfold testAllotment
  split
  · exact .ite (endCurrent_moves ..) (.refl s)
  · exact .refl s

theorem workMargin_moves (c : Chan) (i : EntryId) (s : State) : Moves s (workMargin c i s) := by
  have hre := modEntry_moves i Entry.reworkMargin s
  unfold workMargin
  simp only
  split
  · exact .ite (hre.trans (endCurrent_moves ..)) hre
  · exact hre

theorem adoptAmend_moves (n : EntryId) (a y : Nat) (s : State) : Moves s (adoptAmend n a y s) := by
  cases he : s.entry n with
  | none => unfold adoptAmend; rw [he]; exact .refl s
  | some e =>
    have hwritten := (modEntry_moves n (fun f => f.amended a (s.clampRate e.chan y)) s).trans (amendWritten_writes n e a y s).told
    have htest := hwritten.trans (testAllotment_moves e.chan n _)
    rw [adoptAmend_eq he]
    exact .ite ((Moves.ite htest (htest.trans (regrant_moves ..))).trans (workMargin_moves ..)) htest

/-- An adopted AMEND of an entry not terminal: what it carries out, told, answered and evaluated. -/
theorem amend_effect (hs : s.Hears p) (hc : Consents x p o body q s) (he : s.entry n = some e) (hl : e.state.terminal = false)
    (hb : q.body = .amend n a y) : ∃ (t : State) (z z' : Port), exec x s = .next t.startSending
      ∧ Answered p (bodyTag body) o.code (.adopted q.id) s t ∧ t = effect (fun _ => (adoptAmend n a y (s.adopting p q)).withPorts z z') s
      ∧ (∀ l, (((adoptAmend n a y (s.adopting p q)).withPorts z z').port l).ended = ((adoptAmend n a y (s.adopting p q)).port l).ended)
      ∧ t.queue = { s.queue with proposals := s.queue.proposals.filter fun x => x.id != q.id } := by
  obtain ⟨t, z, z', hexec, hans, ht, hports⟩ := adoption_effect hs hc
    (by rw [hb]; exact entryReject_none (by rw [(refreshLink_alike p s).entry_eq]; exact he) hl)
  rw [hb] at ht hports
  refine ⟨t, z, z', hexec, hans, ht, hports, ?_⟩
  rw [ht, (effect_stands _ s).1]
  exact (adoptAmend_moves ..).stands.1.trans (by rw [s.adopting_eq p q]; rfl)

/-! ### The part with the figures written -/

/-- The part an AMEND's figures leave, before its remaining is tested: the entry's record, the queue and notices. -/
theorem amendWritten_alike (hw : s.AlikeInPlant w) (he : s.entry n = some e) : s.AlikeBut n (amendWritten n e a y w) where
  made := by
    have hmade := (amendWritten_writes n e a y w).only_ports
    have hsame := hw.made
    generalize amendWritten n e a y w = v at hmade
    generalize w.queue = x, w.portB = l, w.portS = l' at hsame
    subst hsame
    generalize v.portB = l, v.portS = l' at hmade
    subst hmade
    rfl
  other j hj := by
    rw [amendWritten_entry (by rw [hw.entry_eq]; exact he), if_neg (Ne.symm hj), hw.entry_eq]
  ended l := ((amendWritten_writes n e a y w).ended_eq (q := l)).trans (hw.ended l)

theorem State.AlikeBut.chan_eq (h : s.AlikeBut n w) : w.chan = s.chan := by unfold State.chan; rw [h.made]
theorem State.AlikeBut.evals_eq (h : s.AlikeBut n w) : w.evals = s.evals := by rw [h.made]
theorem State.AlikeBut.header_eq (h : s.AlikeBut n w) : w.header = s.header := by rw [h.made]

theorem State.AlikeBut.grantsOk (h : s.AlikeBut n w) (hg : s.GrantsOk) : w.GrantsOk := by
  have hmade := h.made
  generalize w.plan = o, w.queue = x, w.portB = y, w.portS = z at hmade
  subst hmade; exact hg

theorem ClosesForAnEnd.of_alike (h : s.AlikeBut n w) (hc : ClosesForAnEnd c w t) : ClosesForAnEnd c s t := by
  have hmade := h.made
  generalize w.plan = o, w.queue = x, w.portB = y, w.portS = z at hmade
  subst hmade; exact hc

theorem amendWritten_planOk (hok : s.PlanOk) (he : s.entry n = some e) (hl : e.state.terminal = false) :
    (amendWritten n e a y s).PlanOk := by
  have hset : (s.modEntry n fun f => f.amended a (s.clampRate e.chan y)).PlanOk := by
    simp only [State.modEntry, he, Option.map_some]
    exact planOk_figures hok he (.of_same hl rfl rfl rfl rfl rfl rfl rfl)
  have hw := amendWritten_writes n e a y s
  exact planOk_congr hset hw.plan_eq hw.total_eq

theorem amendWritten_current (hc : s.current e.chan = some (n, e)) :
    (amendWritten n e a y s).current e.chan = some (n, e.amended a (s.clampRate e.chan y)) := by
  rw [current_congr (amendWritten_writes n e a y s).entry_eq]
  exact current_modEntry hc rfl (current_live hc).2.2

/-! ### A closing channel with the end pending, and the margin worked after it -/

theorem settling_withEnd (e : Entry) (r : EndReason) : (e.withEnd r).settling = false := by
  unfold Entry.settling Entry.withEnd
  cases e.slug <;> rfl

/-- What an end set with its close leaves is a closing channel with its end pending. -/
theorem closing_of_marked (hc : s.current c = some (n, e)) (ha : e.state = .active) (hn : e.endPending = none) (hw : (s.chan c).watched = true) :
    (closeChannel c (markEnd n r s)).Closing c n r ((closeChannel c (markEnd n r s)).chan c) where
  state := (markClosed (r := r) hc ha hn hw).2.1.1
  grant := (markClosed (r := r) hc ha hn hw).2.1.2.2.1
  entry := by
    have hcur := current_markEnd (r := r) hc hn (.inr ha)
    refine ⟨e.withEnd r, ?_, ha, rfl, settling_withEnd e r⟩
    rw [current_congr (closeChannel_writes ..).entry_eq]; exact hcur
  chan := ⟨_, rfl⟩

/-- With its end pending an entry's margin worked again is recorded, and ends nothing more. -/
theorem workMargin_pending (he : s.entry n = some e) (hn : e.endPending ≠ none) : workMargin c n s = s.modEntry n Entry.reworkMargin := by
  have hre : (s.modEntry n Entry.reworkMargin).entry n = some e.reworkMargin := by rw [entry_modEntry_self, he]; rfl
  have hend : e.reworkMargin.endPending.isSome = true := by rw [Entry.reworkMargin_eq]; exact Option.isSome_iff_ne_none.mpr hn
  have hidle : endCurrent c n .allotment (s.modEntry n Entry.reworkMargin) = s.modEntry n Entry.reworkMargin := by
    unfold endCurrent
    simp only [hre, hend, if_true]
  unfold workMargin
  simp only [hre, hidle, ite_self]

theorem Entry.reworkMargin_map (e : Entry) :
    e.reworkMargin = { e with margin := e.margin.map fun x => { x with mm := meterMargin e.remaining x.aClose } } := by
  obtain ⟨_, _, _, _, _, _, _, _, _, _, _, _, _, _, _, _, _, _, _, margin, _, _⟩ := e
  cases margin <;> rfl

theorem reworkMargin_withEnd (e : Entry) (r : EndReason) : (e.withEnd r).reworkMargin = e.reworkMargin.withEnd r := by
  rw [Entry.reworkMargin_map, Entry.reworkMargin_map]
  rfl

/-- A channel that closed for an end from a state with the same lasting items. -/
theorem ClosesForAnEnd.of_before (h : ClosesForAnEnd c w t) (hstate : (w.chan c).state = .opening ↔ (s.chan c).state = .opening)
    (hauth : (w.chan c).authorised = (s.chan c).authorised) (hstop : (w.chan c).lastStop = (s.chan c).lastStop)
    (hhose : (w.chan c).hose = (s.chan c).hose) (hstart : (w.chan c).openingStarted = (s.chan c).openingStarted)
    (hnow : w.now = s.now) (hconf : w.config = s.config) : ClosesForAnEnd c s t := by
  obtain ⟨h1, h2, h3, h4, h5, h6, h7, h8, h9⟩ := h
  have hexp : w.expiry = s.expiry := by unfold State.expiry; rw [hnow]
  have hchan : w.chanConfig c = s.chanConfig c := by unfold State.chanConfig; rw [hconf]
  refine ⟨h1, h2, h3, h4, h5.trans hauth, h6.trans hstop, h7.trans hhose, fun hn => ?_, fun x ho hx => ?_⟩
  · rw [← hexp, ← hchan]; exact h8 fun ho => hn (hstate.mp ho)
  · rw [← hexp, ← hnow]; exact h9 x (hstate.mpr ho) (hstart.trans hx)

theorem Channel.granted_lasts (k : Channel) (g x : Nat) : ((k.granted g x).state = .opening ↔ k.state = .opening)
    ∧ (k.granted g x).authorised = k.authorised ∧ (k.granted g x).lastStop = k.lastStop ∧ (k.granted g x).hose = k.hose
    ∧ (k.granted g x).openingStarted = k.openingStarted ∧ (k.granted g x).watched = k.watched := by
  unfold Channel.granted Channel.watched
  cases hs : k.state with
  | flowing | held =>
    simp only
    split
    · exact ⟨by simp, rfl, rfl, rfl, rfl, by simp⟩
    · exact ⟨by simp, rfl, rfl, rfl, rfl, by simp⟩
  | masked | idle | opening | closing | fault => exact ⟨by simp, rfl, rfl, rfl, rfl, by simp⟩

/-! PROOF. An adopted AMEND of a current entry, by its state and what remains (R7, R11, R60). -/


variable {P : List Part} {s t v w z : State} {u : TankNo} {c d : Chan} {i j n : EntryId} {e f g : Entry} {k : Channel} {r : EndReason} {m a y : Nat}
  {p : Side} {q : Proposal} {x : Instr} {o : RequestKind} {body : List Byte} {l l' : Port}

/-! ### A closing channel through the evaluations -/

/-- A channel that has closed for an end and is not handed on stands through the evaluations, with its entries. -/
theorem closing_stands (he : z.entry n = some f) (hf : f.chan = c) (hclose : ClosesForAnEnd c w z) (hv : c ∉ z.evals) (l l' : Port) (s : State) :
    (effect (fun _ => z.withPorts l l') s).entry n = some f ∧ ClosesForAnEnd c w (effect (fun _ => z.withPorts l l') s)
      ∧ (effect (fun _ => z.withPorts l l') s).chan c = z.chan c := by
  have hspare := effect_spares (f := fun _ => z.withPorts l l') (s := s) (c := c) (Channel.asks_of_closing hclose.1)
    (Channel.flowsByGrant_of_closing hclose.1 hclose.2.2.1) hv
  exact ⟨entry_of_own hspare.2 he hf, hclose.congr hspare.1, hspare.1⟩

/-- One that is handed on closes all the same, its end pending, and the entry keeps its course. -/
theorem closing_pending (hc : z.current c = some (n, f)) (ha : f.state = .active) (hn : f.endPending = some r) (hs : f.settling = false)
    (hclose : ClosesForAnEnd c w z) (l l' : Port) (s : State) :
    (∃ g, (effect (fun _ => z.withPorts l l') s).entry n = some g ∧ g.endPending = some r)
      ∧ ClosesForAnEnd c w (effect (fun _ => z.withPorts l l') s) := by
  have hclosing : (z.withPorts l l').Closing c n r (z.chan c) := ⟨hclose.1, hclose.2.2.1, ⟨f, hc, ha, hn, hs⟩, _, rfl⟩
  have hend := State.Closing.effect (g := fun _ => z.withPorts l l') (s := s) hclosing
  obtain ⟨g, hg, -, hpend, -⟩ := hend.entry
  obtain ⟨b, hb⟩ := hend.chan
  refine ⟨⟨g, (current_live hg).1, hpend⟩, ?_⟩
  unfold ClosesForAnEnd at *
  rw [hb]; exact hclose

/-! ### Nothing remains (R11) -/

/-- An ACTIVE entry with nothing remaining, its valve open or opening: it closes, and its margin is worked with the end pending. -/
theorem exhausted_closes (hc : v.current g.chan = some (n, g)) (ha : g.state = .active) (hn : g.endPending = none) (hz : g.remaining = 0)
    (hw : (v.chan g.chan).watched = true) (b : Prop) [Decidable b] (hv : g.chan ∉ v.evals)
    (hwork : z = workMargin g.chan n (if b then testAllotment g.chan n v else regrant false (testAllotment g.chan n v))) :
    z.entry n = some (g.reworkMargin.withEnd .allotment) ∧ ClosesForAnEnd g.chan v z ∧ g.chan ∉ z.evals
      ∧ z.chan g.chan = (closeChannel g.chan (markEnd n .allotment v)).chan g.chan := by
  have he := (current_live hc).1
  obtain ⟨hend, hclose, hevals⟩ := markClosed (r := .allotment) hc ha hn hw
  have hclosing := closing_of_marked (r := .allotment) hc ha hn hw
  rw [testAllotment_ends he (.inr ha) hn hz, endCurrent_active hc ha hn hw] at hwork
  have hspare := regrant_spares false g.chan (closeChannel g.chan (markEnd n .allotment v))
  have hgrant : (if b then closeChannel g.chan (markEnd n .allotment v) else regrant false (closeChannel g.chan (markEnd n .allotment v))).entry n
        = some (g.withEnd .allotment)
      ∧ (if b then closeChannel g.chan (markEnd n .allotment v) else regrant false (closeChannel g.chan (markEnd n .allotment v))).chan g.chan
        = (closeChannel g.chan (markEnd n .allotment v)).chan g.chan
      ∧ g.chan ∉ (if b then closeChannel g.chan (markEnd n .allotment v) else regrant false (closeChannel g.chan (markEnd n .allotment v))).evals := by
    split
    · exact ⟨hend, rfl, hevals hv⟩
    · exact ⟨by rw [(regrant_writes ..).entry_eq]; exact hend, hspare.chan hclosing.still.1 hclosing.still.2.1,
        hspare.evals hclosing.still.1 hclosing.still.2.1 (hevals hv)⟩
  obtain ⟨hge, hgc, hgv⟩ := hgrant
  rw [workMargin_pending hge (by rw [Entry.withEnd]; simp)] at hwork
  rw [hwork]
  refine ⟨?_, hclose.congr hgc, hgv, hgc⟩
  rw [entry_modEntry_self, hge, Option.map_some, reworkMargin_withEnd]

/-! ### Something remains (R60) -/

/-- An ACTIVE entry's margin worked at a figure's change: spent it ends the entry, else it is recorded. -/
theorem workMargin_cases (hc : v.current g.chan = some (n, g)) (ha : g.state = .active) (hn : g.endPending = none)
    (hw : (v.chan g.chan).watched = true) :
    ((v.modEntry n Entry.reworkMargin).current g.chan = some (n, g.reworkMargin))
      ∧ workMargin g.chan n v = (if g.reworkMargin.marginSpent then
          closeChannel g.chan (markEnd n .allotment (v.modEntry n Entry.reworkMargin)) else v.modEntry n Entry.reworkMargin) := by
  have hform := Entry.reworkMargin_eq g
  have hcur : (v.modEntry n Entry.reworkMargin).current g.chan = some (n, g.reworkMargin) :=
    current_modEntry hc (by rw [hform]) (by rw [hform]; exact (current_live hc).2.2)
  have hend : endCurrent g.chan n .allotment (v.modEntry n Entry.reworkMargin)
      = closeChannel g.chan (markEnd n .allotment (v.modEntry n Entry.reworkMargin)) :=
    endCurrent_active hcur (by rw [hform]; exact ha) (by rw [hform]; exact hn) hw
  refine ⟨hcur, ?_⟩
  unfold workMargin
  simp only [(current_live hcur).1, hend]

theorem marginSpent_iff (g : Entry) : g.marginSpent = true ↔ ∃ x, g.margin = some x ∧ x.mm ≤ 0 := by
  unfold Entry.marginSpent
  cases g.margin <;> simp

/-- The margin worked after the regrant a new plan rate brings: the entry keeps its figures, and a spent margin closes it. -/
theorem remaining_worked (hc : v.current g.chan = some (n, g)) (ha : g.state = .active) (hn : g.endPending = none)
    (hw : (v.chan g.chan).watched = true) (b : Prop) [Decidable b]
    (hwork : z = workMargin g.chan n (if b then v else regrant false v)) (l l' : Port) (s : State)
    (ht : t = effect (fun _ => z.withPorts l l') s) :
    ∃ f, t.entry n = some f ∧ f.allotment = g.allotment ∧ f.planRate = g.planRate ∧ f.delivered = g.delivered
      ∧ ((∃ x, g.reworkMargin.margin = some x ∧ x.mm ≤ 0) → f.endPending = some .allotment ∧ ClosesForAnEnd g.chan v t) := by
  have hform := Entry.reworkMargin_eq g
  have hgrant : (if b then v else regrant false v).entry = v.entry ∧ (if b then v else regrant false v).now = v.now
      ∧ (if b then v else regrant false v).config = v.config
      ∧ (((if b then v else regrant false v).chan g.chan).state = .opening ↔ (v.chan g.chan).state = .opening)
      ∧ ((if b then v else regrant false v).chan g.chan).authorised = (v.chan g.chan).authorised
      ∧ ((if b then v else regrant false v).chan g.chan).lastStop = (v.chan g.chan).lastStop
      ∧ ((if b then v else regrant false v).chan g.chan).hose = (v.chan g.chan).hose
      ∧ ((if b then v else regrant false v).chan g.chan).openingStarted = (v.chan g.chan).openingStarted
      ∧ ((if b then v else regrant false v).chan g.chan).watched = (v.chan g.chan).watched := by
    split
    · exact ⟨rfl, rfl, rfl, .rfl, rfl, rfl, rfl, rfl, rfl⟩
    · have hr := regrant_writes false v
      refine ⟨hr.entry_eq, hr.now_eq, hr.config_eq, ?_⟩
      rw [chan_regrant]
      exact Channel.granted_lasts ..
  generalize (if b then v else regrant false v) = v' at hgrant hwork
  obtain ⟨hentry, hnow, hconf, hopen, hauth, hstop, hhose, hstart, hwatch⟩ := hgrant
  have hc' : v'.current g.chan = some (n, g) := by rw [current_congr hentry]; exact hc
  obtain ⟨hcur, hcases⟩ := workMargin_cases hc' ha hn (hwatch.trans hw)
  have hcourse : t.course = z.course := by rw [ht]; exact effect_course (fun _ => z.withPorts l l') s
  have hfields {f x : Entry} (h : f.course = x.course) : f.allotment = x.allotment ∧ f.planRate = x.planRate ∧ f.delivered = x.delivered := by
    have h1 := congrArg Entry.allotment h
    have h2 := congrArg Entry.planRate h
    have h3 := congrArg Entry.delivered h
    exact ⟨h1, h2, h3⟩
  have hsame : g.reworkMargin.allotment = g.allotment ∧ g.reworkMargin.planRate = g.planRate ∧ g.reworkMargin.delivered = g.delivered := by
    rw [hform]; exact ⟨rfl, rfl, rfl⟩
  rw [← hwork] at hcases
  by_cases hspent : g.reworkMargin.marginSpent = true
  · rw [if_pos hspent] at hcases
    have ha' : g.reworkMargin.state = .active := by rw [hform]; exact ha
    have hn' : g.reworkMargin.endPending = none := by rw [hform]; exact hn
    have hw' : ((v'.modEntry n Entry.reworkMargin).chan g.chan).watched = true := hwatch.trans hw
    obtain ⟨hend, hclose, -⟩ := markClosed (r := .allotment) hcur ha' hn' hw'
    obtain ⟨fc, hfc, hfa, hfe, hfs⟩ := (closing_of_marked (r := .allotment) hcur ha' hn' hw').entry
    rw [← hcases] at hend hclose hfc
    have hbefore : ClosesForAnEnd g.chan v z := hclose.of_before hopen hauth hstop hhose hstart hnow hconf
    obtain ⟨⟨f, hf, hpend⟩, hcloses⟩ := closing_pending hfc hfa hfe hfs hbefore l l' s
    rw [← ht] at hf hcloses
    obtain ⟨f', hf', hcf⟩ := entry_of_course hcourse hend
    rw [hf] at hf'; cases hf'
    obtain ⟨h1, h2, h3⟩ := hfields hcf
    exact ⟨f, hf, h1.trans hsame.1, h2.trans hsame.2.1, h3.trans hsame.2.2, fun _ => ⟨hpend, hcloses⟩⟩
  · rw [if_neg hspent] at hcases
    have hend : z.entry n = some g.reworkMargin := by rw [hcases]; exact (current_live hcur).1
    obtain ⟨f, hf, hcf⟩ := entry_of_course hcourse hend
    obtain ⟨h1, h2, h3⟩ := hfields hcf
    exact ⟨f, hf, h1.trans hsame.1, h2.trans hsame.2.1, h3.trans hsame.2.2, fun hx => absurd ((marginSpent_iff _).mpr hx) hspent⟩

/-- The margin worked where no grant follows: exactly the entry worked, ended where it is spent. -/
theorem remaining_exact (hc : v.current g.chan = some (n, g)) (ha : g.state = .active) (hn : g.endPending = none)
    (hw : (v.chan g.chan).watched = true) (hev : v.evals = []) (hwork : z = workMargin g.chan n v) (l l' : Port) (s : State)
    (ht : t = effect (fun _ => z.withPorts l l') s) :
    ((∃ x, g.reworkMargin.margin = some x ∧ x.mm ≤ 0) → t.entry n = some (g.reworkMargin.withEnd .allotment))
      ∧ ((∀ x, g.reworkMargin.margin = some x → 0 < x.mm) → t.entry n = some g.reworkMargin ∧ t.channels = v.channels) := by
  have hform := Entry.reworkMargin_eq g
  obtain ⟨hcur, hcases⟩ := workMargin_cases hc ha hn hw
  rw [← hwork] at hcases
  refine ⟨fun hx => ?_, fun hx => ?_⟩
  · rw [if_pos ((marginSpent_iff _).mpr hx)] at hcases
    obtain ⟨hend, hclose, hevals⟩ := markClosed (r := .allotment) hcur (by rw [hform]; exact ha) (by rw [hform]; exact hn) hw
    rw [← hcases] at hend hclose hevals
    rw [ht]
    exact (closing_stands hend (by rw [hform]; rfl) hclose
      (hevals (by rw [show (v.modEntry n Entry.reworkMargin).evals = v.evals from rfl, hev]; exact List.not_mem_nil)) l l' s).1
  · have hspent : ¬ g.reworkMargin.marginSpent = true := fun h => by
      obtain ⟨x, hm, hle⟩ := (marginSpent_iff _).mp h
      exact absurd (hx x hm) (Int.not_lt.mpr hle)
    rw [if_neg hspent] at hcases
    have hquiet : t = (v.modEntry n Entry.reworkMargin).withPorts l l' := by
      rw [ht, hcases]; exact effect_of_no_evals (f := fun _ => (v.modEntry n Entry.reworkMargin).withPorts l l') hev
    rw [hquiet]
    exact ⟨(current_live hcur).1, rfl⟩

/-! PROOF. O21: the adoptions of AMEND and CANCEL together (R7, R8, R11, R60). -/


variable {P : List Part} {s t v w z : State} {u : TankNo} {c d : Chan} {i j n : EntryId} {e f g : Entry} {k : Channel} {r : EndReason} {m a y : Nat}
  {p : Side} {q : Proposal} {x : Instr} {o : RequestKind} {body : List Byte} {l l' : Port}

/-- An end cause on an ACTIVE entry is said by the close it brings. -/
theorem EndsBy.of_active (ha : f.state = .active) (h : (s.chan f.chan).watched = true → t.entry n = some (f.withEnd r) ∧ ClosesForAnEnd f.chan s t
    ∧ (f.settling = true → (t.chan f.chan).holds.settling = false) ∧ t.config = s.config ∧ t.store = s.store) : EndsBy r n f s t := by
  have hno (h : f.state = .await) : False := by rw [ha] at h; cases h
  exact ⟨fun h => (hno h).elim, fun h => (hno h).elim, fun _ => h⟩

/-- An AMEND that leaves nothing remaining to a current entry with no end pending: the end ALLOTMENT (R7, R11). -/
theorem amend_exhausted (hok : v.PlanOk) (hg : v.GrantsOk) (hc : v.current g.chan = some (n, g)) (hn : g.endPending = none)
    (hz : g.remaining = 0) (hev : v.evals = []) (b : Prop) [Decidable b]
    (hwork : z = if g.state = .active then workMargin g.chan n (if b then testAllotment g.chan n v
        else regrant false (testAllotment g.chan n v)) else testAllotment g.chan n v)
    (hports : ∀ y, ((z.withPorts l l').port y).ended = (z.port y).ended) (s : State) (ht : t = effect (fun _ => z.withPorts l l') s) :
    (g.state = .await → EndsBy .allotment n g v t) ∧ (g.state = .active → EndsBy .allotment n g.reworkMargin v t) := by
  have he := (current_live hc).1
  have hform := Entry.reworkMargin_eq g
  refine ⟨fun ha => ?_, fun ha => ?_⟩
  · rw [if_neg (by rw [ha]; decide), testAllotment_ends he (.inl ha) hn hz] at hwork
    rw [hwork] at ht hports
    rw [ht]
    exact endsBy_effect hok hg hc hn hev hports s
  · rw [if_pos ha] at hwork
    have hact : g.reworkMargin.state = .active := by rw [hform]; exact ha
    have hchan : g.reworkMargin.chan = g.chan := by rw [hform]
    refine .of_active hact ?_
    rw [hchan]
    intro hw
    obtain ⟨hend, hclose, hevals, hsame⟩ := exhausted_closes hc ha hn hz hw b (by rw [hev]; exact List.not_mem_nil) hwork
    obtain ⟨hentry, hcloses, hstill⟩ := closing_stands hend (by rw [hform]; rfl) hclose hevals l l' s
    have hstands := effect_stands (fun _ => z.withPorts l l') s
    have htest := (testAllotment_moves g.chan n v)
    have hmoves : Moves v z := by
      rw [hwork]
      exact (Moves.ite htest (htest.trans (regrant_moves ..))).trans (workMargin_moves ..)
    rw [← ht] at hentry hcloses hstill hstands
    refine ⟨hentry, hcloses, fun hs => ?_, hstands.2.1.trans hmoves.stands.2.1, hstands.2.2.trans hmoves.stands.2.2⟩
    have hset : g.settling = true := by rw [← hs, hform]; rfl
    have hmark : (markEnd n .allotment v).chan g.chan = (v.chan g.chan).unsettled g := by rw [chan_markEnd he hn (.inr ha), if_pos rfl]
    rw [hstill, hsame, chan_closeChannel (by rw [hmark, Channel.unsettled_eq]; exact hw), hmark]
    exact Channel.settling_closed hw hset _ _

/-- With an end pending already an AMEND writes the figures, and an ACTIVE entry's margin with them (R7, R60). -/
theorem amend_pending (hg : v.GrantsOk) (hc : v.current g.chan = some (n, g)) (hn : g.endPending ≠ none) (hev : v.evals = [])
    (b : Prop) [Decidable b] (hwork : z = if g.state = .active then workMargin g.chan n (if b then testAllotment g.chan n v
        else regrant false (testAllotment g.chan n v)) else testAllotment g.chan n v)
    (s : State) (ht : t = effect (fun _ => z.withPorts l l') s) :
    (g.state = .await → t.entry n = some g ∧ t.channels = v.channels)
      ∧ (g.state = .active → (v.chan g.chan).watched = false → t.entry n = some g.reworkMargin) := by
  have he := (current_live hc).1
  have hform := Entry.reworkMargin_eq g
  have hskip : testAllotment g.chan n v = v := testAllotment_skips he fun h => hn h.2.1
  rw [hskip] at hwork
  refine ⟨fun ha => ?_, fun ha hw => ?_⟩
  · rw [if_neg (by rw [ha]; decide)] at hwork
    have hquiet : t = v.withPorts l l' := by rw [ht, hwork]; exact effect_of_no_evals (f := fun _ => v.withPorts l l') hev
    rw [hquiet]
    exact ⟨he, rfl⟩
  · rw [if_pos ha] at hwork
    have hgrant : (v.chan g.chan).grant = 0 := Nat.eq_zero_of_not_pos fun h => by
      have hflow := (hg.2.2 g.chan).1.mp h
      unfold Channel.watched at hw
      rw [hflow] at hw; cases hw
    have hasks := Channel.asks_of_unwatched hw
    have hflows := hg.2.2 g.chan
    have hgiven : (if b then v else regrant false v).entry n = some g ∧ (if b then v else regrant false v).chan g.chan = v.chan g.chan
        ∧ g.chan ∉ (if b then v else regrant false v).evals := by
      have hv : g.chan ∉ v.evals := by rw [hev]; exact List.not_mem_nil
      split
      · exact ⟨he, rfl, hv⟩
      · have hspare := regrant_spares false g.chan v
        exact ⟨by rw [(regrant_writes ..).entry_eq]; exact he, hspare.chan hasks hflows, hspare.evals hasks hflows hv⟩
    obtain ⟨hge, hgc, hgv⟩ := hgiven
    rw [workMargin_pending hge hn] at hwork
    have hze : z.entry n = some g.reworkMargin := by rw [hwork, entry_modEntry_self, hge]; rfl
    have hzc : z.chan g.chan = v.chan g.chan := by rw [hwork]; exact hgc
    have hzv : g.chan ∉ z.evals := by rw [hwork]; exact hgv
    rw [ht]
    exact entry_of_own (effect_spares (f := fun _ => z.withPorts l l') (s := s) (c := g.chan) (by
      change (z.chan g.chan).asks = false; rw [hzc]; exact hasks) (by change (z.chan g.chan).FlowsByGrant; rw [hzc]; exact hflows) hzv).2
      hze (by rw [hform])

/-- Settles O21: CANCEL is an end cause on a current entry and ends a QUEUED one at once; AMEND writes the figures, tests what remains
(`amend_exhausted`) and works an ACTIVE entry's margin (`remaining_worked`, `remaining_exact`). -/
theorem adoptedAmendAndCancelOfAWaitingEntry : Obligations.AdoptedAmendAndCancelOfAWaitingEntry := by
  refine ⟨fun x p o body q n e s hs hc he => ⟨fun a y hb hw f hf => amend_waiting hs hc he hb hw hf,
    fun hb hq hz f hf => cancel_queued hs hc he hb hq hz hf⟩, ?_⟩
  intro x p o body q n e s hs hok hg hc he hid rest
  refine ⟨fun hb => ⟨fun hn => cancel_ends hs hok hg hc he hid hb hn, fun hn => cancel_pending hs hok hc he hid hb hn⟩, ?_⟩
  intro a y hb g worked
  have hcur : s.current e.chan = some (n, e) := current_eq_some_iff.mpr ⟨hid, he⟩
  have hl := (current_live hcur).2.2
  have halike := adopting_alike s p q
  have heA : (s.adopting p q).entry n = some e := by rw [halike.entry_eq]; exact he
  have hclamp : (s.adopting p q).clampRate e.chan y = s.clampRate e.chan y := by
    unfold State.clampRate State.chanConfig; rw [halike.made]
  obtain ⟨t, l, l', hexec, hans, ht, hports, hqueue⟩ := amend_effect hs hc he hl hb
  have hbut := amendWritten_alike (a := a) (y := y) halike he
  have hok1 : (amendWritten n e a y (s.adopting p q)).PlanOk := amendWritten_planOk (halike.planOk hok) heA hl
  have hcur1 : (amendWritten n e a y (s.adopting p q)).current e.chan = some (n, e.amended a ((s.adopting p q).clampRate e.chan y)) :=
    amendWritten_current (by rw [current_congr halike.entry_eq]; exact hcur)
  have hgw : e.amended a ((s.adopting p q).clampRate e.chan y) = g := by rw [hclamp]; rfl
  have hwork := adoptAmend_eq heA a y
  have hworked : g.reworkMargin = worked := Entry.reworkMargin_map g
  rw [hgw] at hcur1
  rw [hclamp] at hwork
  generalize adoptAmend n a y (s.adopting p q) = z at ht hports hwork
  generalize amendWritten n e a y (s.adopting p q) = v at hbut hok1 hcur1 hwork
  have hgv := hbut.grantsOk hg
  have hev : v.evals = [] := hbut.evals_eq.trans hs.1.2
  have hwv : (v.chan e.chan).watched = (s.chan e.chan).watched := by rw [hbut.chan_eq]
  have hchannels : v.channels = s.channels := by rw [hbut.made]
  refine ⟨t, hexec, hans, hqueue, fun hz hn => ?_, fun hlt hn ha hw => ?_, fun hn ha => ?_, fun hn ha hw => ?_⟩
  · obtain ⟨h1, h2⟩ := amend_exhausted (g := g) hok1 hgv hcur1 hn (Nat.sub_eq_zero_of_le hz) hev _ hwork hports s ht
    rw [hworked] at h2
    exact ⟨fun ha => (h1 ha).of_alikeBut hbut, fun ha => (h2 ha).of_alikeBut hbut⟩
  · have hskip : testAllotment e.chan n v = v := testAllotment_skips (current_live hcur1).1 fun h => absurd h.2.2 (Nat.sub_ne_zero_of_lt hlt)
    rw [if_pos ha, hskip] at hwork
    obtain ⟨f, hf, h1, h2, h3, hspent⟩ := remaining_worked (g := g) hcur1 ha hn (hwv.trans hw) _ hwork l l' s ht
    rw [hworked] at hspent
    refine ⟨f, hf, h1, h2, h3, fun hx => (hspent hx).imp_right fun h => h.of_alike hbut, fun hquiet => ?_⟩
    have hnone : (if s.clampRate e.chan y = e.planRate then v else regrant false v) = v := by
      rcases hquiet with h | h
      · rw [regrant_of_not_serving (by rw [hbut.header_eq]; exact h) hgv]; exact ite_self _
      · exact if_pos h
    rw [hnone] at hwork
    obtain ⟨hend, hleft⟩ := remaining_exact (g := g) hcur1 ha hn (hwv.trans hw) hev hwork l l' s ht
    rw [hworked] at hend hleft
    refine ⟨fun hx => ?_, fun hx => ?_⟩
    · have hf' := hend hx
      rw [hf] at hf'
      exact Option.some.inj hf'
    · obtain ⟨hf', hch⟩ := hleft hx
      rw [hf] at hf'
      exact ⟨Option.some.inj hf', hch.trans hchannels⟩
  · obtain ⟨h1, h2⟩ := (amend_pending (g := g) hgv hcur1 hn hev _ hwork s ht).1 ha
    exact ⟨h1, h2.trans hchannels⟩
  · rw [← hworked]
    exact (amend_pending (g := g) hgv hcur1 hn hev _ hwork s ht).2 ha (hwv.trans hw)

/-! SUPPORT. A channel stop, taken whole, but for LEVEL_HI's (R88, R89, R158). -/


variable {P : List Part} {s t v w : State} {u : TankNo} {c d : Chan} {i : EntryId} {e : Entry} {k : Channel} {cause : StopCause} {o : Origin}
  {y : Option TankNo}

/-- The record of a channel stop taken now. -/
def State.stopOf (s : State) (cause : StopCause) (o : Origin) (y : Option TankNo) : LastStop :=
  { cause := cause, origin := o, tank := y, stamp := s.now, acknowledged := false }

/-- The valve's part of a channel stop (R84, R88). -/
def stopValve (cause : StopCause) (c : Chan) (s : State) : State := if cause = .valveStuck then goFault c s else closeChannel c s

theorem stopValve_writes (cause : StopCause) (c : Chan) (s : State) : Writes closeParts s (stopValve cause c s) :=
  .ite (goFault_writes ..) (closeChannel_writes ..)

theorem channelStop_eq (hl : cause ≠ .levelHi) (o : Origin) (y : Option TankNo) (c : Chan) (s : State) : channelStop cause o y c s
    = noteChan .stop c (judgeHorn (some .alarm) (returnToAwait c (withdrawWhere (fun p => p.isStart (some c)) (.stop cause.code)
      (setAuth c false (stopValve cause c (s.modChan c fun k => { k with lastStop := some (s.stopOf cause o y) })))))) := by
  unfold channelStop
  simp only [hl, if_false]
  rfl

/-- A channel whose valve is stuck goes FAULT, and the regrant gives it nothing (R84). -/
theorem chan_goFault (c : Chan) (s : State) : (goFault c s).chan c = (s.chan c).faulted := by
  have hmove : (moveChan c Channel.faulted s).chan c = (s.chan c).faulted := by rw [chan_moveChan, if_pos rfl]
  have hchan : (if (s.chan c).calling then headerUncall (moveChan c Channel.faulted s) else moveChan c Channel.faulted s).chan c
      = (s.chan c).faulted := by
    split
    · rw [(headerUncall_writes _).chan_eq, hmove]
    · exact hmove
  have hasks : ((s.chan c).faulted).asks = false := rfl
  have hflows : ((s.chan c).faulted).FlowsByGrant := Channel.flowsByGrant_of_resting ⟨(fun h => nomatch h), (fun h => nomatch h)⟩ rfl
  have hspare := regrant_spares (decide (0 < (s.chan c).grant)) c
    (if (s.chan c).calling then headerUncall (moveChan c Channel.faulted s) else moveChan c Channel.faulted s)
  exact (hspare.chan (by rw [hchan]; exact hasks) (by rw [hchan]; exact hflows)).trans hchan

/-- A channel whose stop can be taken whole: its valve open or opening, or closed to already and no grant left. -/
def Channel.Stoppable (k : Channel) (cause : StopCause) : Prop := k.watched = true ∨ (k.state = .closing ∧ k.grant = 0 ∧ cause ≠ .valveStuck)

theorem Channel.gain_valveClosed (k : Channel) (n m : Nat) : (k.valveClosed n m).meter.unmeteredGain = k.meter.unmeteredGain := by
  unfold Channel.valveClosed
  split
  all_goals rfl

/-- The channel past its valve's part: not open nor opening, no grant, the last stop as it was. -/
theorem stopValve_shut (hw : (s.chan c).Stoppable cause) : ((stopValve cause c s).chan c).watched = false
    ∧ ((stopValve cause c s).chan c).grant = 0 ∧ ((stopValve cause c s).chan c).lastStop = (s.chan c).lastStop
    ∧ ((stopValve cause c s).chan c).meter.unmeteredGain = (s.chan c).meter.unmeteredGain
    ∧ ((stopValve cause c s).chan c).state = (if cause = .valveStuck then .fault else .closing)
    ∧ (cause = .valveStuck → ((stopValve cause c s).chan c).openLimit = (s.chan c).openLimit) := by
  unfold stopValve
  split
  case isTrue h =>
    rw [chan_goFault c s]
    exact ⟨rfl, rfl, rfl, rfl, rfl, fun _ => rfl⟩
  case isFalse h =>
    rcases hw with hw | ⟨hw, hg, -⟩
    · obtain ⟨hclosing, hgrant⟩ := Channel.valveClosed_closing hw (s.expiry (strokeTimeout (s.chanConfig c).strokeTime))
        (s.expiry (reversalTimeout (s.spentOpening c)))
      have hitems := Channel.valveClosed_items hw (s.expiry (strokeTimeout (s.chanConfig c).strokeTime)) (s.expiry (reversalTimeout (s.spentOpening c)))
      rw [chan_closeChannel hw]
      exact ⟨by unfold Channel.watched; rw [hclosing], hgrant, hitems.2.2.2.1, Channel.gain_valveClosed ..,
        hclosing, fun hc => absurd hc h⟩
    · have hno : (s.chan c).watched = false := by unfold Channel.watched; rw [hw]
      have hsame : closeChannel c s = s := by
        unfold closeChannel
        simp only [hno, Bool.false_eq_true, if_false]
      rw [hsame]
      exact ⟨hno, hg, rfl, rfl, hw, fun hc => absurd hc h⟩

/-- A channel's entry that returns to AWAIT leaves UNMETERED_GAIN inactive where it was so (R13, R126). -/
theorem gain_returnToAwait (c : Chan) (s : State) (h : (s.chan c).meter.unmeteredGain = false) :
    ((returnToAwait c s).chan c).meter.unmeteredGain = false := by
  unfold returnToAwait
  split
  case h_2 => exact h
  case h_1 i e _ =>
    rw [(noteEntry_writes ..).chan_eq, leaveActive, chan_removeHolds, if_pos rfl, chan_modTank, chan_setUnmetered, if_pos rfl]

/-- A channel stop as it is taken, and what else is said of its channel: no grant, UNMETERED_GAIN, and its state. -/
theorem channelStop_taken (hl : cause ≠ .levelHi) (hw : (s.chan c).Stoppable cause) :
    StopTaken cause o y c s (channelStop cause o y c s) ∧ ((channelStop cause o y c s).chan c).grant = 0
      ∧ ((s.chan c).meter.unmeteredGain = false → ((channelStop cause o y c s).chan c).meter.unmeteredGain = false)
      ∧ ((channelStop cause o y c s).chan c).state = (if cause = .valveStuck then .fault else .closing)
      ∧ (cause = .valveStuck → ((channelStop cause o y c s).chan c).openLimit = (s.chan c).openLimit) := by
  have hstopped : (s.modChan c fun k => { k with lastStop := some (s.stopOf cause o y) }).chan c
      = { s.chan c with lastStop := some (s.stopOf cause o y) } := by rw [chan_modChan, if_pos rfl]
  have hmod : Writes [.stops] s (s.modChan c fun k => { k with lastStop := some (s.stopOf cause o y) }) := (Write.stops c _ s).writes
  have hother (d : Chan) (hd : d ≠ c) : ((s.modChan c fun k => { k with lastStop := some (s.stopOf cause o y) }).chan d).lastStop
      = (s.chan d).lastStop := by rw [chan_modChan, if_neg (Ne.symm hd)]
  have heq := channelStop_eq hl o y c s
  generalize (s.modChan c fun k => { k with lastStop := some (s.stopOf cause o y) }) = s1 at hstopped hmod hother heq
  have hvalve := stopValve_writes cause c s1
  obtain ⟨hshut, hgrant, hstop, hgain, hplace, hopen⟩ := stopValve_shut (cause := cause) (s := s1) (c := c) (by rw [hstopped]; exact hw)
  generalize stopValve cause c s1 = s2 at hvalve hshut hgrant hstop hgain hplace hopen heq
  have hauth := setAuth_false_writes c s2
  have hchan3 : (setAuth c false s2).chan c = { s2.chan c with authorised := false } := by rw [chan_setAuth, if_pos rfl]
  have hwithdraw := withdrawWhere_writes (fun p => p.isStart (some c)) (.stop cause.code) (setAuth c false s2)
  have hqueue := withdrawWhere_queue (fun p => p.isStart (some c)) (.stop cause.code) (setAuth c false s2)
  have hthen := hauth.then hwithdraw (R := [.chans, .withdrawals, .notices])
  have hchan3' : (withdrawWhere (fun p => p.isStart (some c)) (.stop cause.code) (setAuth c false s2)).chan c = { s2.chan c with authorised := false } := by
    rw [hwithdraw.chan_eq, hchan3]
  rw [hauth.queue_eq, hvalve.queue_eq, hmod.queue_eq] at hqueue
  generalize withdrawWhere (fun p => p.isStart (some c)) (.stop cause.code) (setAuth c false s2) = s3 at hthen hchan3' hqueue heq
  have hshut3 : (s3.chan c).watched = false := by rw [hchan3']; exact hshut
  have hreturn := returnToAwait_writes c s3
  have hlast := ((returnToAwait_moves c s3).rests c).lasting hshut3 (by rw [hchan3']; exact hgrant)
  have hauth4 : ((returnToAwait c s3).chan c).authorised = false :=
    hreturn.chan_keeps (Q := fun k => k.authorised = false) (fun k l h => h.auth) (by rw [hchan3'])
  have hactive : (returnToAwait c s3).activeEntry c = none := by rw [activeEntry_returnToAwait, if_pos rfl]
  have hgain4 := gain_returnToAwait c s3
  rw [hchan3'] at hgain4
  generalize returnToAwait c s3 = s4 at hreturn hlast hauth4 hactive hgain4 heq
  have hfield {α : Type} (π : Channel → α) (hπ : ∀ k : Channel, π k.lasting = π k) : π (s4.chan c) = π (s3.chan c) := by
    rw [← hπ, hlast, hπ]
  have hlast4 : (s4.chan c).lastStop = some (s.stopOf cause o y) := by
    rw [hfield Channel.lastStop fun _ => rfl, hchan3']
    exact hstop.trans (by rw [hstopped])
  have hhorn := judgeHorn_writes (some .alarm) s4
  have hend : Writes [.trip, .notices] s4 (channelStop cause o y c s) := by rw [heq]; exact hhorn.then (noteChan_writes ..)
  have hclass : (channelStop cause o y c s).trip.horn = s4.hornClass := by rw [heq, (noteChan_writes ..).trip_eq, horn_judgeHorn]
  have hbefore : Writes [.figures, .chans, .tanks, .trip, .header, .grants, .evals, .withdrawals, .notices] s1 s4 :=
    hvalve.then (hthen.then hreturn (R := [.figures, .chans, .tanks, .trip, .withdrawals, .notices]))
  have hstate4 : s4.trip.state = s.trip.state := hbefore.trip_step.state.trans (by rw [hmod.trip_eq])
  generalize channelStop cause o y c s = b at hend hclass ⊢
  have hchan : b.chan c = s4.chan c := by rw [hend.chan_eq]
  refine ⟨⟨by rw [hchan]; exact hlast4, ?_, by rw [hchan]; exact hauth4, by rw [activeEntry_congr hend.entry_eq]; exact hactive, ?_, fun d hd => ?_,
    hend.trip_step.state.trans hstate4, fun hn => ?_⟩, ?_, fun hg => ?_, ?_, fun hc => ?_⟩
  · rw [hchan, hfield Channel.watched fun _ => rfl]; exact hshut3
  · rw [hend.queue_eq, hreturn.queue_eq, hqueue]
  · rw [hend.lastStop_eq, hbefore.lastStop_eq, hother d hd]
  · rw [hclass]
    refine hornClass_of_alarm (c := c) (hstate4.trans hn) ?_
    unfold Channel.alarm
    rw [hlast4]; rfl
  · rw [hchan, hfield Channel.grant fun _ => rfl, hchan3']; exact hgrant
  · rw [hchan]
    exact hgain4 (hgain.trans (by rw [hstopped]; exact hg))
  · rw [hchan, hfield Channel.state fun _ => rfl, hchan3']; exact hplace
  · rw [hchan, hfield Channel.openLimit fun _ => rfl, hchan3']
    exact (hopen hc).trans (by rw [hstopped])

/-- A channel stop but LEVEL_HI's returns its ACTIVE entry to AWAIT (R13, R89). -/
theorem entry_channelStop (hl : cause ≠ .levelHi) (ha : s.activeEntry c = some (i, e)) (j : EntryId) :
    (channelStop cause o y c s).entry j = if i = j then some e.returned else s.entry j := by
  have hbefore : (withdrawWhere (fun p => p.isStart (some c)) (.stop cause.code)
      (setAuth c false (stopValve cause c (s.modChan c fun k => { k with lastStop := some (s.stopOf cause o y) })))).entry = s.entry := by
    rw [(withdrawWhere_writes ..).entry_eq, (setAuth_false_writes ..).entry_eq, (stopValve_writes ..).entry_eq]
    rfl
  rw [channelStop_eq hl, (noteChan_writes ..).entry_eq, (judgeHorn_writes ..).entry_eq,
    entry_returnToAwait (by rw [activeEntry_congr hbefore]; exact ha), hbefore]

/-- A channel without an ACTIVE entry has nothing to be evaluated: at rest it and its entries are as they were past the evaluations. -/
theorem runEvals_inactive (n : Nat) {s : State} (ha : (s.chan c).asks = false) (hf : (s.chan c).FlowsByGrant) (hn : s.activeEntry c = none) :
    (runEvals n s).chan c = s.chan c ∧ (runEvals n s).own c = s.own c := by
  induction n generalizing s with
  | zero => exact ⟨rfl, rfl⟩
  | succ n ih =>
    unfold runEvals
    split
    case h_1 => exact ⟨rfl, rfl⟩
    case h_2 d rest _ =>
      by_cases hd : d = c
      · rw [hd, evaluate_none (s := { s with evals := rest }) hn]
        exact ih (s := { s with evals := rest }) ha hf hn
      · have hspare := evaluate_spares hd .change { s with evals := rest }
        have hc := hspare.chan ha hf
        obtain ⟨h1, h2⟩ := ih (s := evaluate .change d { s with evals := rest }) (by rw [hc]; exact ha) (by rw [hc]; exact hf)
          ((activeEntry_of_own hspare.own).trans hn)
        exact ⟨h1.trans hc, h2.trans hspare.own⟩

/-- The evaluations leave a channel stop as it was taken, its channel and its entries with it. -/
theorem StopTaken.effect {g : State → State} (h : StopTaken cause o y c w (g s)) (hg : ((g s).chan c).grant = 0) :
    StopTaken cause o y c w (effect g s) ∧ (effect g s).chan c = (g s).chan c ∧ (effect g s).own c = (g s).own c := by
  obtain ⟨hstop, hshut, hauth, hactive, hqueue, hothers, hstate, hhorn⟩ := h
  have hspare := runEvals_inactive evalBudget (Channel.asks_of_unwatched hshut) (Channel.flowsByGrant_of_unwatched hshut hg) hactive
  have hchan : (Machine.effect g s).chan c = (g s).chan c := hspare.1
  have hown : (Machine.effect g s).own c = (g s).own c := hspare.2
  have hraw := (runEvals_writes evalBudget (g s)).raw
  have hlast (d : Chan) : ((Machine.effect g s).chan d).lastStop = ((g s).chan d).lastStop := hraw.lastStop_eq (by decide) d
  have htrip : (Machine.effect g s).trip.state = (g s).trip.state := hraw.trip_step.state
  refine ⟨⟨by rw [hchan]; exact hstop, by rw [hchan]; exact hshut, by rw [hchan]; exact hauth,
    by rw [activeEntry_of_own hown]; exact hactive, by rw [(effect_stands g s).1]; exact hqueue, fun d hd => (hlast d).trans (hothers d hd),
    htrip.trans hstate, fun hn => ?_⟩, hchan, hown⟩
  have halarm : ((g s).chan c).alarm = true := by unfold Channel.alarm; rw [hstop]; rfl
  have hkept : (runEvals evalBudget (g s)).trip.horn = .alarm := hraw.horn_alarm (c := c) (hstate.trans hn) (hhorn hn) halarm
  exact hkept

/-! PROOF. The limit switches of a channel, the part NORMAL (R75, R80, R83, R84). -/


variable {P : List Part} {s t v w : State} {c d : Chan} {i : EntryId} {e : Entry} {k : Channel} {r : EndReason}

/-! ### A limit taken (R75) -/

theorem judgeSettled_of_not_tripping (h : s.trip.state ≠ .tripping) : judgeSettled s = s := if_neg fun ht => h ht.1

/-- A channel with its closed limit as reported. -/
def State.closedAt (s : State) (c : Chan) (b : Bool) : State := s.modChan c fun k => { k with closedLimit := b }

/-- A channel with its open limit as reported. -/
def State.openAt (s : State) (c : Chan) (b : Bool) : State := s.modChan c fun k => { k with openLimit := b }

theorem chan_closedAt (s : State) (c : Chan) (b : Bool) : (s.closedAt c b).chan c = { s.chan c with closedLimit := b } := by
  rw [State.closedAt, chan_modChan, if_pos rfl]

theorem chan_openAt (s : State) (c : Chan) (b : Bool) : (s.openAt c b).chan c = { s.chan c with openLimit := b } := by
  rw [State.openAt, chan_modChan, if_pos rfl]

theorem takeClosedLimit_reached (h : (s.chan c).closedLimit = false) :
    takeClosedLimit c true s = judgeSettled (closedReached c (s.closedAt c true)) := if_neg (by rw [h]; decide)

theorem takeClosedLimit_lost (h : (s.chan c).closedLimit = true) (hv : closedLost c (s.closedAt c false) = v) (hn : v.trip.state = .normal) :
    takeClosedLimit c false s = v := by
  have htake : takeClosedLimit c false s = judgeSettled (closedLost c (s.closedAt c false)) := if_neg (by rw [h]; decide)
  rw [htake, hv, judgeSettled_of_not_tripping (by rw [hn]; decide)]

theorem takeOpenLimit_lost (h : (s.chan c).openLimit = true) (hv : openLost c (s.openAt c false) = v) (hn : v.trip.state = .normal) :
    takeOpenLimit c false s = v := by
  have htake : takeOpenLimit c false s = judgeSettled (openLost c (s.openAt c false)) := if_neg (by rw [h]; decide)
  rw [htake, hv, judgeSettled_of_not_tripping (by rw [hn]; decide)]

theorem takeOpenLimit_reached (h : (s.chan c).openLimit = false) (hv : openReached c (s.openAt c true) = v) (hn : v.trip.state = .normal) :
    takeOpenLimit c true s = v := by
  have htake : takeOpenLimit c true s = judgeSettled (openReached c (s.openAt c true)) := if_neg (by rw [h]; decide)
  rw [htake, hv, judgeSettled_of_not_tripping (by rw [hn]; decide)]

/-! ### The closed limit is reached (R83) -/

/-- A closing channel with its valve reported closed: IDLE (R83). -/
def Channel.landed (k : Channel) : Channel := { k with closedLimit := true, state := .idle, command := .toClose, strokeTimer := none }

def State.landed (s : State) (c : Chan) : State := s.modChan c Channel.landed

theorem chan_landed (s : State) (c : Chan) : (s.landed c).chan c = (s.chan c).landed := by rw [State.landed, chan_modChan, if_pos rfl]

theorem takeClosedLimit_landed (hs : (s.chan c).state = .closing) (hc : (s.chan c).closedLimit = false) (ho : (s.chan c).openLimit = false) :
    takeClosedLimit c true s = judgeSettled (judgeStart c (noteChan .state c (settleEnd c (s.landed c)))) := by
  have hstate : ((s.closedAt c true).chan c).state = .closing := by rw [chan_closedAt]; exact hs
  have hopen : ((s.closedAt c true).chan c).openLimit = false := by rw [chan_closedAt]; exact ho
  have hland : (s.closedAt c true).modChan c (fun k => { k with state := .idle, command := .toClose, strokeTimer := none }) = s.landed c :=
    modChan_modChan ..
  rw [takeClosedLimit_reached hc]
  unfold closedReached
  simp only [hstate, hopen, Bool.false_eq_true, if_false]
  unfold reachClosed
  rw [hland]

theorem closing_lands (hs : s.Ready) (hn : s.trip.state = .normal) (hst : (s.chan c).state = .closing) (hc : (s.chan c).closedLimit = false)
    (ho : (s.chan c).openLimit = false) (ha : (s.chan c).authorised = false) (hp : ∀ j e, s.current c = some (j, e) → e.endPending = none) :
    exec (.closedLimitReached c) s
      = .next (raise (.channel .state ((s.landed c).channelView c) none s.now) (s.landed c)).startSending := by
  have hsettle : settleEnd c (s.landed c) = s.landed c := settleEnd_none fun i e h => hp i e h
  have hstart : (noteChan .state c (s.landed c)).canStart c = false := by
    unfold State.canStart
    rw [(noteChan_writes ..).chan_eq, chan_landed]
    split
    · simp [Channel.landed, ha]
    · rfl
  have htake : takeClosedLimit c true s = noteChan .state c (s.landed c) := by
    rw [takeClosedLimit_landed hst hc ho, hsettle, judgeStart_of_cannot hstart]
    refine judgeSettled_of_not_tripping ?_
    rw [(noteChan_writes ..).trip_eq]
    exact fun h => by rw [show (s.landed c).trip.state = s.trip.state from rfl, hn] at h; cases h
  exact exec_quiet hs.1 rfl htake ((noteChan_writes ..).evals_eq.trans hs.2)

/-! ### The closed limit is lost (R83) -/

/-- A state change alone is told once (R96). -/
theorem updateChan_state {f : Channel → Channel} (hh : (f (s.chan c)).holds = (s.chan c).holds) (hs : (f (s.chan c)).state ≠ (s.chan c).state) :
    updateChan c f s = noteChan .state c (s.modChan c f) := by
  have hchan : (s.modChan c f).chan c = f (s.chan c) := by rw [chan_modChan, if_pos rfl]
  rw [updateChan, noteHoldsChange, hchan, if_pos hh, noteStateChange, hchan, if_neg hs]

theorem idle_leaves (hs : s.Ready) (hn : s.trip.state = .normal) (hst : (s.chan c).state = .idle) (hc : (s.chan c).closedLimit = true) :
    ∃ u, u = { s with channels := s.channels.set c { s.chan c with
        closedLimit := false, state := .closing, command := .toClose
        strokeTimer := some (s.expiry (strokeTimeout (s.chanConfig c).strokeTime)) } }
      ∧ exec (.closedLimitLost c) s = .next (raise (.channel .state (u.channelView c) none s.now) u).startSending := by
  have hstate : ((s.closedAt c false).chan c).state = .idle := by rw [chan_closedAt]; exact hst
  have htake : takeClosedLimit c false s = noteChan .state c ((s.closedAt c false).modChan c fun k => { k with
      state := .closing, command := .toClose, strokeTimer := some ((s.closedAt c false).strokeExpiry c) }) := by
    refine takeClosedLimit_lost hc ?_ (by rw [(noteChan_writes ..).trip_eq]; exact hn)
    unfold closedLost
    simp only [hstate]
    exact updateChan_state rfl (by rw [hstate]; exact fun h => nomatch h)
  have hmade : ((s.closedAt c false).modChan c fun k => { k with
      state := .closing, command := .toClose, strokeTimer := some ((s.closedAt c false).strokeExpiry c) })
      = { s with channels := s.channels.set c { s.chan c with
        closedLimit := false, state := .closing, command := .toClose
        strokeTimer := some (s.expiry (strokeTimeout (s.chanConfig c).strokeTime)) } } := modChan_modChan ..
  refine ⟨_, rfl, ?_⟩
  rw [hmade] at htake
  exact exec_quiet hs.1 rfl htake ((noteChan_writes ..).evals_eq.trans hs.2)

theorem masked_times (hs : s.Ready) (hn : s.trip.state = .normal) (hst : (s.chan c).state = .masked) (hc : (s.chan c).closedLimit = true) :
    exec (.closedLimitLost c) s = .next ({ s with channels := s.channels.set c { s.chan c with
      closedLimit := false
      strokeTimer := some (s.expiry (strokeTimeout (s.chanConfig c).strokeTime)) } } : State).startSending := by
  have hstate : ((s.closedAt c false).chan c).state = .masked := by rw [chan_closedAt]; exact hst
  refine exec_quiet hs.1 rfl ?_ hs.2
  refine takeClosedLimit_lost hc ?_ hn
  unfold closedLost
  simp only [hstate]
  exact modChan_modChan ..

theorem opening_recorded (hs : s.Ready) (hn : s.trip.state = .normal) (hst : (s.chan c).state = .opening) (hc : (s.chan c).closedLimit = true) :
    exec (.closedLimitLost c) s
      = .next ({ s with channels := s.channels.set c { s.chan c with closedLimit := false } } : State).startSending := by
  have hstate : ((s.closedAt c false).chan c).state = .opening := by rw [chan_closedAt]; exact hst
  refine exec_quiet hs.1 rfl ?_ hs.2
  refine takeClosedLimit_lost hc ?_ hn
  unfold closedLost
  simp only [hstate]
  rfl

/-! ### The open limit is lost (R84) -/

theorem openLost_recorded (hs : s.Ready) (hn : s.trip.state = .normal) (hst : (s.chan c).state = .closing ∨ (s.chan c).state = .masked)
    (ho : (s.chan c).openLimit = true) : exec (.openLimitLost c) s
      = .next ({ s with channels := s.channels.set c { s.chan c with openLimit := false } } : State).startSending := by
  have hstate : ((s.openAt c false).chan c).state = (s.chan c).state := by rw [chan_openAt]
  refine exec_quiet hs.1 rfl ?_ hs.2
  refine takeOpenLimit_lost ho (v := s.openAt c false) ?_ hn
  unfold openLost
  rcases hst with h | h <;> simp only [hstate, h]

theorem openLost_faults (hs : s.Ready) (hn : s.trip.state = .normal) (hst : (s.chan c).calling = true) (ho : (s.chan c).openLimit = true) :
    ∃ t : State, exec (.openLimitLost c) s = .next t.startSending ∧ StopTaken .valveStuck .watch none c s t
      ∧ (t.chan c).state = .fault ∧ (t.chan c).openLimit = false := by
  have hchan := chan_openAt s c false
  have hstate : ((s.openAt c false).chan c).state = (s.chan c).state := by rw [hchan]
  have hopenlast (d : Chan) : ((s.openAt c false).chan d).lastStop = (s.chan d).lastStop := by
    rw [State.openAt, chan_modChan]
    split
    · subst d; rfl
    · rfl
  have hcalling : (s.chan c).state = .flowing ∨ (s.chan c).state = .held := by
    unfold Channel.calling at hst
    cases h : (s.chan c).state <;> simp_all
  have htake : commandEffect (.openLimitLost c) s = channelStop .valveStuck .watch none c (s.openAt c false) := by
    have hfault : valveFault c (s.openAt c false) = channelStop .valveStuck .watch none c (s.openAt c false) := by
      have htrip : ¬ (s.openAt c false).trip.state = .tripping := by
        rw [show (s.openAt c false).trip.state = s.trip.state from rfl, hn]; decide
      unfold valveFault
      rw [if_neg (by rw [hstate]; rcases hcalling with h | h <;> rw [h] <;> decide), if_neg htrip]
    have hstays : (channelStop .valveStuck .watch none c (s.openAt c false)).trip.state = .normal :=
      (channelStop_writes .valveStuck .watch none c (s.openAt c false)).raw.trip_step.state.trans hn
    refine takeOpenLimit_lost ho ?_ hstays
    rw [← hfault]
    unfold openLost
    rcases hcalling with h | h
    · simp only [hstate, h]
    · simp only [hstate, h]
  have hw : ((s.openAt c false).chan c).watched = true := by
    unfold Channel.watched
    rw [hstate]
    rcases hcalling with h | h <;> rw [h]
  obtain ⟨hstop, hgrant, -, hfault, hopen⟩ := channelStop_taken (cause := .valveStuck) (o := .watch) (y := none) (by decide) (.inl hw)
  rw [← htake] at hstop hgrant hfault hopen
  have hstop' : StopTaken .valveStuck .watch none c s (commandEffect (.openLimitLost c) s) := by
    obtain ⟨h1, h2, h3, h4, h5, h6, h7⟩ := hstop
    exact ⟨h1, h2, h3, h4, h5, fun d hd => (h6 d hd).trans (hopenlast d), h7⟩
  obtain ⟨htaken, hsame, -⟩ := hstop'.effect hgrant
  refine ⟨_, exec_on hs.1 rfl, htaken, by rw [hsame]; exact hfault, ?_⟩
  rw [hsame, hopen rfl, hchan]

/-! PROOF. The open limit is reached: the channel HELD and the idle header priming (R80, R99, R102). -/


variable {P : List Part} {s t v w : State} {c d : Chan}

/-- An opening channel with its valve reported open: HELD with NO_GRANT (R80). -/
def Channel.opened (k : Channel) : Channel :=
  { k with state := .held, command := .toOpen, strokeTimer := none, openingStarted := none, holds := k.holds.put .noGrant true }

theorem Channel.step_opened {k : Channel} (hk : k.state = .opening) : k.Step k.opened := by
  refine { command := fun _ => rfl, flows := fun hf => ?_, grant := le_rfl, shut := fun hs => ?_, auth := id, inputs := rfl,
           counts := rfl, lastStop := rfl, pauses := HoldSet.keepsPauses_put _ (r := .noGrant) _ (by decide) (by decide) }
  · rw [Channel.flowsByGrant_iff] at hf ⊢
    exact ⟨(fun h => nomatch h), fun _ => hf.2.1 (by rw [hk]; decide), fun _ => HoldSet.ne_empty_of_has (r := .noGrant) (by simp [Channel.opened])⟩
  · rw [hk] at hs; cases hs

/-- The part with the valve of channel `c` reported open and the channel HELD. -/
def State.openedAt (s : State) (c : Chan) : State := moveChan c Channel.opened (s.openAt c true)

theorem openedAt_writes (h : (s.chan c).state = .opening) : Writes [.inputs, .chans, .notices] s (s.openedAt c) := by
  have hinput : Writes [.inputs] s (s.openAt c true) := inputs_writes rfl rfl rfl rfl rfl rfl rfl
  exact hinput.then (moveChan_writes (Channel.step_opened (by rw [chan_openAt]; exact h)))

theorem chan_openedAt (s : State) (c d : Chan) : (s.openedAt c).chan d
    = if c = d then Channel.opened { s.chan c with openLimit := true } else s.chan d := by
  rw [State.openedAt, chan_moveChan]
  split
  · subst d; rw [chan_openAt]
  · rw [State.openAt, chan_modChan, if_neg (by assumption)]

theorem calling_of_anyCalling (h : s.anyCalling = false) (d : Chan) : (s.chan d).calling = false := by
  unfold State.anyCalling at h
  have := List.any_eq_false.mp h d (mem_chans d)
  simpa using this

/-- The channels as the idle header primes for a first caller. -/
theorem chan_primed (hany : s.anyCalling = false) (hdp : (s.openedAt c).header.dp = false) (d : Chan) :
    (startPriming (s.openedAt c)).chan d = if c = d then { s.chan c with
        openLimit := true, state := .held, command := .toOpen, strokeTimer := none, openingStarted := none
        holds := { (s.chan c).holds with noGrant := true, headerWait := true } } else s.chan d := by
  rw [chan_startPriming hdp, chan_openedAt]
  split
  case isTrue hd =>
    have hcalls : (Channel.opened { s.chan c with openLimit := true }).calling = true := rfl
    rw [Channel.callerHeld, if_pos hcalls, Channel.holdWith_eq]
    split
    case isTrue hsame =>
      have hwait : { (s.chan c).holds with noGrant := true, headerWait := true } = (Channel.opened { s.chan c with openLimit := true }).holds := hsame.symm
      rw [hwait]; rfl
    case isFalse => rfl
  case isFalse =>
    rw [Channel.callerHeld, if_neg (by rw [calling_of_anyCalling hany]; decide)]

/-- Writes of channels, header and notices leave every other item. -/
theorem Writes.only_headed (h : Writes [.inputs, .chans, .header, .notices] s t) :
    t = { s with channels := t.channels, header := t.header, portB := t.portB, portS := t.portS } := by
  have hp := h.only_plant
  rw [h.tanks_eq, h.plan_eq, h.trip_eq, h.queue_eq, h.evals_eq] at hp
  exact hp

theorem opening_primes (hs : s.Ready) (hn : s.trip.state = .normal) (hst : (s.chan c).state = .opening) (ho : (s.chan c).openLimit = false)
    (hc : (s.chan c).closedLimit = false) (hi : s.header.state = .idle) (hdp : s.header.dp = false) (hg : s.GrantsOk) (hany : s.anyCalling = false) :
    ∃ t : State, exec (.openLimitReached c) s = .next t.startSending
      ∧ t = { s with
          channels := s.channels.set c { s.chan c with
            openLimit := true, state := .held, command := .toOpen, strokeTimer := none, openingStarted := none
            holds := { (s.chan c).holds with noGrant := true, headerWait := true } }
          header := { s.header with
            state := .priming, returnState := none, waitTimer := none
            primeTimer := some (s.expiry s.config.header.primeTime) }
          portB := t.portB, portS := t.portS }
      ∧ EndedKept s t ∧ ∀ q, (t.port q).line = (s.port q).line := by
  have hopened := openedAt_writes hst
  have hheader : (s.openedAt c).header = s.header := hopened.header_eq
  have hdp' : (s.openedAt c).header.dp = false := by rw [hheader]; exact hdp
  have hok : (s.openedAt c).GrantsOk := hopened.grantsOk hg
  have hzero := hok.2.1 (by rw [hheader, hi]; decide)
  have hprime : Writes [.chans, .header, .notices] (s.openedAt c) (startPriming (s.openedAt c)) := by
    refine startPriming_writes (fun _ => ?_) ?_
    · rw [hheader, hi]; decide
    · rw [hheader, hi]; decide
  have hall : Writes [.inputs, .chans, .header, .notices] s (startPriming (s.openedAt c)) := hopened.then hprime
  have htake : commandEffect (.openLimitReached c) s = startPriming (s.openedAt c) := by
    have hstate : ((s.openAt c true).chan c).state = .opening := by rw [chan_openAt]; exact hst
    have hclosed : ((s.openAt c true).chan c).closedLimit = false := by rw [chan_openAt]; exact hc
    refine takeOpenLimit_reached ho ?_ (by rw [hall.trip_eq]; exact hn)
    unfold openReached
    simp only [hstate, hclosed, Bool.false_eq_true, if_false]
    have hcall : headerCall c (s.openedAt c) = startPriming (s.openedAt c) := by
      unfold headerCall
      simp only [hheader, hi]
    refine Eq.trans (b := regrant false (headerCall c (s.openedAt c))) rfl ?_
    rw [hcall, (startPriming_holds hok hzero hdp').regrant hok (by decide)]
    rfl
  refine ⟨_, exec_quiet hs.1 rfl htake (hall.evals_eq.trans hs.2), ?_, fun q => hall.ended_eq (q := q), fun q => hall.line_eq (q := q)⟩
  have hchans : (startPriming (s.openedAt c)).channels = s.channels.set c { s.chan c with
      openLimit := true, state := .held, command := .toOpen, strokeTimer := none, openingStarted := none
      holds := { (s.chan c).holds with noGrant := true, headerWait := true } } := by
    refine channels_ext (s := s.modChan c fun k => { k with
      openLimit := true, state := .held, command := .toOpen, strokeTimer := none, openingStarted := none
      holds := { k.holds with noGrant := true, headerWait := true } }) fun d => ?_
    rw [chan_primed hany hdp', chan_modChan]
  have hhead : (startPriming (s.openedAt c)).header = { s.header with
      state := .priming, returnState := none, waitTimer := none
      primeTimer := some (s.expiry s.config.header.primeTime) } := by
    rw [header_startPriming hdp', hheader, hopened.config_eq]
    unfold State.expiry
    rw [hopened.now_eq]; rfl
  have honly := hall.only_headed
  rw [hchans, hhead] at honly
  exact honly

/-! PROOF. The closed limit of a closing channel, in any trip state: an end pending applied (R10, R14), and TRIPPING passed (R148). -/


variable {P : List Part} {s t v w : State} {c d : Chan} {i j n : EntryId} {e f : Entry} {k : Channel} {r : EndReason} {m : Nat}

/-! ### The inputs, and a channel at rest through the evaluations -/

/-- Consequences leave the inputs (R75, R91). -/
theorem Writes.inputs_eq (h : Writes P s t) (hP : ∀ p ∈ P, p = .chans ∨ p = .grants ∨ p.item ≠ .channels ∧ p.item ≠ .many := by decide)
    (c : Chan) : (t.chan c).inputs = (s.chan c).inputs := by
  refine h.keeps (I := fun u => (u.chan c).inputs = (s.chan c).inputs) (fun p hp u v hw hu => ?_) rfl
  rcases hP p hp with rfl | rfl | ⟨h1, h2⟩
  · cases hw with
    | chan d k u hk =>
      rw [chan_setChan]
      split
      case isTrue hd => rw [hk.inputs, hd]; exact hu
      case isFalse => exact hu
  · cases hw; rw [chan_giveAll, Channel.granted_inputs]; exact hu
  · rw [(hw.writes (P := [p]) (by simp)).chan_eq (by simpa using ⟨h1, h2⟩)]; exact hu

theorem get_ended_set (v : Vector Bool 4) (c d : Chan) (h : c = d ∨ v.get d = true) : (v.set c true).get d = true := by
  rw [Vector.get_eq_getElem, Vector.getElem_set]
  split
  case isTrue => rfl
  case isFalse hne => exact h.resolve_left fun hd => hne (congrArg Fin.val hd)

/-- An ended flag stands through what sets flags and tells notices (R173). -/
theorem Writes.ended_stands (h : Writes P s t) (q : Side) (c : Chan) (hs : (s.port q).ended.get c = true)
    (hP : ∀ p ∈ P, p.item ≠ .many ∧ (p.item = .ports → p = .notices ∨ p = .ended) := by decide) : (t.port q).ended.get c = true := by
  refine h.keeps (I := fun u => (u.port q).ended.get c = true) (fun p hp u v hw hu => ?_) hs
  by_cases hi : p = .ended
  · subst hi
    cases hw with
    | ended d u => exact (ended_setEnded d u q) ▸ get_ended_set _ d c (.inr hu)
  · rw [(hw.writes (P := [p]) (by simp)).ended_eq fun x hx => ?_]
    · exact hu
    · rw [List.mem_singleton] at hx
      subst hx
      exact ⟨(hP _ hp).1, fun h => ((hP _ hp).2 h).resolve_right hi⟩

/-- The valve items of a channel at rest stand through the evaluations of a command. -/
theorem effect_lasting {g : State → State} (hw : ((g s).chan c).watched = false) (hz : ((g s).chan c).grant = 0) :
    ((effect g s).chan c).lasting = ((g s).chan c).lasting := by
  refine (effect_keeps (I := fun v => (v.chan c).watched = false ∧ (v.chan c).grant = 0 ∧ (v.chan c).lasting = ((g s).chan c).lasting)
    (fun u v hm hu => ?_) (fun _ _ h => h) ⟨hw, hz, rfl⟩).2.2
  obtain ⟨h1, h2, h3⟩ := hu
  have hl := (hm.rests c).lasting h1 h2
  have hgrant : (v.chan c).lasting.grant = (u.chan c).lasting.grant := congrArg Channel.grant hl
  exact ⟨(watched_of_lasting hl).trans h1, hgrant.trans h2, hl.trans h3⟩

/-! ### An end applied at a channel that is shut (R14) -/

theorem Channel.granted_unwatched (h : k.watched = false) (g n : Nat) : k.granted g n = { k with grant := 0 } := by
  unfold Channel.watched at h
  unfold Channel.granted
  cases hs : k.state <;> simp [hs] at h ⊢

/-- A shut channel past its entry's end: no grant, and the authorisation where it has an entry left (R14). -/
theorem chan_afterFinish_shut (hw : (s.chan c).watched = false) (i : EntryId) (r : EndReason) (m : Nat) : (afterFinish c i r m s).chan c
    = { s.chan c with grant := 0, authorised := (s.chan c).authorised && (s.currentId c).isSome } := by
  have hchan : (rotated c r m (promote c s).1).chan c = s.chan c := by rw [(rotated_writes c r m _).chan_eq, (promote_writes c s).chan_eq]
  have hgrant : (regrant false (rotated c r m (promote c s).1)).chan c = { s.chan c with grant := 0 } := by
    rw [chan_regrant, hchan, Channel.granted_unwatched hw]
  have hid : (setEnded c (regrant false (rotated c r m (promote c s).1))).currentId c = s.currentId c := by
    have hentry : (setEnded c (regrant false (rotated c r m (promote c s).1))).entry = (promote c s).1.entry := by
      rw [entry_setEnded, (regrant_writes false _).entry_eq, (rotated_writes c r m _).entry_eq]
    rw [currentId_congr hentry, currentId_promote]
  rw [(afterFinish_told c i r m s).chan_eq, chan_endJudged, if_pos rfl, hid, chan_setEnded, hgrant]

/-- What is kept of a channel whose entry has ended: all but the reasons of leaving ACTIVE, the grant and the authorisation. -/
structure Channel.EndedFrom (k l : Channel) (b : Bool) : Prop where
  state : l.state = k.state
  closedLimit : l.closedLimit = k.closedLimit
  strokeTimer : l.strokeTimer = k.strokeTimer
  grant : l.grant = 0
  authorised : l.authorised = (k.authorised && b)

theorem chan_finished (s : State) (c : Chan) (i : EntryId) (e : Entry) (r : EndReason) : ∃ b m h, (finished c i e r s).chan c
    = { s.chan c with highSoon := b, meter := m, holds := h } := by
  unfold finished
  split
  · unfold leaveActive
    rw [chan_removeHolds, if_pos rfl, chan_modTank, chan_setUnmetered, if_pos rfl, chan_setHighSoon, if_pos rfl]
    exact ⟨_, _, _, rfl⟩
  · exact ⟨_, _, _, rfl⟩

theorem currentId_applyEnd (he : s.entry i = some e) (hr : e.endPending = some r) :
    (applyEnd c i s).currentId c = (finished c i e r s).currentId c := by
  rw [applyEnd_eq_finished he hr, currentId_afterFinish]

theorem chan_applyEnd_shut (hw : (s.chan c).watched = false) (he : s.entry i = some e) (hr : e.endPending = some r) :
    (s.chan c).EndedFrom ((applyEnd c i s).chan c) ((applyEnd c i s).currentId c).isSome := by
  obtain ⟨b, m, h, hchan⟩ := chan_finished s c i e r
  have hid := currentId_applyEnd (c := c) he hr
  rw [applyEnd_eq_finished he hr] at hid ⊢
  rw [chan_afterFinish_shut (by rw [hchan]; exact hw), hid, hchan]
  exact ⟨rfl, rfl, rfl, rfl, rfl⟩

/-- The entries past an end applied: the next comes up, AWAIT and NOT_READY, the channel's others stand (R14 step 2). -/
theorem entry_applyEnd_next (hok : s.CurrentOk) (hc : s.current c = some (i, e)) (hr : e.endPending = some r) (hj : j ≠ i)
    (hf : s.entry j = some f) : (applyEnd c i s).entry j
      = some (if (applyEnd c i s).currentId c = some j then { f with state := .await, lineup := .notReady } else f) := by
  obtain ⟨hid, he⟩ := current_eq_some_iff.mp hc
  have hother : (finished c i e r s).entry j = some f := by
    rw [entry_finished, entry_modEntry, if_neg fun h => hj h.symm, hf]
  rw [entry_applyEnd_other he hr hj, currentId_applyEnd he hr, hf]
  split
  case isFalse => rfl
  case isTrue h =>
    obtain ⟨-, hfc, hl⟩ := current_live (current_eq_some_iff.mpr ⟨h, hother⟩)
    rw [Option.map_some, promoted_of_ok hok hid hf hj hl hfc]

/-- A channel whose entry has just ended has none ACTIVE, and cannot start (R78, R79 step 2). -/
theorem applyEnd_rests (hok : s.CurrentOk) (hc : s.current c = some (i, e)) (hr : e.endPending = some r) :
    (applyEnd c i s).activeEntry c = none ∧ ∀ w : State, w.entry = (applyEnd c i s).entry → w.canStart c = false := by
  obtain ⟨hid, he⟩ := current_eq_some_iff.mp hc
  have hnext (p : EntryId × Entry) (hp : (applyEnd c i s).current c = some p) : p.2.state = .await ∧ p.2.lineup = .notReady := by
    obtain ⟨j, f⟩ := p
    obtain ⟨hjid, hje⟩ := current_eq_some_iff.mp hp
    have hj : j ≠ i := by
      rintro rfl
      have hl := (current_live hp).2.2
      rw [entry_applyEnd_self he hr] at hje
      cases hje
      rw [terminal_finish] at hl; cases hl
    have hsome : ∃ g, s.entry j = some g := by
      cases hg : s.entry j with
      | some g => exact ⟨g, rfl⟩
      | none =>
        rw [entry_applyEnd_other he hr hj, hg] at hje
        simp at hje
    obtain ⟨g, hg⟩ := hsome
    rw [entry_applyEnd_next hok hc hr hj hg, if_pos hjid] at hje
    cases hje
    exact ⟨rfl, rfl⟩
  refine ⟨?_, fun w hw => ?_⟩
  · unfold State.activeEntry
    cases hp : (applyEnd c i s).current c with
    | none => rfl
    | some p => simp [(hnext p hp).1]
  · unfold State.canStart
    rw [current_congr hw]
    cases hp : (applyEnd c i s).current c with
    | none => rfl
    | some p => simp [(hnext p hp).2]

/-! ### The closed limit applies the end pending (R10) -/

theorem settleEnd_applies (hc : s.current c = some (i, e)) (hr : e.endPending = some r) (hp : (s.chan c).provenClosed = true)
    (hk : (s.chan c).stroking = false) : settleEnd c s = applyEnd c i s := by
  unfold settleEnd
  simp only [hc, hr, hp, hk]
  rfl

/-- The part as a closing channel's closed limit leaves it, its end applied. -/
theorem takeClosedLimit_ends (hok : s.PlanOk) (hst : (s.chan c).state = .closing) (hcl : (s.chan c).closedLimit = false)
    (ho : (s.chan c).openLimit = false) (hc : s.current c = some (i, e)) (hr : e.endPending = some r) :
    takeClosedLimit c true s = judgeSettled (noteChan .state c (applyEnd c i (s.landed c))) := by
  have hcur : (s.landed c).current c = some (i, e) := hc
  have hchan := chan_landed s c
  have hsettle : settleEnd c (s.landed c) = applyEnd c i (s.landed c) := by
    refine settleEnd_applies hcur hr ?_ ?_
    · rw [hchan]; simp [Channel.provenClosed, Channel.landed, ho]
    · rw [hchan]; rfl
  rw [takeClosedLimit_landed hst hcl ho, hsettle,
    judgeStart_of_cannot ((applyEnd_rests (s := s.landed c) hok.2.1 hcur hr).2 _ (noteChan_writes ..).entry_eq)]

theorem closing_ends (hs : s.Ready) (hst : (s.chan c).state = .closing) (hcl : (s.chan c).closedLimit = false)
    (ho : (s.chan c).openLimit = false) (hok : s.PlanOk) (hc : s.current c = some (i, e)) (hr : e.endPending = some r) :
    ∃ t : State, exec (.closedLimitReached c) s = .next t.startSending ∧ t.entry i = some (e.finish r s.now)
      ∧ (∀ j f, j ≠ i → s.entry j = some f → f.chan = c →
          t.entry j = some (if t.currentId c = some j then { f with state := .await, lineup := .notReady } else f))
      ∧ (∀ q, (t.port q).ended.get c = true)
      ∧ (s.chan c).landed.EndedFrom (t.chan c) (t.currentId c).isSome := by
  have htake := takeClosedLimit_ends hok hst hcl ho hc hr
  have hcur : (s.landed c).current c = some (i, e) := hc
  have hchan := chan_landed s c
  have hentry : (s.landed c).entry i = some e := (current_eq_some_iff.mp hcur).2
  have htold : Writes [.settle, .notices] (applyEnd c i (s.landed c)) (takeClosedLimit c true s) := by
    rw [htake]
    exact (noteChan_writes ..).then (judgeSettled_writes _)
  have hself : (takeClosedLimit c true s).entry i = some (e.finish r s.now) := by
    rw [htold.entry_eq]; exact entry_applyEnd_self hentry hr
  have hid : (takeClosedLimit c true s).currentId c = (applyEnd c i (s.landed c)).currentId c :=
    congrFun (currentId_congr htold.entry_eq) c
  have hothers (j : EntryId) (f : Entry) (hj : j ≠ i) (hf : s.entry j = some f) : (takeClosedLimit c true s).entry j
      = some (if (takeClosedLimit c true s).currentId c = some j then { f with state := .await, lineup := .notReady } else f) := by
    rw [htold.entry_eq, hid]
    exact entry_applyEnd_next (s := s.landed c) hok.2.1 hcur hr hj hf
  have hended (q : Side) : ((takeClosedLimit c true s).port q).ended.get c = true := by
    rw [htold.ended_eq, applyEnd_eq_finished hentry hr, ended_afterFinish]
    exact get_ended_set _ c c (.inl rfl)
  have hfrom : (s.chan c).landed.EndedFrom ((takeClosedLimit c true s).chan c) ((takeClosedLimit c true s).currentId c).isSome := by
    rw [htold.chan_eq, hid, ← hchan]
    exact chan_applyEnd_shut (by rw [hchan]; rfl) hentry hr
  have hactive : (takeClosedLimit c true s).activeEntry c = none := by
    rw [activeEntry_congr htold.entry_eq]; exact (applyEnd_rests (s := s.landed c) hok.2.1 hcur hr).1
  have hslot : i.val < (takeClosedLimit c true s).plan.nextId := by
    have hholds : s.Holds i e := ⟨fun _ => hok.slot (current_eq_some_iff.mp hc).2, e, (current_eq_some_iff.mp hc).2, .refl e⟩
    exact ((takeClosedLimit_writes c true s).holds hholds).1 trivial
  have hshut : ((takeClosedLimit c true s).chan c).watched = false := by unfold Channel.watched; rw [hfrom.state]; rfl
  obtain ⟨hsame, hown⟩ := runEvals_inactive evalBudget (Channel.asks_of_unwatched hshut) (Channel.flowsByGrant_of_unwatched hshut hfrom.grant) hactive
  have hquiet : ∀ q, ((runEvals evalBudget (takeClosedLimit c true s)).port q).ended.get c = true := fun q =>
    (runEvals_writes evalBudget _).raw.ended_stands q c (hended q)
  have hidt : (effect (takeClosedLimit c true) s).currentId c = (takeClosedLimit c true s).currentId c := currentId_of_own hown
  refine ⟨effect (takeClosedLimit c true) s, exec_on hs.1 rfl, effect_terminal hslot hself (terminal_finish ..), fun j f hj hf hfc => ?_,
    hquiet, ?_⟩
  · refine entry_of_own hown ?_ ?_
    · rw [hidt]; exact hothers j f hj hf
    · split <;> exact hfc
  · rw [hidt]
    have hc : (effect (takeClosedLimit c true) s).chan c = (takeClosedLimit c true s).chan c := hsame
    rw [hc]; exact hfrom

/-! PROOF. TRIPPING passed to TRIPPED at a closed limit (R148), and the limit switches whole. -/


variable {s t v w : State} {c d : Chan} {i j n : EntryId} {e f : Entry} {k : Channel} {r : EndReason}

/-- An end judged at a shut channel: nothing done, or the end applied and the channel without a grant (R10). -/
theorem settleEnd_shut (hw : (s.chan c).watched = false) :
    settleEnd c s = s ∨ ((settleEnd c s).chan c).state = (s.chan c).state ∧ ((settleEnd c s).chan c).grant = 0 := by
  unfold settleEnd
  split
  case h_2 => exact .inl rfl
  case h_1 i e hc =>
    split
    case isFalse => exact .inl rfl
    case isTrue h =>
      simp only [Bool.and_eq_true, Option.isSome_iff_exists] at h
      obtain ⟨⟨⟨r, hr⟩, -⟩, -⟩ := h
      have hfrom := chan_applyEnd_shut hw (current_eq_some_iff.mp hc).2 hr
      exact .inr ⟨hfrom.state, hfrom.grant⟩

/-- Every channel is settled past a closed limit just where the others are. -/
theorem allSettled_landed (s : State) (c : Chan) (ho : (s.chan c).openLimit = false) : (s.landed c).allSettled = true
    ↔ ∀ d, d ≠ c → (s.chan d).provenClosed = true ∨ s.trip.unproven.get d = true := by
  have hself : (s.landed c).settled c = true := by
    unfold State.settled
    rw [chan_landed]
    simp [Channel.provenClosed, Channel.landed, ho]
  have hother (d : Chan) (hd : d ≠ c) : (s.landed c).settled d = true ↔ (s.chan d).provenClosed = true ∨ s.trip.unproven.get d = true := by
    unfold State.settled
    rw [State.landed, chan_modChan, if_neg (Ne.symm hd), Bool.or_eq_true]
    rfl
  unfold State.allSettled
  rw [List.all_eq_true]
  refine ⟨fun h d hd => (hother d hd).mp (h d (mem_chans d)), fun h d _ => ?_⟩
  by_cases hd : d = c
  · rw [hd]; exact hself
  · exact (hother d hd).mpr (h d hd)

/-- A command that leaves channel `c` without a grant, or hands nothing on, leaves a shut channel's state (R75). -/
theorem effect_state {g : State → State} (hw : ((g s).chan c).watched = false) (h : (g s).evals = [] ∨ ((g s).chan c).grant = 0) :
    ((effect g s).chan c).state = ((g s).chan c).state := by
  rcases h with h | h
  · rw [effect_of_no_evals h]
  · have hl : ((effect g s).chan c).lasting.state = ((g s).chan c).lasting.state := congrArg Channel.state (effect_lasting hw h)
    exact hl

theorem closing_settles (hs : s.Ready) (hst : (s.chan c).state = .closing) (hcl : (s.chan c).closedLimit = false)
    (ho : (s.chan c).openLimit = false) (ht : s.trip.state = .tripping) :
    ∃ t : State, exec (.closedLimitReached c) s = .next t.startSending ∧ (t.chan c).state = .idle
      ∧ t.trip.firstOut = s.trip.firstOut ∧ t.trip.later = s.trip.later ∧ t.trip.unproven = s.trip.unproven
      ∧ (t.trip.state = .tripping ∨ t.trip.state = .tripped)
      ∧ (t.trip.state = .tripped ↔ ∀ d, d ≠ c → (s.chan d).provenClosed = true ∨ s.trip.unproven.get d = true) := by
  have hchan := chan_landed s c
  have hshut : ((s.landed c).chan c).watched = false := by rw [hchan]; rfl
  have hev : (s.landed c).evals = [] := hs.2
  have hsettle := settleEnd_shut hshut
  have hend := (ending_writes c (s.landed c)).raw.then (noteChan_writes .state c _) (R := applyParts)
  have htrip := hend.trip_step
  have hinputs (d : Chan) : ((noteChan .state c (settleEnd c (s.landed c))).chan d).inputs = ((s.landed c).chan d).inputs := hend.inputs_eq (c := d)
  have hall := allSettled_congr hinputs htrip.unproven
  have hstays : (noteChan .state c (settleEnd c (s.landed c))).chan = (settleEnd c (s.landed c)).chan := (noteChan_writes ..).chan_eq
  have hevals : (noteChan .state c (settleEnd c (s.landed c))).evals = (settleEnd c (s.landed c)).evals := (noteChan_writes ..).evals_eq
  have htake := takeClosedLimit_landed hst hcl ho
  generalize noteChan .state c (settleEnd c (s.landed c)) = v at htrip hall hstays hevals htake
  have hstate : v.trip.state = .tripping := htrip.state.trans ht
  have hcannot : v.canStart c = false := by
    unfold State.canStart
    split
    · simp [hstate]
    · rfl
  rw [judgeStart_of_cannot hcannot] at htake
  have hjudged := judgeSettled_writes v
  have hidle : ((judgeSettled v).chan c).state = .idle ∧ ((judgeSettled v).evals = [] ∨ ((judgeSettled v).chan c).grant = 0) := by
    rw [hjudged.chan_eq, hjudged.evals_eq, hstays, hevals]
    rcases hsettle with h | ⟨h1, h2⟩
    · rw [h, hchan]; exact ⟨rfl, .inl hev⟩
    · exact ⟨h1.trans (by rw [hchan]; rfl), .inr h2⟩
  have hrecord : v.trip.SameRecord (judgeSettled v).trip := by
    rw [judgeSettled_trip]
    split
    · exact ⟨rfl, rfl, rfl, rfl, rfl, rfl⟩
    · exact ⟨rfl, rfl, rfl, rfl, rfl, rfl⟩
  have htripped := judgeSettled_tripped v
  have hor : (judgeSettled v).trip.state = .tripping ∨ (judgeSettled v).trip.state = .tripped := by
    rw [judgeSettled_trip]
    split
    · exact .inr rfl
    · exact .inl hstate
  rw [← htake] at hidle hrecord htripped hor
  have heff : (takeClosedLimit c true s).trip.Step (runEvals evalBudget (takeClosedLimit c true s)).trip := (runEvals_writes evalBudget _).raw.trip_step
  have hsame : (effect (takeClosedLimit c true) s).trip = (runEvals evalBudget (takeClosedLimit c true s)).trip := rfl
  refine ⟨effect (takeClosedLimit c true) s, exec_on hs.1 rfl, ?_, ?_, ?_, ?_, ?_, ?_⟩
  · rw [effect_state (by unfold Channel.watched; rw [hidle.1]) hidle.2]; exact hidle.1
  · rw [hsame, heff.firstOut, hrecord.firstOut, htrip.firstOut]; rfl
  · rw [hsame, heff.later, hrecord.later, htrip.later]; rfl
  · rw [hsame, heff.unproven, hrecord.unproven, htrip.unproven]; rfl
  · rw [hsame, heff.state]; exact hor
  · rw [hsame, heff.state, htripped, hstate, hall, ← allSettled_landed s c ho]
    simp

/-- Settles O51, limit by limit; the closed limit in any trip state is `closing_ends` and `closing_settles`. -/
theorem limitSwitchesMoveTheChannel : Obligations.LimitSwitchesMoveTheChannel := by
  refine ⟨fun c s hs hn => ⟨fun hst hc ho ha hp => ⟨_, rfl, closing_lands hs hn hst hc ho ha hp⟩, idle_leaves hs hn, masked_times hs hn,
    opening_recorded hs hn, fun hst ho hc hi hdp hg hany => opening_primes hs hn hst ho hc hi hdp hg hany, openLost_faults hs hn,
    openLost_recorded hs hn⟩, fun c s hs hst hcl ho => ⟨fun i e r hok hc _ hr => ?_, closing_settles hs hst hcl ho⟩⟩
  obtain ⟨t, hexec, hself, hothers, hended, hfrom⟩ := closing_ends hs hst hcl ho hok hc hr
  exact ⟨t, hexec, hself, hothers, hended, hfrom.state, hfrom.closedLimit, hfrom.strokeTimer, hfrom.authorised⟩

/-! SUPPORT. A channel at work on its ACTIVE entry, through the evaluations of any channel (R53, R54, R111). -/


variable {P : List Part} {s t v w : State} {u : TankNo} {c d : Chan} {i j n : EntryId} {e f : Entry} {k l : Channel} {r : EndReason} {m : Nat}
  {a : EvalKind}

/-! ### What evaluations keep of a channel -/

/-- What no evaluation changes of a channel whose entry stays ACTIVE: UNMETERED_GAIN, and SETTLING off. -/
structure Channel.KeepsOn (k l : Channel) : Prop where
  gain : l.meter.unmeteredGain = k.meter.unmeteredGain
  settling : k.holds.settling = false → l.holds.settling = false

theorem Channel.KeepsOn.refl (k : Channel) : k.KeepsOn k := ⟨rfl, id⟩

theorem Channel.KeepsOn.trans {k l m : Channel} (h : k.KeepsOn l) (g : l.KeepsOn m) : k.KeepsOn m :=
  ⟨g.gain.trans h.gain, fun hk => g.settling (h.settling hk)⟩

/-- A channel of one state but for FLOWING and HELD, which a regrant exchanges. -/
structure Channel.StaysAt (k l : Channel) : Prop extends Channel.KeepsOn k l where
  watched : l.watched = k.watched
  closing : l.state = .closing ↔ k.state = .closing
  shut : k.state = .closing → k.grant = 0 → l.grant = 0

theorem Channel.StaysAt.refl (k : Channel) : k.StaysAt k := ⟨.refl k, rfl, .rfl, fun _ h => h⟩

/-- What spares a channel leaves it at its state. -/
theorem State.Spares.staysAt (h : s.Spares c t) : (s.chan c).StaysAt (t.chan c) := by
  have hsame := h.ungranted
  have hshut (hc : (s.chan c).state = .closing) (hg : (s.chan c).grant = 0) : (t.chan c).grant = 0 := by
    rw [h.chan (Channel.asks_of_closing hc) (Channel.flowsByGrant_of_closing hc hg)]; exact hg
  generalize t.chan c = l at hsame hshut ⊢
  generalize s.chan c = k at hsame hshut ⊢
  have hwatched (k : Channel) : k.ungranted.watched = k.watched := by
    unfold Channel.ungranted Channel.watched
    cases k.state <;> rfl
  have hclosing (k : Channel) : k.ungranted.state = .closing ↔ k.state = .closing := by
    unfold Channel.ungranted
    cases k.state <;> simp
  have hgain (k : Channel) : k.ungranted.meter.unmeteredGain = k.meter.unmeteredGain := by
    unfold Channel.ungranted
    split <;> rfl
  have hsettling (k : Channel) : k.ungranted.holds.settling = k.holds.settling := by
    unfold Channel.ungranted
    split <;> rfl
  exact {
    gain := by rw [← hgain l, hsame, hgain]
    settling := fun hk => by rw [← hsettling l, hsame, hsettling, hk]
    watched := by rw [← hwatched l, hsame, hwatched]
    closing := by rw [← hclosing l, hsame, hclosing]
    shut := hshut }

theorem Channel.staysAt_unsettled (k : Channel) (e : Entry) : k.StaysAt (k.unsettled e) := by
  have hoff : k.holds.settling = false → (k.unsettled e).holds.settling = false := by
    intro hk
    unfold Channel.unsettled
    split
    · change (k.holdsWithout [.settling]).has .settling = false
      rw [Channel.holdsWithout_eq, apply_ite (fun h : HoldSet => h.has .settling), HoldSet.has_put_of_ne (by decide), HoldSet.has_minus]
      simp
    · exact hk
  have heq := k.unsettled_eq e
  refine ⟨⟨?_, hoff⟩, ?_, ?_, fun _ hg => ?_⟩
  · rw [heq]
  · rw [heq]; rfl
  · rw [heq]
  · rw [heq]; exact hg

theorem Channel.keepsOn_valveClosed (k : Channel) (n m : Nat) : k.KeepsOn (k.valveClosed n m) := by
  refine ⟨k.gain_valveClosed n m, fun hk => ?_⟩
  have hminus (rs : List HoldReason) : (k.holds.minus rs).settling = false := by
    change (k.holds.minus rs).has .settling = false
    rw [HoldSet.has_minus, show k.holds.has .settling = false from hk, Bool.false_and]
  unfold Channel.valveClosed
  split
  · exact hminus _
  · exact hminus _
  · exact hminus _
  all_goals exact hk

/-! ### A channel at work -/

/-- Channel `c`, of which `k` is an earlier record, is open, opening or closing for its current entry `i`, which is ACTIVE. -/
structure State.Manned (c : Chan) (i : EntryId) (k : Channel) (s : State) : Prop where
  entry : ∃ f, s.current c = some (i, f) ∧ f.state = .active
  busy : (s.chan c).watched = true ∨ ((s.chan c).state = .closing ∧ (s.chan c).grant = 0)
  keeps : k.KeepsOn (s.chan c)

/-- The same, and it is closing where an end is pending: only its limit applies it (R10). -/
structure State.Engaged (c : Chan) (i : EntryId) (k : Channel) (s : State) : Prop extends State.Manned c i k s where
  ends : ∀ f, s.entry i = some f → f.endPending ≠ none → (s.chan c).state = .closing

theorem State.Manned.of_fixed (h : s.Manned c i k) (hf : t.fixed = s.fixed) (hc : (s.chan c).StaysAt (t.chan c)) : t.Manned c i k where
  entry := by
    obtain ⟨e, he, ha⟩ := h.entry
    obtain ⟨f, hf, hfe⟩ := current_of_fixed hf he
    exact ⟨f, hf, (Entry.state_of_fixed hfe).trans ha⟩
  busy := by
    rw [hc.watched, hc.closing]
    exact h.busy.imp_right fun ⟨h1, h2⟩ => ⟨h1, hc.shut h1 h2⟩
  keeps := h.keeps.trans hc.toKeepsOn

theorem State.Engaged.of_same (h : s.Engaged c i k) (he : t.entry = s.entry) (hc : (s.chan c).StaysAt (t.chan c)) : t.Engaged c i k where
  toManned := h.toManned.of_fixed (fixed_congr he) hc
  ends f hf hn := by rw [he] at hf; exact hc.closing.mpr (h.ends f hf hn)

theorem State.Engaged.of_told (h : s.Engaged c i k) (hw : Writes P s t) (hp : ∀ p ∈ P, p.item ≠ .plan ∧ p.item ≠ .channels ∧ p.item ≠ .many := by decide) :
    t.Engaged c i k := by
  refine h.of_same (hw.entry_eq fun p hpP => ⟨(hp p hpP).1, (hp p hpP).2.2⟩) ?_
  rw [hw.chan_eq fun p hpP => ⟨(hp p hpP).2.1, (hp p hpP).2.2⟩]
  exact .refl _

/-- A close hands the channel its end's stroke (R81). -/
theorem State.Manned.close (h : s.Manned c i k) : (closeChannel c s).Engaged c i k := by
  have hclosing : (((closeChannel c s).chan c).state = .closing ∧ ((closeChannel c s).chan c).grant = 0)
      ∧ (s.chan c).KeepsOn ((closeChannel c s).chan c) := by
    rcases h.busy with hw | ⟨hw, hz⟩
    · rw [chan_closeChannel hw]
      exact ⟨Channel.valveClosed_closing hw .., (s.chan c).keepsOn_valveClosed _ _⟩
    · have hsame : closeChannel c s = s := by
        have hno : (s.chan c).watched = false := by unfold Channel.watched; rw [hw]
        unfold closeChannel
        simp only [hno, Bool.false_eq_true, if_false]
      rw [hsame]; exact ⟨⟨hw, hz⟩, .refl _⟩
  exact {
    entry := by rw [current_congr (closeChannel_writes ..).entry_eq]; exact h.entry
    busy := .inr hclosing.1
    keeps := h.keeps.trans hclosing.2
    ends := fun _ _ _ => hclosing.1.1 }

theorem State.Manned.markEnd (h : s.Manned c i k) (r : EndReason) : (markEnd i r s).Manned c i k := by
  refine h.of_fixed (markEnd_fixed i r s) ?_
  obtain ⟨e, he, ha⟩ := h.entry
  cases hn : e.endPending with
  | none =>
    rw [chan_markEnd (current_live he).1 hn (.inr ha), if_pos (current_live he).2.1]
    exact Channel.staysAt_unsettled ..
  | some r' =>
    have hsame : Machine.markEnd i r s = s := by
      unfold Machine.markEnd
      simp only [(current_live he).1, hn, Option.isNone_some, Bool.false_and, Bool.false_eq_true, if_false]
    rw [hsame]; exact .refl _

theorem State.Manned.clearSlug (h : s.Manned c i k) : (clearSlug i s).Manned c i k := by
  refine h.of_fixed (clearSlug_fixed i s) ?_
  obtain ⟨e, he, -⟩ := h.entry
  rw [chan_clearSlug (current_live he).1, if_pos (current_live he).2.1]
  exact Channel.staysAt_unsettled ..

theorem State.Manned.finalStage (h : s.Manned c i k) : (finalStage c i s).Engaged c i k := (h.markEnd .levelFinal).clearSlug.close

namespace State.Engaged

/-- Kept by a write of the entry that keeps its place and its end. -/
theorem modEntry (h : s.Engaged c i k) {g : Entry → Entry}
    (hg : ∀ e, (g e).chan = e.chan ∧ (g e).state = e.state ∧ (g e).endPending = e.endPending) : (s.modEntry i g).Engaged c i k where
  entry := by
    obtain ⟨f, hf, ha⟩ := h.entry
    exact ⟨g f, current_modEntry hf (hg f).1 (by rw [(hg f).2.1]; exact (current_live hf).2.2), (hg f).2.1.trans ha⟩
  busy := h.busy
  keeps := h.keeps
  ends x hx hn := by
    obtain ⟨f, hf, -⟩ := h.entry
    rw [entry_modEntry_self, (current_live hf).1] at hx
    cases hx
    exact h.ends f (current_live hf).1 (by rw [← (hg f).2.2]; exact hn)

theorem ite {p : Prop} [Decidable p] (ht : t.Engaged c i k) (hv : v.Engaged c i k) : (if p then t else v).Engaged c i k := by
  split
  · exact ht
  · exact hv

theorem regrant (h : s.Engaged c i k) (z : Bool) : (regrant z s).Engaged c i k :=
  h.of_same (regrant_writes z s).entry_eq ((regrant_spares z c s).staysAt)

theorem setHighSoon (h : s.Engaged c i k) (d : Chan) (b : Bool) : (setHighSoon d b s).Engaged c i k := by
  refine h.of_same (setHighSoon_writes ..).entry_eq ?_
  rw [chan_setHighSoon]
  split
  case isTrue hd => subst hd; exact ⟨⟨rfl, id⟩, rfl, .rfl, fun _ hg => hg⟩
  case isFalse => exact .refl _

theorem lowerStage (h : s.Engaged c i k) (st : Stage) : (lowerStage i st s).Engaged c i k :=
  (h.modEntry (g := fun e => { e with stage := some st }) fun _ => ⟨rfl, rfl, rfl⟩).of_told (noteEntry_writes ..)

theorem clearSlug (h : s.Engaged c i k) : (clearSlug i s).Engaged c i k where
  toManned := h.toManned.clearSlug
  ends x hx hn := by
    obtain ⟨f, hf, -⟩ := h.entry
    rw [entry_clearSlug, if_pos rfl, (current_live hf).1] at hx
    cases hx
    have hclosing := h.ends f (current_live hf).1 hn
    rw [chan_clearSlug (current_live hf).1, if_pos (current_live hf).2.1]
    exact (Channel.staysAt_unsettled ..).closing.mpr hclosing

theorem sizeSlug (h : s.Engaged c i k) (x : Nat) (y : Int) : (sizeSlug c i x y s).Engaged c i k := by
  unfold Machine.sizeSlug
  split
  · simp only
    exact .ite (.ite (h.modEntry fun _ => ⟨rfl, rfl, rfl⟩) (h.lowerStage .final).finalStage) h
  · exact h

theorem applyStage (h : s.Engaged c i k) (a : EvalKind) (x : LevelHalf) (y : TankDecl) : (applyStage a c i x y s).Engaged c i k := by
  unfold Machine.applyStage
  split
  case h_2 => exact h
  case h_1 e _ =>
    simp only
    split
    · have hset := h.modEntry (g := fun e => { e with stage := some x.computed }) fun _ => ⟨rfl, rfl, rfl⟩
      exact .ite hset.finalStage (.ite (hset.sizeSlug ..) hset)
    case h_2 held _ =>
      have hfell : (if decide (held.lower x.computed ≠ held) = true then Machine.lowerStage i (held.lower x.computed) s else s).Engaged c i k :=
        .ite (h.lowerStage _) h
      have hgrant (p : Prop) [Decidable p] := State.Engaged.ite (p := p) (hfell.regrant false) hfell
      exact .ite (.ite hfell.finalStage hfell) (.ite ((hgrant _).sizeSlug ..) (hgrant _))

theorem levelSteps (h : s.Engaged c i k) (a : EvalKind) (e : Entry) : (levelSteps a c i e s).Engaged c i k := by
  unfold Machine.levelSteps
  split
  case h_2 => exact h
  case h_1 x y _ _ =>
    have hstage := ((h.of_told (judgeAbove_writes e.tank s)).setHighSoon c x.t.soon).applyStage a x y
    have hsettled : (endSettling c i y.slugVolume x.m
        (Machine.applyStage a c i x y (Machine.setHighSoon c x.t.soon (judgeAbove e.tank s)))).Engaged c i k := by
      unfold endSettling
      split
      · exact .ite hstage ((hstage.clearSlug.sizeSlug ..).regrant false)
      · exact hstage
    exact .ite hsettled hstage

theorem meterHalf (h : s.Engaged c i k) (n : Nat) : (meterHalf c i n s).Engaged c i k := by
  unfold Machine.meterHalf
  split
  · exact .ite (h.toManned.markEnd .allotment).close h
  · exact h

theorem judgeMargin (h : s.Engaged c i k) (a : EvalKind) (e : Entry) : (judgeMargin a c i e s).Engaged c i k :=
  ((h.levelSteps a e).meterHalf _).modEntry fun _ => ⟨rfl, rfl, rfl⟩

/-- An end pending waits for the closed limit (R10). -/
theorem settleEnd (h : s.Engaged c i k) : settleEnd c s = s := by
  obtain ⟨f, hf, -⟩ := h.entry
  cases hn : f.endPending with
  | none => exact settleEnd_none fun j e hc => by rw [hf] at hc; cases hc; exact hn
  | some r => exact settleEnd_stroking (Channel.stroking_of_closing (h.ends f (current_live hf).1 (by rw [hn]; simp)))

/-- An evaluation of the channel itself is its margin's judgement alone. -/
theorem evaluate_self (h : s.Engaged c i k) (hc : s.activeEntry c = some (i, e)) (a : EvalKind) :
    evaluate a c s = Machine.judgeMargin a c i e s := by
  rw [evaluate_eq hc, settleSet, (h.judgeMargin a e).settleEnd, ite_self]

theorem evaluate (h : s.Engaged c i k) (a : EvalKind) (d : Chan) : (evaluate a d s).Engaged c i k := by
  by_cases hd : d = c
  · subst hd
    obtain ⟨f, hf, ha⟩ := h.entry
    rw [h.evaluate_self (activeEntry_eq_some_iff.mpr ⟨hf, ha⟩)]
    exact h.judgeMargin a f
  · have hspare := evaluate_spares hd a s
    have hstays := hspare.staysAt
    obtain ⟨f, hf, ha⟩ := h.entry
    refine ⟨⟨by rw [current_of_own hspare.own]; exact ⟨f, hf, ha⟩, ?_,
      h.keeps.trans hstays.toKeepsOn⟩, fun g hg hn => ?_⟩
    · rw [hstays.watched, hstays.closing]
      exact h.busy.imp_right fun ⟨h1, h2⟩ => ⟨h1, hstays.shut h1 h2⟩
    rw [entry_of_own hspare.own (current_live hf).1 (current_live hf).2.1] at hg
    cases hg
    exact hstays.closing.mpr (h.ends f (current_live hf).1 hn)

theorem runEvals (m : Nat) {s : State} (h : s.Engaged c i k) : (runEvals m s).Engaged c i k := by
  induction m generalizing s with
  | zero => exact h
  | succ m ih =>
    unfold Machine.runEvals
    split
    · exact h
    case h_2 d rest _ => exact ih ((h.of_same (t := { s with evals := rest }) rfl (.refl _)).evaluate .change d)

theorem effect {g : State → State} (h : (g s).Engaged c i k) : (effect g s).Engaged c i k :=
  (h.runEvals evalBudget).of_same rfl (.refl _)

end State.Engaged

/-! SUPPORT. A reading of a served tank with its level known and no HI assertion, up to its evaluation (R43 steps 1 to 7). -/


variable {P : List Part} {s t v w z : State} {u : TankNo} {c : Chan} {i j : EntryId} {e f : Entry} {k : Channel} {q : Quality} {l n x : Nat}
  {hi hihi : Bool} {d : TankDecl} {b : LevelState} {a : EvalKind}

/-! ### Where the entries stand (R3, R5) -/

/-- What of an entry makes it current: its channel, its tank, and that it is not terminal. -/
def Entry.site (e : Entry) : Chan × TankNo × Bool := (e.chan, e.tank, e.state.terminal)

def State.site (s : State) (j : EntryId) : Option (Chan × TankNo × Bool) := (s.entry j).map Entry.site

theorem site_of_entry (h : t.entry = s.entry) : t.site = s.site := by funext j; rw [State.site, h]; rfl

theorem site_of_fixed (h : t.fixed = s.fixed) : t.site = s.site := by
  have hsite (w : State) (j : EntryId) : w.site j = (w.fixed j).map Entry.site := by
    unfold State.site State.fixed
    cases w.entry j <;> rfl
  funext j
  rw [hsite t, hsite s, h]

theorem site_modEntry {g : Entry → Entry} (i : EntryId) (s : State) (h : ∀ e, (g e).site = e.site) : (s.modEntry i g).site = s.site := by
  funext j
  unfold State.site
  rw [entry_modEntry]
  split
  case isTrue hij => subst hij; cases s.entry i <;> simp [h]
  case isFalse => rfl

theorem servingChan_of_site (h : t.site = s.site) : t.servingChan = s.servingChan := by
  have hlive (w : State) (c : Chan) (j : EntryId) : (match w.entry j with | some e => e.live c | none => false)
      = (w.site j).any fun p => p.1 == c && !p.2.2 := by
    unfold State.site
    cases w.entry j <;> rfl
  have hid (c : Chan) : t.currentId c = s.currentId c :=
    congrArg entryIds.find? (funext fun j => ((hlive t c j).trans (by rw [h])).trans (hlive s c j).symm)
  have htest (w : State) (c : Chan) (u : TankNo) : (match w.current c with | some (_, e) => e.tank == u | none => false)
      = ((w.currentId c).bind w.site).any fun p => p.2.1 == u := by
    unfold State.current State.site
    cases w.currentId c with
    | none => rfl
    | some j => cases he : w.entry j <;> simp [he, Entry.site]
  funext u
  unfold State.servingChan
  exact congrArg chans.find? (funext fun c => ((htest t c u).trans (by rw [hid, h])).trans (htest s c u).symm)

/-- The level state's change starts no channel that is not IDLE (R78). -/
theorem startAfterLevel_busy (b : LevelState) (hs : s.servingChan u = some c) (hc : (s.chan c).state ≠ .idle) : startAfterLevel u b s = s := by
  have hcannot : s.canStart c = false := by
    unfold State.canStart
    split
    · simp [hc]
    · rfl
  unfold startAfterLevel
  rw [hs]
  simp only
  rw [judgeStart_of_cannot hcannot, ite_self]

theorem activeChan_of_fixed (h : t.fixed = s.fixed) : t.activeChan = s.activeChan := by
  refine activeChan_of_place fun j => ?_
  have hplace (w : State) : (w.entry j).map Entry.place = (w.fixed j).map Entry.place := by
    unfold State.fixed
    cases w.entry j <;> rfl
  rw [hplace t, hplace s, h]

/-! ### The reading, before the channel's part (R43 steps 1 to 5) -/

theorem LevelState.known_of_lEff {k : Tank} (h : k.lEff = some x) : k.levelState.known = true := by
  cases hk : k.levelState.known with
  | true => rfl
  | false => rw [Tank.lEff_unknown hk] at h; cases h

theorem decl_tankAfter (s : State) (u : TankNo) (l : Nat) (q : Quality) : (s.tankAfter u l q).declared = (s.tank u).declared := by
  rw [tankAfter_eq]; exact Tank.decl_read ..

/-- The tank's figures past a reading: level state, effective level, volume and declaration are those it leaves; the assertion HI is off. -/
theorem readTaken_served (hd : (s.tank u).decl = some d) (hx : s.LeavesLevel u d l q hi x) :
    ((readTaken u l q hi hihi s).tank u).readings.levelState = (s.tankAfter u l q).levelState
      ∧ ((readTaken u l q hi hihi s).tank u).lEff = some x ∧ ((readTaken u l q hi hihi s).tank u).hi = false
      ∧ ((readTaken u l q hi hihi s).tank u).decl = some d ∧ ((readTaken u l q hi hihi s).tank u).volume = (s.tankAfter u l q).volume := by
  obtain ⟨hl, hlow, hbelow⟩ := hx
  obtain ⟨hstate, heff⟩ := readTaken_level u l q hi hihi s
  have hsame := readTaken_same u l q hi hihi s
  have hdecl : (s.tankAfter u l q).decl = some d := by
    have h := congrArg Declared.decl (decl_tankAfter s u l q)
    exact h.trans hd
  refine ⟨hstate, by rw [heff]; exact hl, ?_, by rw [hsame]; exact hdecl, by rw [hsame]; rfl⟩
  have hship : ((readTaken u l q hi hihi s).tank u).shipHi = false := by rw [hsame]; exact hlow
  have hown : ((readTaken u l q hi hihi s).tank u).ownHi = false := by
    rw [(readTaken_own hd l q hi hihi).1, hl]
    exact decide_eq_false (Nat.not_le.mpr hbelow)
  rw [Tank.hi, hship, hown]; rfl

/-! ### The channel past BLIND's judgement (R47) -/

theorem Channel.staysAt_freed (k : Channel) (rs : List HoldReason) : k.StaysAt { k with holds := k.holdsWithout rs } := by
  refine ⟨⟨rfl, fun hk => ?_⟩, rfl, .rfl, fun _ h => h⟩
  change (k.holdsWithout rs).has .settling = false
  rw [Channel.holdsWithout_eq, apply_ite (fun h : HoldSet => h.has .settling), HoldSet.has_put_of_ne (by decide), HoldSet.has_minus,
    show k.holds.has .settling = false from hk]
  simp

theorem State.Engaged.removeHold {r : HoldReason} (h : s.Engaged c i k) (hB : r ≠ .pauseB := by decide) (hS : r ≠ .pauseS := by decide) :
    (removeHold c r s).Engaged c i k := by
  unfold Machine.removeHold
  split
  · have hfreed : (removeHolds c [r] s).Engaged c i k := by
      refine h.of_same (removeHolds_writes c s (by simpa using hB.symm) (by simpa using hS.symm)).entry_eq ?_
      rw [chan_removeHolds, if_pos rfl]
      exact Channel.staysAt_freed ..
    exact hfreed.regrant false
  · exact h

/-- BLIND judged with a level known. -/
theorem judgeBlind_known (hc : s.activeChan u = some c) (hk : (s.tank u).levelState.known = true) :
    judgeBlind u s = removeHold c .blind (s.modTank u fun k => { k with blindTimer := none }) := by
  unfold judgeBlind
  simp only [hc, hk, if_true]

/-- The part at the evaluation of a reading of a served tank (R43 step 7). -/
def servedAt (u : TankNo) (l : Nat) (q : Quality) (hi hihi : Bool) (s : State) : State := judgeBlind u (readTaken u l q hi hihi s)

theorem State.Serves.engaged (h : s.Serves c u i e) : s.Engaged c i (s.chan c) where
  entry := ⟨e, (activeEntry_eq_some_iff.mp h.2.2.1).1, (activeEntry_eq_some_iff.mp h.2.2.1).2⟩
  busy := .inl h.2.2.2.2.1
  keeps := .refl _
  ends f hf hn := by
    rw [(activeEntry_live h.2.2.1).1] at hf
    cases hf
    exact absurd h.2.2.2.2.2 hn

theorem servedAt_writes (u : TankNo) (l : Nat) (q : Quality) (hi hihi : Bool) (s : State) :
    Writes [.chans, .tanks, .trip, .grants, .evals, .notices] s (servedAt u l q hi hihi s) :=
  (readTaken_writes u l q hi hihi s).then (judgeBlind_writes ..)

theorem readings_servedAt (u : TankNo) (l : Nat) (q : Quality) (hi hihi : Bool) (s : State) :
    (servedAt u l q hi hihi s).readings = (readTaken u l q hi hihi s).readings := readings_judgeBlind ..

theorem servedAt_engaged (hs : s.Serves c u i e) (hx : s.LeavesLevel u d l q hi x) : (servedAt u l q hi hihi s).Engaged c i (s.chan c) := by
  have hread := readTaken_writes u l q hi hihi s
  have hknown : ((readTaken u l q hi hihi s).tank u).levelState.known = true := by
    rw [(readTaken_level ..).1]; exact LevelState.known_of_lEff hx.1
  have htaken : (readTaken u l q hi hihi s).Engaged c i (s.chan c) := hs.engaged.of_told hread
  rw [servedAt, judgeBlind_known (by rw [activeChan_congr hread.entry_eq]; exact hs.1) hknown]
  exact (htaken.of_same (t := (readTaken u l q hi hihi s).modTank u fun k => { k with blindTimer := none }) rfl (.refl _)).removeHold

/-! ### The evaluation (R43 step 7) -/

/-- The kind of a reading's evaluation (R53, R68). -/
def State.readingKind (s : State) (u : TankNo) (e : Entry) : EvalKind := if s.settlingEnds u e then .settlingEnd else .reading

theorem evaluateReading_served (h : s.Engaged c i k) (ha : s.activeEntry c = some (i, e)) (hc : s.activeChan u = some c)
    (hk : (s.tank u).levelState.known = true) : evaluateReading u s = judgeMargin (s.readingKind u e) c i e s := by
  unfold evaluateReading
  simp only [hc, ha, hk, if_true]
  exact h.evaluate_self ha _

/-- The steps of a reading of a served tank: its margin judged, the reconciliation, and what is told (R43). -/
theorem acceptReading_served (hs : s.Serves c u i e) (hd : (s.tank u).decl = some d) (hh : s.HihiStays u d l q hihi)
    (hx : s.LeavesLevel u d l q hi x) : acceptReading u l q hi hihi s = startAfterLevel u (s.tank u).levelState (readTold u (s.tank u) l q
      (reconcile u (judgeMargin ((servedAt u l q hi hihi s).readingKind u e) c i e (servedAt u l q hi hihi s)))) := by
  have hw := servedAt_writes u l q hi hihi s
  have hlevel : ((servedAt u l q hi hihi s).tank u).levelState = (s.tankAfter u l q).levelState := by
    have hread := congrFun (readings_servedAt u l q hi hihi s) u
    exact (Tank.level_of_readings hread).1.trans (readTaken_level ..).1
  have heval := evaluateReading_served (servedAt_engaged (hihi := hihi) hs hx) (by rw [activeEntry_congr hw.entry_eq]; exact hs.2.2.1)
    (by rw [activeChan_congr hw.entry_eq]; exact hs.1) (by rw [hlevel]; exact LevelState.known_of_lEff hx.1)
  rw [acceptReading_eq, judgeHihi_stays hd hh, judgeHi_none (readTaken_served hd hx).2.2.1]
  exact congrArg _ (congrArg _ (congrArg _ heval))

/-! PROOF. The reconciliation of a STEADY reading (R122 to R126). -/


variable {P : List Part} {s t v w y z : State} {u : TankNo} {c : Chan} {i j : EntryId} {e f : Entry} {k : Channel} {q : Quality} {l n x : Nat}
  {hi hihi : Bool} {d : TankDecl} {body : List Byte}

/-! ### The part as the reconciliation finds it (R43 step 8) -/

/-- The part once the margin of a reading of a served tank is judged. -/
def judgedAt (u : TankNo) (l : Nat) (q : Quality) (hi hihi : Bool) (c : Chan) (i : EntryId) (e : Entry) (s : State) : State :=
  judgeMargin ((servedAt u l q hi hihi s).readingKind u e) c i e (servedAt u l q hi hihi s)

theorem readings_judgedAt (u : TankNo) (l : Nat) (q : Quality) (hi hihi : Bool) (c : Chan) (i : EntryId) (e : Entry) (s : State) :
    (judgedAt u l q hi hihi c i e s).readings = (readTaken u l q hi hihi s).readings :=
  (judgeMargin_moves ..).readings.trans (readings_servedAt ..)

theorem fixed_judgedAt (u : TankNo) (l : Nat) (q : Quality) (hi hihi : Bool) (c : Chan) (i : EntryId) (e : Entry) (s : State) :
    (judgedAt u l q hi hihi c i e s).fixed = s.fixed := (judgeMargin_fixed ..).trans (servedAt_writes ..).fixed_eq

theorem judgedAt_engaged (hs : s.Serves c u i e) (hx : s.LeavesLevel u d l q hi x) : (judgedAt u l q hi hihi c i e s).Engaged c i (s.chan c) :=
  (servedAt_engaged hs hx).judgeMargin _ e

theorem judgedAt_writes (hs : s.Serves c u i e) : Writes judgeParts s (judgedAt u l q hi hihi c i e s) := by
  have hw := servedAt_writes u l q hi hihi s
  have hlive : (servedAt u l q hi hihi s).Live i := by
    have he := (activeEntry_live hs.2.2.1).1
    refine State.Live.of_entry (by rw [hw.entry_eq]; exact he) ?_
    rw [(activeEntry_live hs.2.2.1).2.2]; rfl
  exact hw.then (judgeMargin_writes hlive) (R := judgeParts)

/-- What the reconciliation finds: the entry ACTIVE as it was but for its margin's figures, the level and volume as read. -/
theorem judgedAt_found (hs : s.Serves c u i e) (hd : (s.tank u).decl = some d) (hx : s.LeavesLevel u d l q hi x)
    (hv : (s.tankAfter u l q).volume x = some n) : (∃ f, (judgedAt u l q hi hihi c i e s).activeEntry c = some (i, f) ∧ f.fixed = e.fixed)
      ∧ (judgedAt u l q hi hihi c i e s).activeChan u = some c ∧ (judgedAt u l q hi hihi c i e s).servingChan u = some c
      ∧ ((judgedAt u l q hi hihi c i e s).tank u).nowVolume = some n
      ∧ ((judgedAt u l q hi hihi c i e s).tank u).levelState = (s.tankAfter u l q).levelState := by
  have hfixed := fixed_judgedAt u l q hi hihi c i e s
  have hread := congrFun (readings_judgedAt u l q hi hihi c i e s) u
  obtain ⟨hstate, heff, -⟩ := Tank.level_of_readings hread
  obtain ⟨htaken, hlevel, -, -, hvol⟩ := readTaken_served (hihi := hihi) hd hx
  obtain ⟨f, hf, hfe⟩ := current_of_fixed hfixed (activeEntry_eq_some_iff.mp hs.2.2.1).1
  refine ⟨⟨f, activeEntry_eq_some_iff.mpr ⟨hf, ?_⟩, hfe⟩, ?_, ?_, ?_, hstate.trans htaken⟩
  · exact (Entry.state_of_fixed hfe).trans (activeEntry_eq_some_iff.mp hs.2.2.1).2
  · rw [activeChan_of_fixed hfixed]; exact hs.1
  · rw [servingChan_of_site (site_of_fixed hfixed)]; exact hs.2.1
  · have hvolume : ((judgedAt u l q hi hihi c i e s).tank u).volume = ((readTaken u l q hi hihi s).tank u).volume := by
      have h : ((judgedAt u l q hi hihi c i e s).tank u).readings.volume = ((readTaken u l q hi hihi s).tank u).readings.volume :=
        congrArg Tank.volume hread
      exact h
    rw [Tank.nowVolume, heff, hlevel, Option.bind_some, hvolume, hvol, hv]

/-! ### The reconciliation by the start's quality (R123, R124) -/

theorem reconcile_rebases (hc : z.activeChan u = some c) (ha : z.activeEntry c = some (i, f)) (hv : (z.tank u).nowVolume = some n)
    (hst : (z.tank u).levelState = .steady) (hq : f.startQuality = some .conservative) :
    reconcile u z = setUnmetered c u false ((judgeAbove u z).modEntry i fun e => e.rebase (z.chan c).meter.total n) := by
  unfold reconcile
  simp only [hc, ha, hv, hst, hq, if_true]

theorem reconcile_compares (hc : z.activeChan u = some c) (ha : z.activeEntry c = some (i, f)) (hv : (z.tank u).nowVolume = some n)
    (hst : (z.tank u).levelState = .steady) (hq : f.startQuality = some .steady) :
    reconcile u z = compareVolumes c i f n (judgeAbove u z) := by
  unfold reconcile
  simp only [hc, ha, hv, hst, hq, if_true]

theorem reconcile_unsteady (hst : (z.tank u).levelState ≠ .steady) : reconcile u z = z := by
  unfold reconcile
  split
  · split
    · rw [if_neg hst]
    · rfl
  · rfl

/-- The entry and UNMETERED_GAIN written by a reconciliation that stops nothing: the channel goes on (R123, R126). -/
theorem State.Engaged.reconciled (h : z.Engaged c i k) {g : Entry → Entry}
    (hg : ∀ e, (g e).chan = e.chan ∧ (g e).state = e.state ∧ (g e).endPending = e.endPending) (b : Bool) :
    (setUnmetered c u b ((judgeAbove u z).modEntry i g)).Engaged c i ((setUnmetered c u b ((judgeAbove u z).modEntry i g)).chan c)
      ∧ ((setUnmetered c u b ((judgeAbove u z).modEntry i g)).chan c).meter.unmeteredGain = b := by
  have hwritten := (h.of_told (judgeAbove_writes u z)).modEntry hg
  have hchan : (setUnmetered c u b ((judgeAbove u z).modEntry i g)).chan c
      = { ((judgeAbove u z).modEntry i g).chan c with meter := { (((judgeAbove u z).modEntry i g).chan c).meter with unmeteredGain := b } } := by
    rw [chan_setUnmetered, if_pos rfl]
  have hentry := (setUnmetered_writes c u b ((judgeAbove u z).modEntry i g)).entry_eq
  refine ⟨⟨⟨?_, ?_, .refl _⟩, fun f hf hn => ?_⟩, by rw [hchan]⟩
  · rw [current_congr hentry]; exact hwritten.entry
  · rw [hchan]; exact hwritten.busy
  · rw [hentry] at hf
    rw [hchan]; exact hwritten.ends f hf hn

/-! ### The end of the command -/

theorem Serves_refreshLink (h : s.Serves c u i e) : (refreshLink .ship s).Serves c u i e := by rw [refreshLink_eq_withPorts]; exact h

theorem LeavesLevel_refreshLink (h : s.LeavesLevel u d l q hi x) : (refreshLink .ship s).LeavesLevel u d l q hi x := by
  unfold State.LeavesLevel at *
  rw [tankAfter_refreshLink]; exact h

/-- The part as a LEVEL of a served tank leaves it, by the part `y` that its reconciliation leaves: the notices, the reply, and the
evaluations handed on. -/
theorem levelEnd_served (h : s.TakesLevel body u d l q hi hihi) (hx : s.LeavesLevel u d l q hi x) (hs : s.Serves c u i e)
    (hy : reconcile u (judgedAt u l q hi hihi c i e (refreshLink .ship s)) = y) (hserve : y.servingChan u = some c)
    (hbusy : (y.chan c).state ≠ .idle) : ∃ p p' : Port, levelEnd body u l q hi hihi s = effect (fun _ => y.withPorts p p') s := by
  obtain ⟨-, -, hd, hh⟩ := h
  have hd' := decl_refreshLink hd
  have haccept := acceptReading_served (Serves_refreshLink hs) hd' (HihiStays_refreshLink hh) (LeavesLevel_refreshLink hx)
  have htold := readTold_writes u ((refreshLink .ship s).tank u) l q y
  have hstart := startAfterLevel_busy (s := readTold u ((refreshLink .ship s).tank u) l q y) ((refreshLink .ship s).tank u).levelState
    (by rw [servingChan_congr htold.entry_eq]; exact hserve) (by rw [htold.chan_eq]; exact hbusy)
  have hhandle := handle_level (q := q) (l := l) (hi := hi) (hihi := hihi) (p := .ship) hd'
  rw [show judgeMargin ((servedAt u l q hi hihi (refreshLink .ship s)).readingKind u e) c i e (servedAt u l q hi hihi (refreshLink .ship s))
    = judgedAt u l q hi hihi c i e (refreshLink .ship s) from rfl, hy, hstart] at haccept
  have hports := htold.only_ports
  rw [levelEnd, requestEnd, hhandle]
  dsimp only
  rw [haccept, pushReply_eq_withPorts, hports]
  exact ⟨_, _, rfl⟩

/-! PROOF. A STEADY reading rebases or compares, and a second strike stops its channel (R122 to R126). -/


variable {P : List Part} {s t v w y z : State} {u : TankNo} {c : Chan} {i j : EntryId} {e f : Entry} {k : Channel} {q : Quality} {l n x : Nat}
  {hi hihi : Bool} {d : TankDecl} {body : List Byte} {b : Bool}

/-- What a state a LEVEL is judged in shares with the part, its port's own traces apart. -/
theorem refreshLink_plant (s : State) : (refreshLink .ship s).entry = s.entry ∧ (refreshLink .ship s).chan = s.chan
    ∧ (refreshLink .ship s).now = s.now ∧ (refreshLink .ship s).config = s.config ∧ (refreshLink .ship s).evals = s.evals
    ∧ (refreshLink .ship s).trip = s.trip ∧ (refreshLink .ship s).queue = s.queue := by
  rw [refreshLink_eq_withPorts]
  exact ⟨rfl, rfl, rfl, rfl, rfl, rfl, rfl⟩

/-! ### A reconciliation that stops nothing -/

/-- A write of a reconciliation: the entry stays where it is, with its end. -/
def KeepsPlace (g : Entry → Entry) : Prop :=
  ∀ e, (g e).chan = e.chan ∧ (g e).tank = e.tank ∧ (g e).state = e.state ∧ (g e).endPending = e.endPending

/-- The part as such a reconciliation leaves it. -/
def reconciledAt (u : TankNo) (c : Chan) (i : EntryId) (g : Entry → Entry) (b : Bool) (z : State) : State :=
  setUnmetered c u b ((judgeAbove u z).modEntry i g)

theorem entry_reconciledAt (u : TankNo) (c : Chan) (i : EntryId) (g : Entry → Entry) (b : Bool) (z : State) (j : EntryId) :
    (reconciledAt u c i g b z).entry j = if i = j then (z.entry j).map g else z.entry j := by
  have habove : (judgeAbove u z).entry = z.entry := (judgeAbove_writes u z).entry_eq
  rw [reconciledAt, (setUnmetered_writes ..).entry_eq, entry_modEntry, habove]
  split
  case isTrue h => subst h; rfl
  case isFalse => rfl

theorem site_reconciledAt {g : Entry → Entry} (hg : KeepsPlace g) (z : State) : (reconciledAt u c i g b z).site = z.site := by
  rw [reconciledAt, site_of_entry (setUnmetered_writes ..).entry_eq, site_modEntry, site_of_entry (judgeAbove_writes u z).entry_eq]
  intro e
  obtain ⟨h1, h2, h3, -⟩ := hg e
  unfold Entry.site
  rw [h1, h2, h3]

theorem reconciledAt_engaged {g : Entry → Entry} (hg : KeepsPlace g) (h : z.Engaged c i k) :
    (reconciledAt u c i g b z).Engaged c i ((reconciledAt u c i g b z).chan c) ∧ ((reconciledAt u c i g b z).chan c).meter.unmeteredGain = b :=
  h.reconciled (fun e => ⟨(hg e).1, (hg e).2.2.1, (hg e).2.2.2⟩) b

theorem State.Engaged.busyState (h : s.Engaged c i k) : (s.chan c).state ≠ .idle := by
  intro hi
  rcases h.busy with hw | ⟨hw, -⟩
  · rw [Channel.watched, hi] at hw; cases hw
  · rw [hi] at hw; cases hw

theorem lastStop_reconciledAt (g : Entry → Entry) (z : State) (d : Chan) : ((reconciledAt u c i g b z).chan d).lastStop = (z.chan d).lastStop := by
  have hset : (((judgeAbove u z).modEntry i g).chan d).lastStop = (z.chan d).lastStop := (judgeAbove_writes u z).lastStop_eq (by decide) d
  exact ((setUnmetered_writes ..).lastStop_eq (by decide) d).trans hset

/-- The channel goes on: its entry is the one written, through the evaluations, with UNMETERED_GAIN as judged and no stop. -/
theorem level_goesOn (h : s.TakesLevel body u d l q hi hihi) (hx : s.LeavesLevel u d l q hi x) (hs : s.Serves c u i e) {g : Entry → Entry}
    (hg : KeepsPlace g) (hv : (s.tankAfter u l q).volume x = some n) (hf : (judgedAt u l q hi hihi c i e (refreshLink .ship s)).entry i = some f)
    (hy : reconcile u (judgedAt u l q hi hihi c i e (refreshLink .ship s))
      = reconciledAt u c i g b (judgedAt u l q hi hihi c i e (refreshLink .ship s))) :
    (∃ f', (levelEnd body u l q hi hihi s).entry i = some f' ∧ f'.course = (g f).course)
      ∧ ((levelEnd body u l q hi hihi s).chan c).meter.unmeteredGain = b
      ∧ ((levelEnd body u l q hi hihi s).chan c).lastStop = (s.chan c).lastStop := by
  have hs' := Serves_refreshLink hs
  have hx' := LeavesLevel_refreshLink hx
  have hv' : ((refreshLink .ship s).tankAfter u l q).volume x = some n := by rw [tankAfter_refreshLink]; exact hv
  obtain ⟨-, -, hserve, -, -⟩ := judgedAt_found (hihi := hihi) hs' (decl_refreshLink h.2.2.1) hx' hv'
  have hengaged := judgedAt_engaged (hihi := hihi) hs' hx'
  have hstops : ((judgedAt u l q hi hihi c i e (refreshLink .ship s)).chan c).lastStop = (s.chan c).lastStop := by
    rw [(judgedAt_writes hs').lastStop_eq, (refreshLink_plant s).2.1]
  obtain ⟨hgoes, hgain⟩ := reconciledAt_engaged (u := u) (b := b) hg hengaged
  obtain ⟨p, p', ht⟩ := levelEnd_served h hx hs hy (by rw [servingChan_of_site (site_reconciledAt hg _)]; exact hserve) hgoes.busyState
  have hentry := entry_reconciledAt u c i g b (judgedAt u l q hi hihi c i e (refreshLink .ship s)) i
  rw [if_pos rfl, hf] at hentry
  have hlast := lastStop_reconciledAt (u := u) (c := c) (i := i) (b := b) g (judgedAt u l q hi hihi c i e (refreshLink .ship s)) c
  rw [hstops] at hlast
  rw [ht]
  generalize reconciledAt u c i g b (judgedAt u l q hi hihi c i e (refreshLink .ship s)) = y at hgoes hgain hentry hlast ⊢
  have hports : (y.withPorts p p').Engaged c i (y.chan c) := hgoes.of_same rfl (.refl _)
  have hend := State.Engaged.effect (g := fun _ => y.withPorts p p') (s := s) hports
  refine ⟨?_, hend.keeps.gain.trans hgain, ?_⟩
  · exact entry_of_course (effect_course (fun _ => y.withPorts p p') s) hentry
  · have hraw := (runEvals_writes evalBudget (y.withPorts p p')).raw
    exact (hraw.lastStop_eq (by decide) c).trans hlast

/-! ### A reconciliation that stops its channel (R126) -/

theorem level_stops (h : s.TakesLevel body u d l q hi hihi) (hx : s.LeavesLevel u d l q hi x) (hs : s.Serves c u i e) {g : Entry → Entry}
    (hg : KeepsPlace g) (hv : (s.tankAfter u l q).volume x = some n) (hf : (judgedAt u l q hi hihi c i e (refreshLink .ship s)).entry i = some f)
    (hy : reconcile u (judgedAt u l q hi hihi c i e (refreshLink .ship s))
      = channelStop .misroute .watch (some u) c (reconciledAt u c i g false (judgedAt u l q hi hihi c i e (refreshLink .ship s)))) :
    (levelEnd body u l q hi hihi s).entry i = some (g f).returned
      ∧ StopTaken .misroute .watch (some u) c s (levelEnd body u l q hi hihi s)
      ∧ ((levelEnd body u l q hi hihi s).chan c).meter.unmeteredGain = false := by
  have hs' := Serves_refreshLink hs
  have hx' := LeavesLevel_refreshLink hx
  have hv' : ((refreshLink .ship s).tankAfter u l q).volume x = some n := by rw [tankAfter_refreshLink]; exact hv
  obtain ⟨⟨f', hf', hfe⟩, -, hserve, -, -⟩ := judgedAt_found (hihi := hihi) hs' (decl_refreshLink h.2.2.1) hx' hv'
  have hengaged := judgedAt_engaged (hihi := hihi) hs' hx'
  have hwrites := judgedAt_writes (l := l) (q := q) (hi := hi) (hihi := hihi) hs'
  obtain ⟨-, hchan, hnow, -, -, htrip, hqueue⟩ := refreshLink_plant s
  obtain ⟨hgoes, hgain⟩ := reconciledAt_engaged (u := u) (b := false) hg hengaged
  have hentry := entry_reconciledAt u c i g false (judgedAt u l q hi hihi c i e (refreshLink .ship s)) i
  rw [if_pos rfl, hf] at hentry
  have hsite := site_reconciledAt (u := u) (c := c) (i := i) (b := false) hg (judgedAt u l q hi hihi c i e (refreshLink .ship s))
  have hmore : Writes [.tanks, .chans, .trip, .notices] ((judgeAbove u (judgedAt u l q hi hihi c i e (refreshLink .ship s))).modEntry i g)
      (reconciledAt u c i g false (judgedAt u l q hi hihi c i e (refreshLink .ship s))) := (setUnmetered_writes ..).mono
  have habove : Writes [.tanks, .notices] (judgedAt u l q hi hihi c i e (refreshLink .ship s))
    (judgeAbove u (judgedAt u l q hi hihi c i e (refreshLink .ship s))) := judgeAbove_writes ..
  have hsame : (reconciledAt u c i g false (judgedAt u l q hi hihi c i e (refreshLink .ship s))).now = s.now
      ∧ (reconciledAt u c i g false (judgedAt u l q hi hihi c i e (refreshLink .ship s))).queue = s.queue
      ∧ (reconciledAt u c i g false (judgedAt u l q hi hihi c i e (refreshLink .ship s))).trip.state = s.trip.state
      ∧ ∀ d, ((reconciledAt u c i g false (judgedAt u l q hi hihi c i e (refreshLink .ship s))).chan d).lastStop = (s.chan d).lastStop := by
    refine ⟨?_, ?_, ?_, fun d => ?_⟩
    · rw [hmore.now_eq]; exact habove.now_eq.trans (hwrites.now_eq.trans hnow)
    · rw [hmore.queue_eq]; exact habove.queue_eq.trans (hwrites.queue_eq.trans hqueue)
    · rw [hmore.trip_step.state]
      exact (congrArg Trip.state habove.trip_eq).trans (hwrites.trip_step.state.trans (congrArg Trip.state htrip))
    · rw [lastStop_reconciledAt, hwrites.lastStop_eq, hchan]
  have hserve' : (reconciledAt u c i g false (judgedAt u l q hi hihi c i e (refreshLink .ship s))).servingChan u = some c := by
    rw [servingChan_of_site hsite]; exact hserve
  have hend := levelEnd_served (y := channelStop .misroute .watch (some u) c
    (reconciledAt u c i g false (judgedAt u l q hi hihi c i e (refreshLink .ship s)))) h hx hs hy
  generalize reconciledAt u c i g false (judgedAt u l q hi hihi c i e (refreshLink .ship s)) = y at hgoes hgain hentry hsame hserve' hend
  obtain ⟨hnow, hqueue, htrip, hlast⟩ := hsame
  obtain ⟨f1, hf1, hact⟩ := hgoes.entry
  have hf1' := (current_live hf1).1
  rw [hentry] at hf1'
  cases hf1'
  have hactive : y.activeEntry c = some (i, g f) := activeEntry_eq_some_iff.mpr ⟨hf1, hact⟩
  have hstop := channelStop_taken (cause := .misroute) (o := .watch) (y := some u) (by decide)
    (hgoes.busy.imp_right fun ⟨h1, h2⟩ => ⟨h1, h2, by decide⟩)
  have hentries := entry_channelStop (cause := .misroute) (o := .watch) (y := some u) (by decide) hactive
  obtain ⟨htaken, hgrant, hgain', hstate, -⟩ := hstop
  have hsite : (channelStop .misroute .watch (some u) c y).site = y.site := by
    funext j
    unfold State.site
    rw [hentries]
    split
    case isTrue hj =>
      subst hj
      rw [hentry, Option.map_some, Option.map_some]
      exact congrArg some (by unfold Entry.site; rw [hact]; rfl)
    case isFalse => rfl
  obtain ⟨p, p', ht⟩ := hend (by rw [servingChan_of_site hsite]; exact hserve') (by rw [hstate]; decide)
  have hself := hentries i
  rw [if_pos rfl] at hself
  have hgain'' := hgain' hgain
  rw [ht]
  generalize channelStop .misroute .watch (some u) c y = b at htaken hgrant hgain'' hself
  have htaken' : StopTaken .misroute .watch (some u) c s (b.withPorts p p') := by
    obtain ⟨h1, h2, h3, h4, h5, h6, h7, h8⟩ := htaken
    refine ⟨by rw [← hnow]; exact h1, h2, h3, h4, by rw [← hqueue]; exact h5, fun d hd => (h6 d hd).trans (hlast d), h7.trans htrip,
      fun hn => h8 (htrip.trans hn)⟩
  obtain ⟨hend, hsamechan, hown⟩ := StopTaken.effect (g := fun _ => b.withPorts p p') (s := s) htaken' hgrant
  exact ⟨entry_of_own hown hself (by rw [← (current_live hf1).2.1]; rfl), hend, by rw [hsamechan]; exact hgain''⟩

/-! PROOF. The reconciliation's figures, and O45. -/


variable {s z : State} {u : TankNo} {c : Chan} {i : EntryId} {e f : Entry} {q : Quality} {l n x p v : Nat} {hi hihi : Bool} {d : TankDecl}
  {body : List Byte} {b : Baseline} {r : ReconRecord}

/-- The figures of a comparison (R124). -/
def reconFigures (now total floor vNow p v : Nat) (b : Baseline) (r : ReconRecord) (e : Entry) : ReconFigures :=
  let dVm := (total - p) * 100 / b.kFactor
  let dVl : Int := (vNow : Int) - v
  let credit := if r.origin = .activation then e.credit else 0
  let diff : Int := (dVm : Int) - dVl - credit
  let tol := max floor ((dVm + 19) / 20)
  { evaluatedAt := now, dVm := dVm, dVl := dVl, credit := credit, e := diff, tol := tol
    result := if (tol : Int) < diff then .excess else if diff < -(tol : Int) then .gain else .within }

theorem compare_of_fixed (h : f.fixed = e.fixed) (now total vNow floor : Nat) : f.compare now total vNow floor = e.compare now total vNow floor := by
  have hfixed (x : Entry) : x.fixed.compare now total vNow floor = x.compare now total vNow floor := rfl
  rw [← hfixed f, h, hfixed]

theorem compare_figures (hb : e.baseline = some b) (hp : e.meterBaseline = some p) (hv : e.startVolume = some v) (hr : e.recon = some r)
    (now total vNow floor : Nat) : e.compare now total vNow floor = reconFigures now total floor vNow p v b r e := by
  have hmetered : e.metered total = (total - p) * 100 / b.kFactor := by
    unfold Entry.metered
    rw [hp, hb]; rfl
  have horigin : e.origin = r.origin := by unfold Entry.origin; rw [hr]
  unfold Entry.compare reconFigures
  rw [hmetered, horigin, hv]
  rfl

/-- What of an entry a reconciliation leaves as evaluations and ends leave it. -/
theorem recon_of_course (h : f.course = e.course) : f.startVolume = e.startVolume ∧ f.startQuality = e.startQuality
    ∧ f.meterBaseline = e.meterBaseline ∧ f.strikes = e.strikes ∧ f.recon = e.recon ∧ f.credit = e.credit ∧ f.baseline = e.baseline := by
  have h1 := congrArg Entry.startVolume h
  have h2 := congrArg Entry.startQuality h
  have h3 := congrArg Entry.meterBaseline h
  have h4 := congrArg Entry.strikes h
  have h5 := congrArg Entry.recon h
  have h6 := congrArg Entry.credit h
  have h7 := congrArg Entry.baseline h
  exact ⟨h1, h2, h3, h4, h5, h6, h7⟩

theorem recon_of_fixed (h : f.fixed = e.fixed) : f.startVolume = e.startVolume ∧ f.startQuality = e.startQuality
    ∧ f.meterBaseline = e.meterBaseline ∧ f.strikes = e.strikes ∧ f.recon = e.recon ∧ f.credit = e.credit ∧ f.baseline = e.baseline := by
  have hcourse : f.fixed.course = e.fixed.course := congrArg Entry.course h
  exact recon_of_course hcourse

/-- What a reading that leaves the served tank STEADY finds at its reconciliation. -/
theorem judgedAt_steady (h : s.TakesLevel body u d l q hi hihi) (hx : s.LeavesLevel u d l q hi x) (hs : s.Serves c u i e)
    (hst : (s.tankAfter u l q).levelState = .steady) (hv : (s.tankAfter u l q).volume x = some n) :
    ∃ f, (judgedAt u l q hi hihi c i e (refreshLink .ship s)).entry i = some f ∧ f.fixed = e.fixed
      ∧ (f.startQuality = some .conservative → reconcile u (judgedAt u l q hi hihi c i e (refreshLink .ship s))
          = reconciledAt u c i (fun e => e.rebase (s.chan c).meter.total n) false (judgedAt u l q hi hihi c i e (refreshLink .ship s)))
      ∧ (f.startQuality = some .steady → reconcile u (judgedAt u l q hi hihi c i e (refreshLink .ship s))
          = (let x := e.compare s.now (s.chan c).meter.total n s.config.device.reconFloor
             let y := reconciledAt u c i (fun g => { g with recon := some { origin := g.origin, figures := some x }, strikes := strikesAfter e.strikes x.result })
               (decide (x.result = .gain)) (judgedAt u l q hi hihi c i e (refreshLink .ship s))
             if x.result = .excess ∧ strikesAfter e.strikes x.result = 2 then channelStop .misroute .watch (some u) c y else y)) := by
  have hs' := Serves_refreshLink hs
  have hv' : ((refreshLink .ship s).tankAfter u l q).volume x = some n := by rw [tankAfter_refreshLink]; exact hv
  obtain ⟨⟨f, hf, hfe⟩, hchan, -, hvol, hlevel⟩ := judgedAt_found (hihi := hihi) hs' (decl_refreshLink h.2.2.1) (LeavesLevel_refreshLink hx) hv'
  rw [tankAfter_refreshLink, hst] at hlevel
  have hw := judgedAt_writes (l := l) (q := q) (hi := hi) (hihi := hihi) hs'
  obtain ⟨-, hplant, hnow, hconf, -⟩ := refreshLink_plant s
  have htotal : ((judgedAt u l q hi hihi c i e (refreshLink .ship s)).chan c).meter.total = (s.chan c).meter.total := by
    have ht := congrFun hw.total_eq c
    exact ht.trans (by rw [State.total, hplant])
  have hnow' := hw.now_eq.trans hnow
  have hconf' := hw.config_eq.trans hconf
  generalize judgedAt u l q hi hihi c i e (refreshLink .ship s) = z at *
  refine ⟨f, (activeEntry_live hf).1, hfe, fun hq => ?_, fun hq => ?_⟩
  · rw [reconcile_rebases hchan hf hvol hlevel hq, htotal]
    rfl
  · have habove := judgeAbove_writes u z
    have htank : f.tank = u := (congrArg Entry.tank hfe).trans hs.2.2.2.1
    have hstrikes := (recon_of_fixed hfe).2.2.2.1
    have hx := compare_of_fixed hfe s.now (s.chan c).meter.total n s.config.device.reconFloor
    rw [reconcile_compares hchan hf hvol hlevel hq]
    unfold compareVolumes
    simp only
    rw [habove.now_eq, habove.chan_eq, habove.config_eq, hnow', htotal, hconf', hx, hstrikes, htank]
    rfl

theorem keepsPlace_rebase (m n : Nat) : KeepsPlace fun e => e.rebase m n := fun _ => ⟨rfl, rfl, rfl, rfl⟩

theorem keepsPlace_compare (y : ReconFigures) (m : Nat) :
    KeepsPlace fun g => { g with recon := some { origin := g.origin, figures := some y }, strikes := m } := fun _ => ⟨rfl, rfl, rfl, rfl⟩

theorem strikesAfter_excess (m : Nat) : (m = 0 → strikesAfter m .excess = 1) ∧ (1 ≤ m → strikesAfter m .excess = 2) := by
  unfold strikesAfter
  simp only
  omega

/-- A comparison's outcome (R124 to R126): the record, the strikes, UNMETERED_GAIN, and MISROUTE at the second EXCESS. -/
theorem level_compares (h : s.TakesLevel body u d l q hi hihi) (hx : s.LeavesLevel u d l q hi x) (hs : s.Serves c u i e)
    (hst : (s.tankAfter u l q).levelState = .steady) (hvn : (s.tankAfter u l q).volume x = some n) (hq : e.startQuality = some .steady)
    (hr : e.recon = some r) {y : ReconFigures} (hy : e.compare s.now (s.chan c).meter.total n s.config.device.reconFloor = y) :
    ∃ f, (levelEnd body u l q hi hihi s).entry i = some f ∧ f.recon = some { origin := r.origin, figures := some y }
      ∧ f.startVolume = e.startVolume ∧ f.meterBaseline = e.meterBaseline
      ∧ (y.result ≠ .excess → f.strikes = 0 ∧ ((levelEnd body u l q hi hihi s).chan c).lastStop = (s.chan c).lastStop
          ∧ ((levelEnd body u l q hi hihi s).chan c).meter.unmeteredGain = decide (y.result = .gain))
      ∧ (y.result = .excess → e.strikes = 0 → f.strikes = 1 ∧ ((levelEnd body u l q hi hihi s).chan c).lastStop = (s.chan c).lastStop
          ∧ ((levelEnd body u l q hi hihi s).chan c).meter.unmeteredGain = false)
      ∧ (y.result = .excess → 1 ≤ e.strikes → f.strikes = 2 ∧ f.state = .await
          ∧ StopTaken .misroute .watch (some u) c s (levelEnd body u l q hi hihi s)
          ∧ ((levelEnd body u l q hi hihi s).chan c).meter.unmeteredGain = false) := by
  obtain ⟨f, hf, hfe, -, hcompare⟩ := judgedAt_steady h hx hs hst hvn
  obtain ⟨f1, f2, f3, f4, f5, f6, f7⟩ := recon_of_fixed hfe
  have hrec := hcompare (f2.trans hq)
  have horigin : f.origin = r.origin := by unfold Entry.origin; rw [f5, hr]
  rw [hy] at hrec
  simp only at hrec
  have hplace := keepsPlace_compare y (strikesAfter e.strikes y.result)
  split at hrec
  case isTrue hsecond =>
    obtain ⟨hresult, htwo⟩ := hsecond
    have hgain : decide (y.result = .gain) = false := by rw [hresult]; rfl
    rw [hgain] at hrec
    obtain ⟨hf', htaken, hoff⟩ := level_stops h hx hs hplace hvn hf hrec
    refine ⟨_, hf', ?_, f1, f3, fun hno => absurd hresult hno, fun _ hz => ?_, fun _ _ => ⟨htwo, rfl, htaken, hoff⟩⟩
    · rw [← horigin]; rfl
    · rw [hresult, (strikesAfter_excess e.strikes).1 hz] at htwo; cases htwo
  case isFalse hsecond =>
    obtain ⟨⟨f', hf', hcourse⟩, hgain, hstop⟩ := level_goesOn h hx hs hplace hvn hf hrec
    obtain ⟨h1, h2, h3, h4, h5, h6, h7⟩ := recon_of_course hcourse
    refine ⟨f', hf', by rw [← horigin]; exact h5, h1.trans f1, h3.trans f3, fun hno => ⟨h4.trans ?_, hstop, hgain⟩,
      fun hresult hz => ⟨h4.trans ?_, hstop, ?_⟩, fun hresult hz => ?_⟩
    · show strikesAfter e.strikes y.result = 0
      cases hres : y.result with
      | excess => exact absurd hres hno
      | within | gain => rfl
    · show strikesAfter e.strikes y.result = 1
      rw [hresult]; exact (strikesAfter_excess e.strikes).1 hz
    · rw [hgain, hresult]; rfl
    · exact absurd ⟨hresult, by rw [hresult]; exact (strikesAfter_excess e.strikes).2 hz⟩ hsecond

/-- Settles O45: a rebase by `level_goesOn`, a comparison by `level_compares`. -/
theorem steadyReadingReconcilesOrRebases : Obligations.SteadyReadingReconcilesOrRebases := by
  intro body u d l q hi hihi c i e x n s h hx hs hst hv
  obtain ⟨hexec, hans⟩ := level_answered h
  refine ⟨fun hq => ?_, fun b p v r hq hb hp hvol hr => ?_⟩
  · obtain ⟨f, hf, hfe, hrebase, -⟩ := judgedAt_steady h hx hs hst hv
    obtain ⟨-, f2, -, -, -, f6, f7⟩ := recon_of_fixed hfe
    obtain ⟨⟨f', hf', hcourse⟩, hgain, hstop⟩ := level_goesOn h hx hs (keepsPlace_rebase _ _) hv hf (hrebase (f2.trans hq))
    obtain ⟨h1, h2, h3, h4, h5, h6, h7⟩ := recon_of_course hcourse
    exact ⟨_, f', hexec, hans, hf', h1, h2, h3, h4, h5, h6.trans f6, h7.trans f7, hgain, hstop⟩
  · have hfig := compare_figures hb hp hvol hr s.now (s.chan c).meter.total n s.config.device.reconFloor
    obtain ⟨f, hf, hall⟩ := level_compares h hx hs hst hv hq hr hfig
    exact ⟨_, f, hexec, hans, hf, hall⟩

/-! SUPPORT. The figures of a reading's evaluation (R54 to R62). -/


variable {P : List Part} {s t v w z : State} {u : TankNo} {c : Chan} {i j : EntryId} {e f : Entry} {k : Tank} {q : Quality} {l n m x vNow vHi : Nat}
  {hi hihi : Bool} {d : TankDecl} {a : EvalKind}

/-! ### The level half (R54, R57, R58, R62) -/

/-- The figures of a level half for a tank declared `d`, at level state `g`, effective level `x` and volumes `vNow` and `vHi`. -/
def halfOf (g : LevelState) (d : TankDecl) (x vNow vHi rate aClose drain : Nat) : LevelHalf :=
  { levelState := g, lEff := x, vNow := vNow, vHi := vHi, m := levelMargin vHi vNow aClose drain
    t := timeToHigh (levelMargin vHi vNow aClose drain) rate
    computed := computedStage (levelMargin vHi vNow aClose drain) d.toppingVolume d.slugVolume }

theorem levelHalf_eq (hd : k.decl = some d) (hx : k.lEff = some x) (hn : k.volume x = some vNow) (hv : k.volume d.hHi = some vHi)
    (rate aClose drain : Nat) : k.levelHalf rate aClose drain = some (halfOf k.levelState d x vNow vHi rate aClose drain) := by
  unfold Tank.levelHalf
  simp only [hd, hx, hn, hv]
  rfl

/-- HIGH_SOON by the margin (R58, R59). -/
theorem soon_timeToHigh (m : Int) (rate : Nat) : (timeToHigh m rate).soon = decide (m ≤ 0 ∨ (rate ≠ 0 ∧ m.toNat * 60 / rate ≤ 120)) := by
  unfold timeToHigh
  split
  case isTrue h => simp [TimeToHigh.soon, h]
  case isFalse h =>
    split
    case isTrue hz => simp [TimeToHigh.soon, h, hz]
    case isFalse hz => simp [TimeToHigh.soon, h, hz]

/-- The greater the rate, the lower the computed stage (R56, R57, R62). -/
theorem closureAllowance_mono {p r : Nat} (h : p ≤ r) (tc : Nat) : closureAllowance p tc ≤ closureAllowance r tc := by
  have hmul : p * tc ≤ r * tc := Nat.mul_le_mul_right tc h
  unfold closureAllowance ceilDiv
  exact Nat.div_le_div_right (by omega)

theorem computedStage_anti {m m' : Int} (h : m' ≤ m) (tv sv : Nat) : (computedStage m tv sv).rank ≤ (computedStage m' tv sv).rank := by
  unfold computedStage
  split
  · exact Nat.zero_le _
  split
  · rw [if_neg (by omega)]
    split
    · exact Nat.le_refl _
    split <;> decide
  split
  · rw [if_neg (by omega), if_neg (by omega)]
    split <;> decide
  · rw [if_neg (by omega), if_neg (by omega), if_neg (by omega)]

theorem halfOf_rank {p r : Nat} (h : p ≤ r) (g : LevelState) (d : TankDecl) (x vNow vHi tc drain : Nat) :
    (halfOf g d x vNow vHi p (closureAllowance p tc) drain).computed.rank
      ≤ (halfOf g d x vNow vHi r (closureAllowance r tc) drain).computed.rank := by
  have hclose := closureAllowance_mono h tc
  exact computedStage_anti (by unfold levelMargin; omega) ..

/-! ### The figures where a reading is judged -/

/-- A tank with its window and declaration as the reading left them. -/
structure State.ReadAs (s : State) (u : TankNo) (g : LevelState) (d : TankDecl) (x vNow vHi : Nat) : Prop where
  level : (s.tank u).levelState = g
  decl : (s.tank u).decl = some d
  lEff : (s.tank u).lEff = some x
  now : (s.tank u).volume x = some vNow
  high : (s.tank u).volume d.hHi = some vHi

theorem State.ReadAs.of_readings {g : LevelState} (h : s.ReadAs u g d x vNow vHi) (hr : t.readings = s.readings) : t.ReadAs u g d x vNow vHi := by
  have hu := congrFun hr u
  obtain ⟨hstate, heff, -⟩ := Tank.level_of_readings hu
  have hvol : (t.tank u).volume = (s.tank u).volume := by
    have hv : (t.tank u).readings.volume = (s.tank u).readings.volume := congrArg Tank.volume hu
    exact hv
  have hdecl : (t.tank u).decl = (s.tank u).decl := by
    have hv : (t.tank u).readings.decl = (s.tank u).readings.decl := congrArg Tank.decl hu
    exact hv
  exact ⟨hstate.trans h.level, hdecl.trans h.decl, heff.trans h.lEff, by rw [hvol]; exact h.now, by rw [hvol]; exact h.high⟩

theorem readTaken_readAs (hd : (s.tank u).decl = some d) (hx : s.LeavesLevel u d l q hi x) (hn : (s.tankAfter u l q).volume x = some vNow)
    (hv : (s.tankAfter u l q).volume d.hHi = some vHi) :
    (readTaken u l q hi hihi s).ReadAs u (s.tankAfter u l q).levelState d x vNow vHi := by
  obtain ⟨hlevel, heff, -, hdecl, hvol⟩ := readTaken_served (hihi := hihi) hd hx
  exact ⟨hlevel, hdecl, heff, by rw [hvol]; exact hn, by rw [hvol]; exact hv⟩

theorem evalHalf_readAs {g : LevelState} (h : s.ReadAs u g d x vNow vHi) (he : e.tank = u) (hr : s.levelHalfRuns e a = true) :
    s.evalHalf c e a = some (halfOf g d x vNow vHi (s.marginRate c e a) (closureAllowance (s.marginRate c e a) (s.chanConfig c).strokeTime)
      (s.chanConfig c).hoseDrain) := by
  subst he
  unfold State.evalHalf
  simp only
  rw [if_pos hr, levelHalf_eq h.decl h.lEff h.now h.high, h.level]

/-- The level steps of an evaluation whose half runs (R54 steps 2 to 4). -/
theorem levelSteps_readAs {g : LevelState} {y : LevelHalf} (h : s.ReadAs u g d x vNow vHi) (he : e.tank = u) (hy : s.evalHalf c e a = some y) :
    levelSteps a c i e s = levelEffects a c i u y d s := by
  subst he
  unfold levelSteps
  rw [hy, h.decl]

/-! SUPPORT. The ladder's steps on an ACTIVE entry at work, exactly (R63, R64, R66). -/


variable {P : List Part} {s t v w z : State} {u : TankNo} {c : Chan} {i j : EntryId} {e f : Entry} {k : Tank} {q : Quality} {l n m x vNow vHi : Nat}
  {d : TankDecl} {a b : Stage} {r : EndReason} {kind : EvalKind} {y : LevelHalf}

/-- Channel `c` is open or opening for its current entry `i`, which is `e`, ACTIVE and with no end pending. -/
structure State.AtWork (c : Chan) (i : EntryId) (e : Entry) (s : State) : Prop where
  current : s.current c = some (i, e)
  active : e.state = .active
  noEnd : e.endPending = none
  watched : (s.chan c).watched = true

theorem State.AtWork.entry (h : s.AtWork c i e) : s.entry i = some e := (current_live h.current).1
theorem State.AtWork.own (h : s.AtWork c i e) : e.chan = c := (current_live h.current).2.1

theorem State.AtWork.of_same (h : s.AtWork c i e) (he : t.entry = s.entry) (hc : (t.chan c).watched = (s.chan c).watched) : t.AtWork c i e :=
  ⟨by rw [current_congr he]; exact h.current, h.active, h.noEnd, by rw [hc]; exact h.watched⟩

theorem State.AtWork.modEntry (h : s.AtWork c i e) {g : Entry → Entry}
    (hg : (g e).chan = e.chan ∧ (g e).state = e.state ∧ (g e).endPending = e.endPending) : (s.modEntry i g).AtWork c i (g e) where
  current := current_modEntry h.current hg.1 (by rw [hg.2.1, h.active]; rfl)
  active := hg.2.1.trans h.active
  noEnd := hg.2.2.trans h.noEnd
  watched := h.watched

theorem State.AtWork.lowerStage (h : s.AtWork c i e) (b : Stage) : (lowerStage i b s).AtWork c i { e with stage := some b } :=
  (h.modEntry (g := fun e => { e with stage := some b }) ⟨rfl, rfl, rfl⟩).of_same (noteEntry_writes ..).entry_eq
    (by rw [Machine.lowerStage, (noteEntry_writes ..).chan_eq])

/-! ### The slug cleared, and FINAL (R64, R69) -/

theorem clearSlug_done (he : s.entry i = some e) (hs : e.slugless = e) (hn : e.settling = false) : clearSlug i s = s := by
  have hset : (s.modEntry i fun e => { e with slug := some { phase := .idle, size := none, base := none } })
      = s.setEntry i (some { e with slug := some { phase := .idle, size := none, base := none } }) := by rw [State.modEntry, he]; rfl
  unfold clearSlug
  simp only [he, hn, Bool.false_eq_true, if_false]
  split
  case h_2 => rfl
  case h_1 y hy =>
    have hsame : { e with slug := some { phase := .idle, size := none, base := none } } = e := by
      rw [← hs]
      unfold Entry.slugless
      simp [hy]
    rw [hset, hsame, ← he, setEntry_self]

theorem slugless_withEnd (e : Entry) (r : EndReason) : (e.withEnd r).slugless = e.withEnd r := by
  unfold Entry.withEnd Entry.slugless
  cases e.slug <;> rfl

theorem entry_markEnd_self (h : s.AtWork c i e) (r : EndReason) : (markEnd i r s).entry i = some (e.withEnd r) := by
  rw [entry_markEnd h.entry h.noEnd (.inr h.active), if_pos rfl]

/-- FINAL sets its end and hands the channel its close (R64). -/
theorem finalStage_eq (h : s.AtWork c i e) : finalStage c i s = closeChannel c (markEnd i .levelFinal s) := by
  unfold finalStage
  rw [clearSlug_done (entry_markEnd_self h _) (slugless_withEnd ..) (settling_withEnd ..)]

/-! ### A slug sized (R66) -/

/-- The slug begun at a size (R66). -/
def Entry.slugged (e : Entry) (size : Nat) : Entry := { e with slug := some { phase := .delivering, size := some size, base := some e.delivered } }

theorem sizeSlug_none (h : s.AtWork c i e) (hs : ∀ y, e.slug = some y → y.phase ≠ .idle) (n : Nat) (m : Int) : sizeSlug c i n m s = s := by
  unfold sizeSlug
  simp only [h.entry]
  refine if_neg fun hc => ?_
  cases hy : e.slug with
  | none => simp [hy] at hc
  | some y =>
    rw [hy] at hc
    simp only [Bool.and_eq_true, beq_iff_eq] at hc
    exact hs y hy hc.1.1

theorem sizeSlug_idle (h : s.AtWork c i e) (hs : e.slug.map SlugRecord.phase = some .idle) (hst : e.stage ≠ some .final) (n : Nat) (m : Int) :
    sizeSlug c i n m s = if 100 ≤ slugSize n m then s.modEntry i fun e => e.slugged (slugSize n m)
      else closeChannel c (markEnd i .levelFinal (lowerStage i .final s)) := by
  obtain ⟨y, hy, hphase⟩ := Option.map_eq_some_iff.mp hs
  have hstage : (e.stage != some .final) = true := by simpa using hst
  unfold sizeSlug
  simp only [h.entry, hy, hphase, hstage, h.noEnd, finalStage_eq (h.lowerStage .final)]
  rfl

/-! ### The stage (R63) -/

theorem Stage.lower_of_le (h : b.rank ≤ a.rank) : a.lower b = a := if_neg (Nat.not_lt.mpr h)
theorem Stage.lower_of_lt (h : a.rank < b.rank) : a.lower b = b := if_pos h

theorem applyStage_holds (hk : kind ≠ .activation) (he : s.entry i = some e) (ha : e.stage = some a) (hle : y.computed.rank ≤ a.rank) :
    applyStage kind c i y d s = s := by
  unfold applyStage
  simp only [he, ha, Stage.lower_of_le hle, hk]
  simp

theorem applyStage_final (hk : kind ≠ .activation) (h : s.AtWork c i e) (ha : e.stage = some a) (hlt : a.rank < y.computed.rank)
    (hf : y.computed = .final) : applyStage kind c i y d s = closeChannel c (markEnd i .levelFinal (lowerStage i .final s)) := by
  have hne : Stage.final ≠ a := fun h => by rw [hf, ← h] at hlt; exact absurd hlt (Nat.lt_irrefl _)
  rw [hf] at hlt
  rw [← finalStage_eq (h.lowerStage .final)]
  unfold applyStage
  simp only [h.entry, ha, hf, Stage.lower_of_lt hlt, hk]
  simp [hne]

/-- A fall of the stage short of FINAL: the cap's regrant, and a slug at SLUG (R63, R65, R66). -/
theorem applyStage_falls (hk : kind ≠ .activation) (h : s.AtWork c i e) (ha : e.stage = some a) (hlt : a.rank < y.computed.rank)
    (hf : y.computed ≠ .final) : ∃ w, (w = lowerStage i y.computed s ∨ w = regrant false (lowerStage i y.computed s))
      ∧ applyStage kind c i y d s = if y.computed = .slug then sizeSlug c i d.slugVolume y.m w else w := by
  have hne : y.computed ≠ a := fun h => by rw [h] at hlt; exact absurd hlt (Nat.lt_irrefl _)
  refine ⟨if stageCap d.toppingRate (some a) != stageCap d.toppingRate (some y.computed) then regrant false (lowerStage i y.computed s)
    else lowerStage i y.computed s, ?_, ?_⟩
  · split
    · exact .inr rfl
    · exact .inl rfl
  · unfold applyStage
    simp only [h.entry, ha, Stage.lower_of_lt hlt, hk, hf]
    simp [hne]

/-! SUPPORT. What a margin's judgement leaves where no evaluation follows it (R54, R60, R63 to R66). -/


variable {P : List Part} {s t v w y z : State} {u : TankNo} {c : Chan} {i j : EntryId} {e f : Entry} {n m : Nat}
  {d : TankDecl} {a b : Stage} {r : EndReason} {kind : EvalKind} {x : LevelHalf} {p : Bool}

/-! ### The entry past the ladder and the meter (R60, R63, R64, R66) -/

/-- The entry, its stage `a`, past a computed stage `b` and a slug's size. -/
def Entry.staged (e : Entry) (a b : Stage) (size : Nat) : Entry :=
  if b.rank ≤ a.rank then e
  else if b = .final then { e with stage := some .final }.withEnd .levelFinal
  else if b = .slug ∧ e.slug.map SlugRecord.phase = some .idle then
    if 100 ≤ size then { e with stage := some .slug }.slugged size else { e with stage := some .final }.withEnd .levelFinal
  else { e with stage := some b }

/-- The entry past the test of its meter margin. -/
def Entry.metertested (e : Entry) (n : Nat) : Entry :=
  if e.endPending = none ∧ meterMargin e.remaining n ≤ 0 then e.withEnd .allotment else e

/-- The entry with its margin recorded. -/
def Entry.recorded (e : Entry) (now q n : Nat) (x : Option LevelHalf) : Entry :=
  { e with margin := some { evaluatedAt := now, q := q, aClose := n, level := x.or (e.margin.bind MarginRecord.level), mm := meterMargin e.remaining n } }

/-! ### A channel at rest with its entry -/

/-- Slot `i` holds `f`, the current ACTIVE entry of `c`, whose HIGH_SOON is `p`; either it works on and no evaluation waits, or an end is
pending and the channel closes by it. -/
structure State.RestsAt (c : Chan) (i : EntryId) (f : Entry) (p : Bool) (s : State) : Prop where
  entry : s.entry i = some f
  soon : (s.chan c).highSoon = p
  rests : (s.AtWork c i f ∧ s.evals = []) ∨ (f.endPending ≠ none ∧ (∀ r, f.slug = some r → r.phase = .idle)
    ∧ (s.chan c).state = .closing ∧ (s.chan c).grant = 0 ∧ c ∉ s.evals)

theorem State.RestsAt.of_same (h : s.RestsAt c i f p) (he : t.entry = s.entry) (hc : t.chan c = s.chan c) (hv : t.evals = s.evals) :
    t.RestsAt c i f p where
  entry := by rw [he]; exact h.entry
  soon := by rw [hc]; exact h.soon
  rests := by
    rw [hc, hv]
    exact h.rests.imp_left fun ⟨hw, hn⟩ => ⟨hw.of_same he (by rw [hc]), hn⟩

theorem State.RestsAt.at_work (h : s.AtWork c i e) (hv : s.evals = []) : s.RestsAt c i e (s.chan c).highSoon := ⟨h.entry, rfl, .inl ⟨h, hv⟩⟩

theorem Channel.highSoon_valveClosed (k : Channel) (n m : Nat) : (k.valveClosed n m).highSoon = k.highSoon := by
  unfold Channel.valveClosed
  split
  all_goals rfl

/-- An end set with its close (R64, R81). -/
theorem State.AtWork.closed (h : s.AtWork c i e) (hv : c ∉ s.evals) (r : EndReason) :
    (closeChannel c (markEnd i r s)).RestsAt c i (e.withEnd r) (s.chan c).highSoon := by
  obtain ⟨he, hc, hev⟩ := markClosed (r := r) h.current h.active h.noEnd h.watched
  have hmark : (markEnd i r s).chan c = (s.chan c).unsettled e := by rw [chan_markEnd h.entry h.noEnd (.inr h.active), if_pos h.own]
  have hw : ((markEnd i r s).chan c).watched = true := by rw [hmark, Channel.unsettled_eq]; exact h.watched
  refine ⟨he, ?_, .inr ⟨by simp [Entry.withEnd], fun x hx => ?_, hc.1, hc.2.2.1, hev hv⟩⟩
  · rw [chan_closeChannel hw, Channel.highSoon_valveClosed, hmark, Channel.unsettled_eq]
  · obtain ⟨y, -, hy⟩ := Option.map_eq_some_iff.mp (show e.slug.map _ = some x from hx)
    rw [← hy]

/-- What follows leaves it: no evaluation of the channel waits, or it closes and is spared (R53, R109). -/
theorem State.RestsAt.effect {g : State → State} (h : (g s).RestsAt c i f p) (hf : f.chan = c) :
    (effect g s).entry i = some f ∧ ((effect g s).chan c).highSoon = p
      ∧ (f.endPending ≠ none → ((effect g s).chan c).state = .closing ∧ ∀ r, f.slug = some r → r.phase = .idle) := by
  rcases h.rests with ⟨hw, hv⟩ | ⟨hn, hs, hc, hg, hv⟩
  · rw [effect_of_no_evals hv]
    exact ⟨h.entry, h.soon, fun hn => absurd hw.noEnd hn⟩
  · obtain ⟨hchan, hown⟩ := effect_spares (f := g) (s := s) (Channel.asks_of_closing hc) (Channel.flowsByGrant_of_closing hc hg) hv
    refine ⟨entry_of_own hown h.entry hf, by rw [hchan]; exact h.soon, fun _ => ⟨by rw [hchan]; exact hc, hs⟩⟩

/-! ### The ladder's step (R63) -/

theorem lowerStage_evals (st : Stage) (s : State) : (lowerStage i st s).evals = s.evals := by
  rw [lowerStage, (noteEntry_writes ..).evals_eq]; rfl

theorem lowerStage_chan (st : Stage) (s : State) : (lowerStage i st s).chan = s.chan := by
  rw [lowerStage, (noteEntry_writes ..).chan_eq]; rfl

/-- A regrant of a part that is not SERVING changes nothing (R108). -/
def State.Still (s : State) : Prop := s.header.state ≠ .serving ∧ s.GrantsOk

theorem State.Still.of_writes (h : s.Still) (hw : Writes P s t)
    (hP : ∀ p ∈ P, p ∈ Part.cautionDefaults :: innerParts [.shutdown, .clear] := by decide)
    (hH : ∀ p ∈ P, p.item ≠ .header ∧ p.item ≠ .many := by decide) : t.Still :=
  ⟨by rw [hw.header_eq hH]; exact h.1, hw.grantsOk h.2 hP⟩

theorem State.Still.regrant (h : s.Still) : regrant false s = s := by rw [regrant_of_not_serving h.1 h.2]; rfl

theorem applyStage_rests (hk : kind ≠ .activation) (h : s.AtWork c i e) (ha : e.stage = some a)
    (hcalm : x.computed.rank ≤ a.rank ∨ s.Still) (hv : s.evals = []) :
    (applyStage kind c i x d s).RestsAt c i (e.staged a x.computed (slugSize d.slugVolume x.m)) (s.chan c).highSoon := by
  unfold Entry.staged
  split
  case isTrue hle => rw [applyStage_holds hk h.entry ha hle]; exact .at_work h hv
  case isFalse hlt =>
    have hstill := hcalm.resolve_left hlt
    have hlow (st : Stage) : (lowerStage i st s).evals = [] := by rw [lowerStage_evals]; exact hv
    split
    case isTrue hf =>
      rw [applyStage_final hk h ha (Nat.not_le.mp hlt) hf, ← lowerStage_chan (i := i) .final s]
      exact (h.lowerStage .final).closed (by rw [hlow]; simp) .levelFinal
    case isFalse hf =>
      have hlive : s.Live i := .of_entry h.entry (by rw [h.active]; rfl)
      obtain ⟨w, hw, heq⟩ := applyStage_falls (d := d) hk h ha (Nat.not_le.mp hlt) hf
      have hlower : Writes [.figures, .notices] s (lowerStage i x.computed s) :=
        lowerStage_writes hlive fun e' a' he' ha' => by
          rw [h.entry] at he'; cases he'; rw [ha] at ha'; cases ha'; exact (Nat.not_le.mp hlt).le
      have hsame : w = lowerStage i x.computed s := hw.elim id fun hw => by rw [hw, (hstill.of_writes hlower).regrant]
      rw [heq, hsame]
      have hat := h.lowerStage x.computed
      rw [← lowerStage_chan (i := i) x.computed s]
      by_cases hslug : x.computed = .slug
      case neg => rw [if_neg hslug, if_neg fun hc => hslug hc.1]; exact .at_work hat (hlow _)
      case pos =>
        rw [if_pos hslug]
        rw [hslug] at hat ⊢
        split
        case isFalse hno =>
          rw [sizeSlug_none hat (fun y hy hp => hno ⟨rfl, by rw [show e.slug = some y from hy]; exact congrArg some hp⟩)]
          exact .at_work hat (hlow _)
        case isTrue hyes =>
          rw [sizeSlug_idle hat hyes.2 (by simp)]
          split
          case isTrue =>
            exact .at_work (hat.modEntry (g := fun e => e.slugged _) ⟨rfl, rfl, rfl⟩) (hlow _)
          case isFalse =>
            rw [← lowerStage_chan (i := i) .final (lowerStage i .slug s)]
            exact (hat.lowerStage .final).closed (by rw [lowerStage_evals, hlow]; simp) .levelFinal

/-! ### The meter's test and the record (R60) -/

theorem meterHalf_rests (h : s.RestsAt c i f p) (n : Nat) : (meterHalf c i n s).RestsAt c i (f.metertested n) p := by
  have hhalf : meterHalf c i n s = if meterMargin f.remaining n ≤ 0 ∧ f.endPending = none ∧ f.state = .active then
      closeChannel c (markEnd i .allotment s) else s := by
    unfold meterHalf
    rw [h.entry]
  rw [hhalf, Entry.metertested]
  rcases h.rests with ⟨hw, hv⟩ | ⟨hn, -⟩
  · by_cases hm : meterMargin f.remaining n ≤ 0
    · rw [if_pos ⟨hw.noEnd, hm⟩, if_pos ⟨hm, hw.noEnd, hw.active⟩, ← h.soon]
      exact hw.closed (by rw [hv]; simp) .allotment
    · rw [if_neg fun hc => hm hc.2, if_neg fun hc => hm hc.1]
      exact h
  · rw [if_neg fun hc => hn hc.1, if_neg fun hc => hn hc.2.1]
    exact h

theorem writeMargin_eq (q n : Nat) (x : Option LevelHalf) (s : State) : writeMargin i q n x s = s.modEntry i fun e => e.recorded s.now q n x := by
  unfold writeMargin Entry.recorded
  congr 1
  funext e
  cases e.margin <;> rfl

theorem State.RestsAt.modEntry (h : s.RestsAt c i f p) {g : Entry → Entry}
    (hg : (g f).chan = f.chan ∧ (g f).state = f.state ∧ (g f).endPending = f.endPending ∧ (g f).slug = f.slug) : (s.modEntry i g).RestsAt c i (g f) p where
  entry := by rw [entry_modEntry_self, h.entry]; rfl
  soon := h.soon
  rests := by
    rw [hg.2.2.1, hg.2.2.2]
    exact h.rests.imp_left fun ⟨hw, hv⟩ => ⟨hw.modEntry ⟨hg.1, hg.2.1, hg.2.2.1⟩, hv⟩

theorem writeMargin_rests (h : s.RestsAt c i f p) (q n : Nat) (x : Option LevelHalf) :
    (writeMargin i q n x s).RestsAt c i (f.recorded s.now q n x) p := by
  rw [writeMargin_eq]
  exact h.modEntry (g := fun e => e.recorded s.now q n x) ⟨rfl, rfl, rfl, rfl⟩

/-! SUPPORT. A reading's margin judged exactly, and the reconciliation past it (R43 steps 7 and 8). -/


variable {P : List Part} {s t v w y z : State} {u : TankNo} {c : Chan} {i j : EntryId} {e f : Entry} {n m l x vNow vHi : Nat}
  {d : TankDecl} {a b : Stage} {kind : EvalKind} {p hi hihi : Bool} {q : Quality} {g : LevelState}

/-! ### The figures as the part gives them (R54 to R58) -/

/-- The figures of a level half at the part's own rate. -/
def State.halfAt (s : State) (g : LevelState) (d : TankDecl) (x vNow vHi : Nat) (c : Chan) (e : Entry) (kind : EvalKind) : LevelHalf :=
  halfOf g d x vNow vHi (s.marginRate c e kind) (closureAllowance (s.marginRate c e kind) (s.chanConfig c).strokeTime) (s.chanConfig c).hoseDrain

/-- The entry as a reading's evaluation leaves it, where nothing follows (R54). -/
def State.judged (s : State) (a : Stage) (size n : Nat) (kind : EvalKind) (c : Chan) (e : Entry) (half : LevelHalf) : Entry :=
  ((e.staged a half.computed size).metertested n).recorded s.now (s.marginRate c e kind) n (some half)

/-- The part with HIGH_SOON and the above-table flag worked. -/
theorem State.AtWork.soon (h : s.AtWork c i e) (u : TankNo) (b : Bool) : (setHighSoon c b (judgeAbove u s)).AtWork c i e := by
  have hw : Writes [.chans, .tanks, .trip, .notices] s (setHighSoon c b (judgeAbove u s)) := (judgeAbove_writes ..).then (setHighSoon_writes ..)
  refine h.of_same hw.entry_eq ?_
  rw [chan_setHighSoon, if_pos rfl, (judgeAbove_writes u s).chan_eq]
  rfl

theorem judgeMargin_rests (h : s.AtWork c i e) (hr : s.ReadAs e.tank g d x vNow vHi) (hset : e.settling = false) (ha : e.stage = some a)
    (hcalm : (s.halfAt g d x vNow vHi c e .reading).computed.rank ≤ a.rank ∨ s.Still) (hv : s.evals = []) :
    (judgeMargin .reading c i e s).RestsAt c i (s.judged a (slugSize d.slugVolume (s.halfAt g d x vNow vHi c e .reading).m)
      (closureAllowance (s.marginRate c e .reading) (s.chanConfig c).strokeTime) .reading c e (s.halfAt g d x vNow vHi c e .reading))
      (s.halfAt g d x vNow vHi c e .reading).t.soon := by
  have hhalf : s.evalHalf c e .reading = some (s.halfAt g d x vNow vHi c e .reading) :=
    evalHalf_readAs hr rfl (by unfold State.levelHalfRuns; rw [hset]; rfl)
  unfold State.judged judgeMargin
  rw [levelSteps_readAs hr rfl hhalf, hhalf, levelEffects, if_neg (by decide)]
  generalize s.halfAt g d x vNow vHi c e .reading = y at *
  have hw : Writes [.chans, .tanks, .trip, .notices] s (setHighSoon c y.t.soon (judgeAbove e.tank s)) := (judgeAbove_writes ..).then (setHighSoon_writes ..)
  have hstage := applyStage_rests (kind := .reading) (d := d) (x := y) (by decide) (h.soon e.tank y.t.soon) ha
    (hcalm.imp_right fun hs => hs.of_writes hw) (hw.evals_eq.trans hv)
  rw [show ((setHighSoon c y.t.soon (judgeAbove e.tank s)).chan c).highSoon = y.t.soon by rw [chan_setHighSoon, if_pos rfl]] at hstage
  have hmeter := meterHalf_rests hstage (closureAllowance (s.marginRate c e .reading) (s.chanConfig c).strokeTime)
  have hnow : (meterHalf c i (closureAllowance (s.marginRate c e .reading) (s.chanConfig c).strokeTime)
      (applyStage .reading c i y d (setHighSoon c y.t.soon (judgeAbove e.tank s)))).now = s.now := by
    have hgiven : (meterHalf c i (closureAllowance (s.marginRate c e .reading) (s.chanConfig c).strokeTime)
      (applyStage .reading c i y d (setHighSoon c y.t.soon (judgeAbove e.tank s)))).given = s.given := by simp
    exact congrArg Given.now hgiven
  rw [← hnow]
  exact writeMargin_rests hmeter ..

/-! ### The reconciliation that stops nothing (R123 to R126) -/

/-- An entry but for what a reconciliation writes. -/
def Entry.unreconciled (e : Entry) : Entry :=
  { e with startVolume := none, startQuality := none, meterBaseline := none, strikes := 0, recon := none }

/-- `y` is `z` past a reconciliation that stops nothing, of channel `c`'s entry `i` and tank `u`. -/
inductive Reconciled (u : TankNo) (c : Chan) (i : EntryId) (z : State) : State → Prop
  | same : Reconciled u c i z z
  | above : Reconciled u c i z (judgeAbove u z)
  | wrote (g : Entry → Entry) (b : Bool) : (∀ e, (g e).unreconciled = e.unreconciled) → Reconciled u c i z (reconciledAt u c i g b z)

/-- A reconciliation with no strike before it stops nothing. -/
theorem reconcile_reconciled (hc : z.activeChan u = some c) (ha : z.activeEntry c = some (i, f)) (hu : f.tank = u)
    (hq : f.startQuality ≠ some .steady ∨ f.strikes = 0) : Reconciled u c i z (reconcile u z) := by
  cases hv : (z.tank u).nowVolume with
  | none =>
    have hsame : reconcile u z = z := by
      unfold reconcile
      simp only [hc, ha, hv]
    rw [hsame]; exact .same
  | some n =>
    by_cases hst : (z.tank u).levelState = .steady
    case neg => rw [reconcile_unsteady hst]; exact .same
    match hsq : f.startQuality with
    | none =>
      have habove : reconcile u z = judgeAbove u z := by
        unfold reconcile
        simp only [hc, ha, hv, hst, hsq, if_true]
      rw [habove]; exact .above
    | some .conservative =>
      rw [reconcile_rebases hc ha hv hst hsq]
      exact .wrote _ _ fun _ => rfl
    | some .steady =>
      have hstrikes := hq.resolve_left fun h => h hsq
      have htwo (r : ReconResult) : ¬ (r = .excess ∧ strikesAfter f.strikes r = 2) := by
        rintro ⟨rfl, h⟩
        rw [(strikesAfter_excess _).1 hstrikes] at h
        cases h
      rw [reconcile_compares hc ha hv hst hsq]
      unfold compareVolumes
      simp only
      rw [if_neg (htwo _), hu]
      exact .wrote (fun g => { g with recon := some { origin := g.origin, figures := some _ }, strikes := _ }) _ fun _ => rfl

theorem kept_of_unreconciled (h : f.unreconciled = e.unreconciled) : f.chan = e.chan ∧ f.tank = e.tank ∧ f.state = e.state
    ∧ f.endPending = e.endPending ∧ f.slug = e.slug ∧ f.stage = e.stage ∧ f.margin = e.margin ∧ f.delivered = e.delivered
    ∧ f.allotment = e.allotment ∧ f.planRate = e.planRate := by
  have h1 := congrArg Entry.chan h
  have h2 := congrArg Entry.tank h
  have h3 := congrArg Entry.state h
  have h4 := congrArg Entry.endPending h
  have h5 := congrArg Entry.slug h
  have h6 := congrArg Entry.stage h
  have h7 := congrArg Entry.margin h
  have h8 := congrArg Entry.delivered h
  have h9 := congrArg Entry.allotment h
  have h10 := congrArg Entry.planRate h
  exact ⟨h1, h2, h3, h4, h5, h6, h7, h8, h9, h10⟩

theorem keepsPlace_of_unreconciled {g : Entry → Entry} (h : ∀ e, (g e).unreconciled = e.unreconciled) : KeepsPlace g := fun e => by
  obtain ⟨hchan, htank, hstate, hend, -⟩ := kept_of_unreconciled (h e)
  exact ⟨hchan, htank, hstate, hend⟩

/-- What a reconciliation that stops nothing keeps: of the channel all but UNMETERED_GAIN, and what waits to be evaluated. -/
theorem Reconciled.keeps (h : Reconciled u c i z y) : y.evals = z.evals ∧ y.given = z.given ∧ y.site = z.site ∧ y.readings = z.readings
    ∧ ((z.tank u).blindTimer = none → (y.tank u).blindTimer = none)
    ∧ ∃ b, y.chan c = { z.chan c with meter := { (z.chan c).meter with unmeteredGain := b } } := by
  have hblind : ((judgeAbove u z).tank u).blindTimer = (z.tank u).blindTimer := by
    obtain ⟨b, hb⟩ := tank_judgeAbove u z
    rw [hb]
  have habove := judgeAbove_writes u z
  cases h with
  | same => exact ⟨rfl, rfl, rfl, rfl, id, _, rfl⟩
  | above => exact ⟨habove.evals_eq, given_judgeAbove .., site_of_entry habove.entry_eq, readings_judgeAbove .., fun h => hblind.trans h, _, by rw [habove.chan_eq]⟩
  | wrote g b hg =>
    have hset := setUnmetered_writes c u b ((judgeAbove u z).modEntry i g)
    refine ⟨?_, ?_, site_reconciledAt (keepsPlace_of_unreconciled hg) z, ?_, fun h => ?_, b, ?_⟩
    · exact hset.evals_eq.trans habove.evals_eq
    · simp [reconciledAt]
    · exact hset.readings_eq.trans (readings_judgeAbove u z)
    · rw [reconciledAt, hset.tank_eq]; exact hblind.trans h
    · have hsame : ((judgeAbove u z).modEntry i g).chan c = z.chan c := congrFun habove.chan_eq c
      rw [reconciledAt, chan_setUnmetered, if_pos rfl, hsame]

theorem Reconciled.entry (h : Reconciled u c i z y) (he : z.entry i = some e) : ∃ f, y.entry i = some f ∧ f.unreconciled = e.unreconciled := by
  cases h with
  | same => exact ⟨e, he, rfl⟩
  | above => exact ⟨e, by rw [(judgeAbove_writes u z).entry_eq]; exact he, rfl⟩
  | wrote g b hg => exact ⟨g e, by rw [entry_reconciledAt, if_pos rfl, he]; rfl, hg e⟩

theorem Reconciled.currentId (h : Reconciled u c i z y) : y.currentId c = z.currentId c := by
  have hlive (w : State) (j : EntryId) : (match w.entry j with | some e => e.live c | none => false) = (w.site j).any fun p => p.1 == c && !p.2.2 := by
    unfold State.site
    cases w.entry j <;> rfl
  exact congrArg entryIds.find? (funext fun j => ((hlive y j).trans (by rw [h.keeps.2.2.1])).trans (hlive z j).symm)

theorem Reconciled.atWork (h : Reconciled u c i z y) (hz : z.AtWork c i e) : ∃ f, f.unreconciled = e.unreconciled ∧ y.AtWork c i f := by
  obtain ⟨-, -, -, -, -, b, hchan⟩ := h.keeps
  obtain ⟨f, hf, hfe⟩ := h.entry hz.entry
  obtain ⟨-, -, hstate, hend, -⟩ := kept_of_unreconciled hfe
  refine ⟨f, hfe, ?_, hstate.trans hz.active, hend.trans hz.noEnd, ?_⟩
  · exact current_eq_some_iff.mpr ⟨h.currentId.trans (current_eq_some_iff.mp hz.current).1, hf⟩
  · rw [hchan]; exact hz.watched

theorem Reconciled.rests (h : Reconciled u c i z y) (hz : z.RestsAt c i e p) : ∃ f, f.unreconciled = e.unreconciled ∧ y.RestsAt c i f p := by
  obtain ⟨hev, -, -, -, -, b, hchan⟩ := h.keeps
  have hsoon : (y.chan c).highSoon = p := by rw [hchan]; exact hz.soon
  rcases hz.rests with ⟨hw, hv⟩ | ⟨hn, hslug, hclosing, hgrant, hv⟩
  · obtain ⟨f, hfe, hf⟩ := h.atWork hw
    exact ⟨f, hfe, hf.entry, hsoon, .inl ⟨hf, hev.trans hv⟩⟩
  · obtain ⟨f, hf, hfe⟩ := h.entry hz.entry
    obtain ⟨-, -, -, hend, hsame, -⟩ := kept_of_unreconciled hfe
    exact ⟨f, hfe, hf, hsoon, .inr ⟨by rw [hend]; exact hn, by rw [hsame]; exact hslug, by rw [hchan]; exact hclosing, by rw [hchan]; exact hgrant,
      by rw [hev]; exact hv⟩⟩

/-! PROOF. The margin figures of a reading of a served tank, and the stage they bring (R53 to R66). -/


variable {P : List Part} {s t v w y z : State} {u : TankNo} {c : Chan} {i j : EntryId} {e f : Entry} {n m l x vNow vHi : Nat}
  {d : TankDecl} {a b : Stage} {kind : EvalKind} {p hi hihi : Bool} {q : Quality} {body : List Byte}

/-! ### The part at a reading's evaluation -/

theorem given_readTaken (u : TankNo) (l : Nat) (q : Quality) (hi hihi : Bool) (s : State) : (readTaken u l q hi hihi s).given = s.given := by
  have hown (w : State) : (w.modTank u Tank.judgeOwn).given = w.given := by
    apply given_modTank
    unfold Tank.judgeOwn
    split <;> rfl
  rw [readTaken, given_judgeAbove, hown, given_judgeReading, given_modTank rfl]

theorem given_servedAt (u : TankNo) (l : Nat) (q : Quality) (hi hihi : Bool) (s : State) : (servedAt u l q hi hihi s).given = s.given := by
  rw [servedAt, given_judgeBlind, given_readTaken]

/-- The part at the evaluation, by the hold BLIND that its reading lifts. -/
theorem servedAt_eq (hs : s.Serves c u i e) (hx : s.LeavesLevel u d l q hi x) : servedAt u l q hi hihi s
    = removeHold c .blind ((readTaken u l q hi hihi s).modTank u fun k => { k with blindTimer := none }) := by
  have hknown : ((readTaken u l q hi hihi s).tank u).levelState.known = true := by
    rw [(readTaken_level ..).1]; exact LevelState.known_of_lEff hx.1
  exact judgeBlind_known (by rw [activeChan_congr (readTaken_writes u l q hi hihi s).entry_eq]; exact hs.1) hknown

theorem chan_unblinded (u : TankNo) (l : Nat) (q : Quality) (hi hihi : Bool) (s : State) :
    ((readTaken u l q hi hihi s).modTank u fun k => { k with blindTimer := none }).chan = s.chan := (readTaken_writes u l q hi hihi s).chan_eq

theorem servedAt_atWork (hs : s.Serves c u i e) (hx : s.LeavesLevel u d l q hi x) : (servedAt u l q hi hihi s).AtWork c i e := by
  obtain ⟨-, -, ha, -, hw, hn⟩ := id hs
  have hserve := activeEntry_eq_some_iff.mp ha
  refine ⟨?_, hserve.2, hn, ?_⟩
  · rw [current_congr (servedAt_writes u l q hi hihi s).entry_eq]; exact hserve.1
  · rw [servedAt_eq (hihi := hihi) hs hx, removeHold]
    have hchan := chan_unblinded u l q hi hihi s
    generalize (readTaken u l q hi hihi s).modTank u (fun k => { k with blindTimer := none }) = v at *
    split
    · rw [(regrant_spares false c _).staysAt.watched, chan_removeHolds, if_pos rfl, hchan]
      exact hw
    · rw [hchan]; exact hw

/-- The channel's grant at the evaluation: the one it held where BLIND is not lifted or the header is not SERVING (R108). -/
theorem servedAt_grant (hs : s.Serves c u i e) (hx : s.LeavesLevel u d l q hi x) (hg : s.GrantsOk) :
    (s.chan c).grant ≤ ((servedAt u l q hi hihi s).chan c).grant
      ∧ (s.Still ∨ (s.chan c).holds.blind = false → ((servedAt u l q hi hihi s).chan c).grant = (s.chan c).grant
          ∧ (servedAt u l q hi hihi s).evals = s.evals) := by
  have hread : Writes [.tanks, .trip, .notices] s ((readTaken u l q hi hihi s).modTank u fun k => { k with blindTimer := none }) :=
    (readTaken_writes u l q hi hihi s).then (modTank_writes (.of_same rfl rfl rfl rfl rfl))
  have hchan := hread.chan_eq
  have hevals := hread.evals_eq
  have hstill (h : s.Still) := h.of_writes hread
  rw [servedAt_eq (hihi := hihi) hs hx, removeHold]
  generalize (readTaken u l q hi hihi s).modTank u (fun k => { k with blindTimer := none }) = v at *
  split
  case isFalse => rw [hchan]; exact ⟨le_rfl, fun _ => ⟨rfl, hevals⟩⟩
  case isTrue hb =>
    rw [hchan] at hb
    have hzero : (s.chan c).grant = 0 := by
      by_contra hne
      have hempty := (hg.2.2 c).2.1 ((hg.2.2 c).1.mp (Nat.pos_of_ne_zero hne))
      rw [hempty] at hb; cases hb
    refine ⟨by rw [hzero]; exact Nat.zero_le _, fun hcalm => ?_⟩
    have hquiet := hcalm.resolve_right fun h => by
      rw [show (s.chan c).holds.blind = true from hb] at h; cases h
    have hw : Writes [.chans, .notices] v (removeHolds c [.blind] v) := removeHolds_writes c v (by decide) (by decide)
    rw [((hstill hquiet).of_writes hw).regrant, chan_removeHolds, if_pos rfl, hchan]
    exact ⟨rfl, hw.evals_eq.trans hevals⟩

/-- The rate of a reading's evaluation (R55). -/
theorem servedAt_rate (hs : s.Serves c u i e) (hx : s.LeavesLevel u d l q hi x) (hg : s.GrantsOk) :
    max (s.chan c).grant (min (s.chan c).meter.rate 20000) ≤ (servedAt u l q hi hihi s).marginRate c e .reading
      ∧ (s.Still ∨ (s.chan c).holds.blind = false →
          (servedAt u l q hi hihi s).marginRate c e .reading = max (s.chan c).grant (min (s.chan c).meter.rate 20000)) := by
  obtain ⟨hle, heq⟩ := servedAt_grant (hihi := hihi) hs hx hg
  have hrate : ((servedAt u l q hi hihi s).chan c).meter.rate = (s.chan c).meter.rate :=
    congrArg Counts.rate (congrFun (congrArg Given.counts (given_servedAt u l q hi hihi s)) c)
  have hmargin : (servedAt u l q hi hihi s).marginRate c e .reading
      = max ((servedAt u l q hi hihi s).chan c).grant (min (s.chan c).meter.rate 20000) := by
    rw [← hrate]; rfl
  rw [hmargin]
  exact ⟨max_le_max hle le_rfl, fun h => by rw [(heq h).1]⟩

/-- A reading's evaluation at rest: what the judged part is. -/
theorem judgedAt_rests (h : (s.tank u).decl = some d) (hx : s.LeavesLevel u d l q hi x) (hs : s.Serves c u i e) (hg : s.GrantsOk)
    (ha : e.stage = some a) (hn : (s.tankAfter u l q).volume x = some vNow) (hv : (s.tankAfter u l q).volume d.hHi = some vHi)
    (hset : e.settling = false) (hev : s.evals = []) {rate aClose : Nat} {half : LevelHalf}
    (hr : rate = max (s.chan c).grant (min (s.chan c).meter.rate 20000)) (hc : aClose = closureAllowance rate (s.chanConfig c).strokeTime)
    (hh : half = halfOf (s.tankAfter u l q).levelState d x vNow vHi rate aClose (s.chanConfig c).hoseDrain)
    (hcalm : s.Still ∨ (half.computed.rank ≤ a.rank ∧ (s.chan c).holds.blind = false)) :
    (judgedAt u l q hi hihi c i e s).RestsAt c i
      (((e.staged a half.computed (slugSize d.slugVolume half.m)).metertested aClose).recorded s.now rate aClose (some half)) half.t.soon := by
  obtain ⟨-, heq⟩ := servedAt_rate (hihi := hihi) hs hx hg
  have hrate := (heq (hcalm.imp_right fun h => h.2)).trans hr.symm
  have hgiven := given_servedAt u l q hi hihi s
  have hnow : (servedAt u l q hi hihi s).now = s.now := congrArg Given.now hgiven
  have hconf : (servedAt u l q hi hihi s).chanConfig c = s.chanConfig c := congrArg (fun g : Given => g.config.channels.get c) hgiven
  have hread : (servedAt u l q hi hihi s).ReadAs e.tank (s.tankAfter u l q).levelState d x vNow vHi := by
    rw [hs.2.2.2.1]
    exact (readTaken_readAs h hx hn hv).of_readings (readings_servedAt ..)
  have hkind : (servedAt u l q hi hihi s).readingKind u e = .reading := by
    unfold State.readingKind State.settlingEnds
    rw [hset]; rfl
  have hhalf : (servedAt u l q hi hihi s).halfAt (s.tankAfter u l q).levelState d x vNow vHi c e .reading = half := by
    unfold State.halfAt
    rw [hrate, hconf, ← hc, hh]
  have hrests := judgeMargin_rests (servedAt_atWork (hihi := hihi) hs hx) hread hset ha (by
    rw [hhalf]
    exact hcalm.symm.imp (fun h => h.1) fun h => h.of_writes (servedAt_writes u l q hi hihi s))
    (((servedAt_grant (hihi := hihi) hs hx hg).2 (hcalm.imp_right fun h => h.2)).2.trans hev)
  unfold judgedAt
  rw [hkind]
  unfold State.judged at hrests
  rw [hhalf, hrate, hnow, hconf, ← hc] at hrests
  exact hrests

/-! PROOF. A served reading's evaluation, the entry not settling: the first half of O44. -/


variable {P : List Part} {s t v w y z : State} {u : TankNo} {c : Chan} {i j : EntryId} {e f : Entry} {n m l x vNow vHi : Nat}
  {d : TankDecl} {a b : Stage} {kind : EvalKind} {p hi hihi : Bool} {q : Quality} {body : List Byte} {half : LevelHalf}

/-! ### The part past the reconciliation -/

/-- A reading of a served tank ends in its evaluations, past a reconciliation that stops nothing. -/
theorem levelEnd_reconciled (h : s.TakesLevel body u d l q hi hihi) (hx : s.LeavesLevel u d l q hi x) (hs : s.Serves c u i e)
    (hv : (s.tankAfter u l q).volume x = some n) (hq : e.startQuality ≠ some .steady ∨ e.strikes = 0) :
    ∃ (y : State) (r r' : Port), y = reconcile u (judgedAt u l q hi hihi c i e (refreshLink .ship s))
      ∧ Reconciled u c i (judgedAt u l q hi hihi c i e (refreshLink .ship s)) y
      ∧ levelEnd body u l q hi hihi s = effect (fun _ => y.withPorts r r') s := by
  have hs' := Serves_refreshLink hs
  have hx' := LeavesLevel_refreshLink hx
  obtain ⟨⟨f, hf, hfe⟩, hchan, hserve, -, -⟩ := judgedAt_found (hihi := hihi) hs' (decl_refreshLink h.2.2.1) hx'
    (by rw [tankAfter_refreshLink]; exact hv)
  obtain ⟨-, hquality, -, hstrikes, -⟩ := recon_of_fixed hfe
  have hrec := reconcile_reconciled hchan hf ((congrArg Entry.tank hfe).trans hs.2.2.2.1) (by rw [hquality, hstrikes]; exact hq)
  obtain ⟨-, -, hsite, -, -, b, hb⟩ := hrec.keeps
  have hbusy := (judgedAt_engaged (hihi := hihi) hs' hx').busyState
  obtain ⟨r, r', hend⟩ := levelEnd_served (y := reconcile u (judgedAt u l q hi hihi c i e (refreshLink .ship s))) h hx hs rfl
    (by rw [servingChan_of_site hsite]; exact hserve) (by rw [hb]; exact hbusy)
  exact ⟨_, r, r', rfl, hrec, hend⟩

/-- The volume delivered stands through a reading (R4). -/
theorem delivered_levelEnd (hs : s.Serves c u i e) (hrec : Reconciled u c i (judgedAt u l q hi hihi c i e (refreshLink .ship s)) y) (r r' : Port) :
    ∃ f, (effect (fun _ => y.withPorts r r') s).entry i = some f ∧ f.delivered = e.delivered := by
  have hstart : (refreshLink .ship s).entry i = some e := by rw [(refreshLink_plant s).1]; exact (activeEntry_live hs.2.2.1).1
  obtain ⟨f, hf, hfe⟩ := entry_of_fixed (fixed_judgedAt u l q hi hihi c i e (refreshLink .ship s)) hstart
  obtain ⟨g, hg, hge⟩ := hrec.entry hf
  obtain ⟨k, hk, hke⟩ := entry_of_course (effect_course (fun _ => y.withPorts r r') s) (show (y.withPorts r r').entry i = some g from hg)
  have h1 := congrArg Entry.delivered hke
  have h2 := (kept_of_unreconciled hge).2.2.2.2.2.2.2.1
  have h3 := congrArg Entry.delivered hfe
  exact ⟨k, hk, h1.trans (h2.trans h3)⟩

/-! ### The stage falls to the computed one (R63) -/

theorem applyStage_lowers (hk : kind ≠ .activation) (h : s.AtWork c i e) (ha : e.stage = some a) :
    ∃ f, (applyStage kind c i half d s).entry i = some f ∧ ({ e with stage := some (a.lower half.computed) } : Entry).Stands f := by
  by_cases hle : half.computed.rank ≤ a.rank
  case pos =>
    rw [applyStage_holds hk h.entry ha hle, Stage.lower_of_le hle, ← ha]
    exact ⟨e, h.entry, .refl e⟩
  case neg =>
    have hlt := Nat.not_le.mp hle
    rw [Stage.lower_of_lt hlt]
    have hlow (st : Stage) := h.lowerStage (c := c) st
    have hlive (st : Stage) : (lowerStage i st s).Live i := .of_entry (hlow st).entry (by
      show e.state.terminal = false
      rw [h.active]; rfl)
    by_cases hf : half.computed = .final
    · rw [applyStage_final hk h ha hlt hf, hf]
      have hw : Writes [.figures, .chans, .header, .grants, .evals, .notices] (lowerStage i .final s)
        (closeChannel c (markEnd i .levelFinal (lowerStage i .final s))) := (markEnd_writes ..).then (closeChannel_writes ..)
      exact hw.stands (hlow .final).entry (.refl _)
    · obtain ⟨v, hv, heq⟩ := applyStage_falls (d := d) hk h ha hlt hf
      have hgrant : Writes [.grants, .evals, .notices] (lowerStage i half.computed s) v := by
        rcases hv with rfl | rfl
        · exact .refl _
        · exact regrant_writes ..
      have hw : Writes stageParts (lowerStage i half.computed s) (applyStage kind c i half d s) := by
        rw [heq]
        split
        · exact hgrant.then (sizeSlug_writes (hgrant.live (hlive _)))
        · exact hgrant.mono
      exact hw.stands (hlow _).entry (.refl _)

/-- The entry a reading's evaluation leaves has its stage no higher than the computed one (R54, R63). -/
theorem judgeMargin_lowers {g : LevelState} (h : s.AtWork c i e) (hr : s.ReadAs e.tank g d x vNow vHi) (hset : e.settling = false) (ha : e.stage = some a) :
    ∃ f, (judgeMargin .reading c i e s).entry i = some f
      ∧ ({ e with stage := some (a.lower (s.halfAt g d x vNow vHi c e .reading).computed) } : Entry).Stands f := by
  have hhalf : s.evalHalf c e .reading = some (s.halfAt g d x vNow vHi c e .reading) :=
    evalHalf_readAs hr rfl (by unfold State.levelHalfRuns; rw [hset]; rfl)
  unfold judgeMargin
  rw [levelSteps_readAs hr rfl hhalf, hhalf, levelEffects, if_neg (by decide)]
  generalize s.halfAt g d x vNow vHi c e .reading = half
  obtain ⟨f, hf, hstands⟩ := applyStage_lowers (kind := .reading) (d := d) (half := half) (by decide) (h.soon e.tank half.t.soon) ha
  have hlive : (setHighSoon c half.t.soon (judgeAbove e.tank s)).Live i :=
    .of_entry (h.soon e.tank half.t.soon).entry (by rw [h.active]; rfl)
  have hstage := (applyStage_writes (k := .reading) (c := c) (h := half) (d := d) hlive).live hlive
  have hmeter := meterHalf_writes c i (closureAllowance (s.marginRate c e .reading) (s.chanConfig c).strokeTime)
    (applyStage .reading c i half d (setHighSoon c half.t.soon (judgeAbove e.tank s)))
  obtain ⟨g, hg, hstands⟩ := hmeter.stands hf hstands
  exact (writeMargin_writes (hmeter.live hstage)).stands hg hstands

/-- The stage a served reading leaves is at or below the one it had and the one its rate computes (R63). -/
theorem level_stage (h : s.TakesLevel body u d l q hi hihi) (hx : s.LeavesLevel u d l q hi x) (hs : s.Serves c u i e) (hg : s.GrantsOk)
    (ha : e.stage = some a) (hn : (s.tankAfter u l q).volume x = some vNow) (hv : (s.tankAfter u l q).volume d.hHi = some vHi)
    (hq : e.startQuality ≠ some .steady ∨ e.strikes = 0) (hset : e.settling = false) {rate : Nat}
    (hr : rate = max (s.chan c).grant (min (s.chan c).meter.rate 20000)) :
    ∃ f b, (levelEnd body u l q hi hihi s).entry i = some f ∧ f.delivered = e.delivered ∧ f.stage = some b ∧ a.rank ≤ b.rank
      ∧ (halfOf (s.tankAfter u l q).levelState d x vNow vHi rate (closureAllowance rate (s.chanConfig c).strokeTime) (s.chanConfig c).hoseDrain).computed.rank
        ≤ b.rank := by
  obtain ⟨y, r, r', hy, hrec, hend⟩ := levelEnd_reconciled h hx hs hn hq
  have hs' := Serves_refreshLink hs
  have hx' := LeavesLevel_refreshLink hx
  have hg' : (refreshLink .ship s).GrantsOk := by rw [refreshLink_eq_withPorts]; exact hg
  have hd' := decl_refreshLink h.2.2.1
  obtain ⟨-, hchan, -, hconf, -⟩ := refreshLink_plant s
  have hrate := (servedAt_rate (hihi := hihi) hs' hx' hg').1
  rw [hchan, ← hr] at hrate
  have hgiven : (servedAt u l q hi hihi (refreshLink .ship s)).chanConfig c = s.chanConfig c :=
    (congrArg (fun g : Given => g.config.channels.get c) (given_servedAt u l q hi hihi (refreshLink .ship s))).trans
      (congrArg (fun g : SiteConfig => g.channels.get c) hconf)
  have hread : (servedAt u l q hi hihi (refreshLink .ship s)).ReadAs e.tank (s.tankAfter u l q).levelState d x vNow vHi := by
    rw [hs.2.2.2.1, ← tankAfter_refreshLink]
    exact (readTaken_readAs hd' hx' (by rw [tankAfter_refreshLink]; exact hn) (by rw [tankAfter_refreshLink]; exact hv)).of_readings (readings_servedAt ..)
  obtain ⟨f, hf, hstands⟩ := judgeMargin_lowers (servedAt_atWork (hihi := hihi) hs' hx') hread hset ha
  have hkind : (servedAt u l q hi hihi (refreshLink .ship s)).readingKind u e = .reading := by
    unfold State.readingKind State.settlingEnds
    rw [hset]; rfl
  have hjudged : (judgedAt u l q hi hihi c i e (refreshLink .ship s)).entry i = some f := by
    unfold judgedAt
    rw [hkind]; exact hf
  obtain ⟨g, hg, hstands⟩ := (reconcile_writes u _).stands hjudged hstands
  rw [← hy] at hg
  obtain ⟨k, hk, hstands⟩ := (runEvals_writes evalBudget (y.withPorts r r')).stands (show (y.withPorts r r').entry i = some g from hg) hstands
  obtain ⟨b, hb, hrank⟩ := hstands.stage _ rfl
  have hlower := Stage.rank_le_lower a ((servedAt u l q hi hihi (refreshLink .ship s)).halfAt (s.tankAfter u l q).levelState d x vNow vHi c e .reading).computed
  obtain ⟨k', hk', hdel⟩ := delivered_levelEnd hs hrec r r'
  have hsame : (effect (fun _ => y.withPorts r r') s).entry i = some k := hk
  rw [hk'] at hsame
  cases hsame
  rw [hend]
  refine ⟨k, b, hk', hdel, hb, hlower.1.trans hrank, le_trans ?_ (hlower.2.trans hrank)⟩
  unfold State.halfAt
  rw [hgiven]
  exact halfOf_rank hrate ..

/-! PROOF. A served reading's evaluation exactly, where nothing follows it: the first half of O44. -/


variable {P : List Part} {s t v w y z : State} {u : TankNo} {c : Chan} {i j : EntryId} {e f : Entry} {n m l x vNow vHi rate size : Nat}
  {d : TankDecl} {a b : Stage} {kind : EvalKind} {p hi hihi : Bool} {q : Quality} {body : List Byte} {half : LevelHalf}

/-! ### The entry's steps -/

theorem staged_kept (e : Entry) (a b : Stage) (size : Nat) : (e.staged a b size).remaining = e.remaining ∧ (e.staged a b size).chan = e.chan := by
  unfold Entry.staged
  split
  · exact ⟨rfl, rfl⟩
  split
  · exact ⟨rfl, rfl⟩
  split
  · split
    · exact ⟨rfl, rfl⟩
    · exact ⟨rfl, rfl⟩
  · exact ⟨rfl, rfl⟩

theorem metertested_kept (e : Entry) (n : Nat) : (e.metertested n).remaining = e.remaining ∧ (e.metertested n).chan = e.chan
    ∧ (e.metertested n).stage = e.stage := by
  unfold Entry.metertested
  split
  · exact ⟨rfl, rfl, rfl⟩
  · exact ⟨rfl, rfl, rfl⟩

/-- An end pending stands through the meter's test. -/
theorem metertested_ended (h : e.endPending ≠ none) (n : Nat) : e.metertested n = e := if_neg fun hc => h hc.1

theorem metertested_on (h : 0 < meterMargin e.remaining n) : e.metertested n = e := if_neg fun hc => absurd hc.2 (not_le.mpr h)

theorem metertested_out (hn : e.endPending = none) (h : meterMargin e.remaining n ≤ 0) : e.metertested n = e.withEnd .allotment := if_pos ⟨hn, h⟩

section
variable (ha : e.stage = some a) (hn : e.endPending = none)

theorem staged_holds (hle : b.rank ≤ a.rank) : e.staged a b size = e := if_pos hle

theorem staged_final (hlt : a.rank < b.rank) (hb : b = .final) : (e.staged a b size).stage = some .final
    ∧ (e.staged a b size).endPending = some .levelFinal := by
  unfold Entry.staged
  rw [if_neg (Nat.not_le.mpr hlt), if_pos hb]
  exact ⟨rfl, rfl⟩

theorem staged_unsized (hlt : a.rank < b.rank) (hb : b ≠ .final) (hs : ¬ (b = .slug ∧ e.slug.map SlugRecord.phase = some .idle)) :
    e.staged a b size = { e with stage := some b } := by
  unfold Entry.staged
  rw [if_neg (Nat.not_le.mpr hlt), if_neg hb, if_neg hs]

theorem staged_sized (hlt : a.rank < b.rank) (hb : b = .slug) (hs : e.slug.map SlugRecord.phase = some .idle) : e.staged a b size
    = if 100 ≤ size then { e with stage := some .slug }.slugged size else { e with stage := some .final }.withEnd .levelFinal := by
  unfold Entry.staged
  rw [if_neg (Nat.not_le.mpr hlt), if_neg (by rw [hb]; decide), if_pos ⟨hb, hs⟩]

end

/-! ### The part at rest past a served reading -/

/-- The entry past a served reading's evaluation: the one judged, but for what the reconciliation writes. -/
theorem level_rests (h : s.TakesLevel body u d l q hi hihi) (hx : s.LeavesLevel u d l q hi x) (hs : s.Serves c u i e) (hg : s.GrantsOk)
    (ha : e.stage = some a) (hn : (s.tankAfter u l q).volume x = some vNow) (hv : (s.tankAfter u l q).volume d.hHi = some vHi)
    (hq : e.startQuality ≠ some .steady ∨ e.strikes = 0) (hset : e.settling = false) {aClose : Nat}
    (hr : rate = max (s.chan c).grant (min (s.chan c).meter.rate 20000)) (hc : aClose = closureAllowance rate (s.chanConfig c).strokeTime)
    (hh : half = halfOf (s.tankAfter u l q).levelState d x vNow vHi rate aClose (s.chanConfig c).hoseDrain)
    (hcalm : s.header.state ≠ .serving ∨ (half.computed.rank ≤ a.rank ∧ (s.chan c).holds.blind = false)) :
    ∃ f, (levelEnd body u l q hi hihi s).entry i = some f
      ∧ f.unreconciled = (((e.staged a half.computed (slugSize d.slugVolume half.m)).metertested aClose).recorded s.now rate aClose (some half)).unreconciled
      ∧ ((levelEnd body u l q hi hihi s).chan c).highSoon = half.t.soon
      ∧ (f.endPending ≠ none → ((levelEnd body u l q hi hihi s).chan c).state = .closing ∧ ∀ r, f.slug = some r → r.phase = .idle) := by
  obtain ⟨y, r, r', hy, hrec, hend⟩ := levelEnd_reconciled h hx hs hn hq
  obtain ⟨-, hchan, hnow, hconf, hevals, -⟩ := refreshLink_plant s
  have hdevice : (refreshLink .ship s).chanConfig c = s.chanConfig c := congrArg (fun g : SiteConfig => g.channels.get c) hconf
  have hg' : (refreshLink .ship s).GrantsOk := by rw [refreshLink_eq_withPorts]; exact hg
  have hheader : (refreshLink .ship s).header = s.header := by rw [refreshLink_eq_withPorts]; rfl
  have hrests := judgedAt_rests (hihi := hihi) (decl_refreshLink h.2.2.1) (LeavesLevel_refreshLink hx) (Serves_refreshLink hs) hg' ha
    (by rw [tankAfter_refreshLink]; exact hn) (by rw [tankAfter_refreshLink]; exact hv) hset (by rw [hevals]; exact h.1.1.2)
    (rate := rate) (aClose := aClose) (half := half) (by rw [hchan]; exact hr) (by rw [hdevice]; exact hc)
    (by rw [tankAfter_refreshLink, hdevice]; exact hh) (by rw [hchan]; exact hcalm.imp_left fun hst => ⟨by rw [hheader]; exact hst, hg'⟩)
  rw [hnow] at hrests
  obtain ⟨f, hf, hat⟩ := hrec.rests hrests
  have hown : f.chan = c := by
    rw [(kept_of_unreconciled hf).1]
    exact (metertested_kept _ _).2.1.trans ((staged_kept ..).2.trans (activeEntry_live hs.2.2.1).2.1)
  have hports : (y.withPorts r r').RestsAt c i f half.t.soon := hat.of_same rfl rfl rfl
  obtain ⟨hentry, hsoon, hends⟩ := State.RestsAt.effect (g := fun _ => y.withPorts r r') (s := s) hports hown
  rw [hend]
  exact ⟨f, hentry, hf, hsoon, hends⟩

/-- What the entry judged holds (R54, R60, R63 to R66), by the stages and the meter margin. -/
theorem judged_facts (ha : e.stage = some a) (hn : e.endPending = none) {now aClose : Nat} {half : LevelHalf} {size : Nat}
    (hf : f.unreconciled = (((e.staged a half.computed size).metertested aClose).recorded now rate aClose (some half)).unreconciled) :
    f.margin = some { evaluatedAt := now, q := rate, aClose := aClose, level := some half, mm := meterMargin e.remaining aClose }
      ∧ (half.computed.rank ≤ a.rank → f.stage = some a)
      ∧ (a.rank < half.computed.rank → half.computed = .topping → f.stage = some .topping)
      ∧ (a.rank < half.computed.rank → half.computed = .final → f.stage = some .final ∧ f.endPending = some .levelFinal)
      ∧ (a.rank < half.computed.rank → half.computed = .slug → e.slug.map SlugRecord.phase = some .idle →
          (size < 100 → f.stage = some .final ∧ f.endPending = some .levelFinal)
            ∧ (100 ≤ size → f.stage = some .slug ∧ (0 < meterMargin e.remaining aClose →
                f.slug = some { phase := .delivering, size := some size, base := some e.delivered })))
      ∧ (a.rank < half.computed.rank → half.computed = .slug → e.slug.map SlugRecord.phase = some .delivering → f.stage = some .slug)
      ∧ (half.computed.rank ≤ a.rank → f.endPending = (if meterMargin e.remaining aClose ≤ 0 then some .allotment else none))
      ∧ (half.computed.rank ≤ a.rank → 0 < meterMargin e.remaining aClose → f.slug = e.slug) := by
  obtain ⟨-, -, -, hend, hslug, hstage, hmargin, -⟩ := kept_of_unreconciled hf
  have hrem := (staged_kept e a half.computed size).1
  obtain ⟨hrem', -, htested⟩ := metertested_kept (e.staged a half.computed size) aClose
  have hst : f.stage = (e.staged a half.computed size).stage := hstage.trans htested
  have hend : f.endPending = ((e.staged a half.computed size).metertested aClose).endPending := hend
  have hslug : f.slug = ((e.staged a half.computed size).metertested aClose).slug := hslug
  have hends (hp : (e.staged a half.computed size).endPending ≠ none) : f.endPending = (e.staged a half.computed size).endPending :=
    hend.trans (congrArg Entry.endPending (metertested_ended hp aClose))
  have hgoes (hm : 0 < meterMargin e.remaining aClose) : f.slug = (e.staged a half.computed size).slug :=
    hslug.trans (congrArg Entry.slug (metertested_on (by rw [hrem]; exact hm)))
  refine ⟨?_, fun hle => ?_, fun hlt hb => ?_, fun hlt hb => ?_, fun hlt hb hs => ⟨fun hsz => ?_, fun hsz => ?_⟩, fun hlt hb hs => ?_,
    fun hle => ?_, fun hle hm => ?_⟩
  · rw [hmargin]
    show some _ = some _
    rw [hrem'.trans hrem]
    rfl
  · rw [hst, staged_holds hle, ha]
  · rw [hst, staged_unsized hlt (by rw [hb]; decide) (fun hc => by rw [hb] at hc; cases hc.1), hb]
  · obtain ⟨h1, h2⟩ := staged_final (e := e) (size := size) hlt hb
    exact ⟨hst.trans h1, (hends (by rw [h2]; simp)).trans h2⟩
  · have hst' := staged_sized (size := size) hlt hb hs
    rw [if_neg (Nat.not_le.mpr hsz)] at hst'
    rw [hst'] at hst hends
    exact ⟨hst, hends (by simp [Entry.withEnd])⟩
  · have hst' := staged_sized (size := size) hlt hb hs
    rw [if_pos hsz] at hst'
    rw [hst'] at hst hgoes
    exact ⟨hst, hgoes⟩
  · rw [hst, staged_unsized hlt (by rw [hb]; decide) (fun hc => by rw [hs] at hc; cases hc.2), hb]
  · have hself := staged_holds (e := e) (size := size) hle
    rw [hself] at hend
    split
    case isTrue hm => exact hend.trans (congrArg Entry.endPending (metertested_out hn hm))
    case isFalse hm => exact hend.trans ((congrArg Entry.endPending (metertested_on (not_le.mp hm))).trans hn)
  · rw [hgoes hm, staged_holds hle]

/-! SUPPORT. The close of a settling: the stage, the slug ended, and the next slug sized or the stage FINAL (R63, R66, R68). -/


variable {P : List Part} {s t v w y z : State} {u : TankNo} {c : Chan} {i j : EntryId} {e f : Entry} {n m l x vNow vHi rate size : Nat}
  {d : TankDecl} {a b : Stage} {kind : EvalKind} {p hi hihi : Bool} {q : Quality} {body : List Byte} {half : LevelHalf} {k : Channel}
  {r : EndReason}

/-! ### A channel that asks for nothing (R109) -/

/-- Channel `c` does not ask, holds no grant, and no evaluation of it waits. -/
structure State.Mute (c : Chan) (s : State) : Prop where
  asks : (s.chan c).asks = false
  flows : (s.chan c).FlowsByGrant
  evals : c ∉ s.evals

theorem State.Mute.spared (h : s.Mute c) (hs : s.Spares c t) : t.chan c = s.chan c ∧ t.Mute c := by
  have hc := hs.chan h.asks h.flows
  exact ⟨hc, by rw [hc]; exact h.asks, by rw [hc]; exact h.flows, hs.evals h.asks h.flows h.evals⟩

theorem Channel.asks_of_settling (hs : k.holds.settling = true) (hf : k.FlowsByGrant) : k.asks = false := by
  have hput : ((k.holds.put .noGrant false).has .settling) = true := by rw [HoldSet.has_put_of_ne (by decide)]; exact hs
  unfold Channel.asks
  cases hst : k.state with
  | flowing =>
    have hempty := hf.2.1 hst
    rw [hempty] at hs; cases hs
  | held =>
    have hne := HoldSet.ne_empty_of_has hput
    exact Bool.eq_false_iff.mpr fun h => hne ((HoldSet.isEmpty_iff _).mp h)
  | masked | idle | opening | closing | fault => rfl

theorem Channel.holdsWithout_settling (hs : k.holds.settling = true) {rs : List HoldReason} (hr : .settling ∉ rs) :
    (k.holdsWithout rs).settling = true := by
  change (k.holdsWithout rs).has .settling = true
  have hminus : (k.holds.minus rs).has .settling = true := by
    rw [HoldSet.has_minus, show k.holds.has .settling = true from hs]
    simp [hr]
  rw [Channel.holdsWithout_eq, if_neg fun h => HoldSet.ne_empty_of_has hminus h.2.2]
  exact hminus

/-- A settling's channel at its reading: still held by SETTLING, asking for nothing (R67). -/
theorem servedAt_settling (hs : s.Serves c u i e) (hx : s.LeavesLevel u d l q hi x) (hg : s.GrantsOk) (hset : (s.chan c).holds.settling = true)
    (hev : s.evals = []) : (servedAt u l q hi hihi s).Mute c ∧ ((servedAt u l q hi hihi s).chan c).grant = 0 := by
  have hread : Writes [.tanks, .trip, .notices] s ((readTaken u l q hi hihi s).modTank u fun k => { k with blindTimer := none }) :=
    (readTaken_writes u l q hi hihi s).then (modTank_writes (.of_same rfl rfl rfl rfl rfl))
  have hchan := hread.chan_eq
  have hevals := hread.evals_eq.trans hev
  have hgrants := hread.grantsOk hg
  rw [servedAt_eq (hihi := hihi) hs hx, removeHold]
  generalize (readTaken u l q hi hihi s).modTank u (fun k => { k with blindTimer := none }) = v at *
  have hsettles : (v.chan c).holds.settling = true := by rw [hchan]; exact hset
  have hmute {w : State} (hf : w.GrantsOk) (hs : (w.chan c).holds.settling = true) (he : w.evals = []) : w.Mute c :=
    ⟨Channel.asks_of_settling hs (hf.2.2 c), hf.2.2 c, by rw [he]; simp⟩
  split
  case isFalse =>
    have hself := hmute hgrants hsettles hevals
    exact ⟨hself, Channel.grant_of_not_asks hself.asks hself.flows⟩
  case isTrue =>
    have hw : Writes [.chans, .notices] v (removeHolds c [.blind] v) := removeHolds_writes c v (by decide) (by decide)
    have hfreed := hmute (hw.grantsOk hgrants) (by
      rw [chan_removeHolds, if_pos rfl]
      exact Channel.holdsWithout_settling hsettles (by decide)) (hw.evals_eq.trans hevals)
    obtain ⟨hsame, hself⟩ := hfreed.spared (regrant_spares false c _)
    exact ⟨hself, Channel.grant_of_not_asks hself.asks hself.flows⟩

/-! ### A channel at work as the evaluations find it -/

theorem State.AtWork.engaged (h : s.AtWork c i e) : s.Engaged c i (s.chan c) where
  entry := ⟨e, h.current, h.active⟩
  busy := .inl h.watched
  keeps := .refl _
  ends f hf hn := by
    rw [h.entry] at hf
    cases hf
    exact absurd h.noEnd hn

theorem State.Engaged.rebase (h : s.Engaged c i k) : s.Engaged c i (s.chan c) where
  entry := h.entry
  busy := h.busy
  keeps := .refl _
  ends := h.ends

theorem State.AtWork.regrant (h : s.AtWork c i e) (z : Bool) : (regrant z s).AtWork c i e :=
  h.of_same (regrant_writes z s).entry_eq (regrant_spares z c s).staysAt.watched

/-- A settling's end takes SETTLING off the channel (R68, R69). -/
theorem Channel.unsettled_off (k : Channel) (hs : e.settling = true) : (k.unsettled e).holds.settling = false := by
  change (k.unsettled e).holds.has .settling = false
  have hminus : (k.holds.minus [.settling]).has .settling = false := by rw [HoldSet.has_minus]; simp
  rw [Channel.unsettled, if_pos hs]
  change (k.holdsWithout [.settling]).has .settling = false
  rw [Channel.holdsWithout_eq]
  split
  · rw [HoldSet.has_put_of_ne (by decide)]; exact hminus
  · exact hminus

/-- An end set at a settling's close leaves the channel closing, SETTLING off. -/
theorem State.AtWork.closed_unsettled (h : s.AtWork c i e) (hs : e.settling = true) (r : EndReason) :
    ((closeChannel c (markEnd i r s)).chan c).holds.settling = false := by
  have hmark : (markEnd i r s).chan c = (s.chan c).unsettled e := by rw [chan_markEnd h.entry h.noEnd (.inr h.active), if_pos h.own]
  have hw : ((markEnd i r s).chan c).watched = true := by rw [hmark, Channel.unsettled_eq]; exact h.watched
  rw [chan_closeChannel hw, hmark]
  exact Channel.settling_closed h.watched hs ..

/-! ### The slug's end, and the next one (R66, R68) -/

theorem slug_of_settling (h : e.settling = true) : ∃ y, e.slug = some y ∧ y.phase = .settling := by
  unfold Entry.settling at h
  split at h
  case h_1 y hy => exact ⟨y, hy, by simpa using h⟩
  case h_2 => cases h

theorem State.AtWork.clearSlug (h : s.AtWork c i e) : (clearSlug i s).AtWork c i e.slugless where
  current := by
    have hentry : (Machine.clearSlug i s).entry i = some e.slugless := by rw [entry_clearSlug, if_pos rfl, h.entry]; rfl
    obtain ⟨f, hf, -⟩ := current_of_fixed (clearSlug_fixed i s) h.current
    have hsame := (current_live hf).1
    rw [hentry] at hsame
    cases hsame
    exact hf
  active := h.active
  noEnd := h.noEnd
  watched := by
    rw [chan_clearSlug h.entry, if_pos h.own, Channel.unsettled_eq]
    exact h.watched

theorem clearSlug_evals (i : EntryId) (s : State) : (clearSlug i s).evals = s.evals := by
  unfold clearSlug
  split
  · split
    · split
      · exact (removeHolds_writes _ _).evals_eq
      · rfl
    · rfl
  · rfl

/-- A regrant leaves a channel that closes for an end as it is (R109). -/
theorem State.RestsAt.regrant (h : s.RestsAt c i f p) (hn : f.endPending ≠ none) (z : Bool) : (regrant z s).RestsAt c i f p := by
  obtain ⟨-, hslug, hclosing, hgrant, hevals⟩ := h.rests.resolve_left fun hw => hn hw.1.noEnd
  have hmute : s.Mute c := ⟨Channel.asks_of_closing hclosing, Channel.flowsByGrant_of_closing hclosing hgrant, hevals⟩
  obtain ⟨hchan, hself⟩ := hmute.spared (regrant_spares z c s)
  exact ⟨by rw [(regrant_writes z s).entry_eq]; exact h.entry, by rw [hchan]; exact h.soon,
    .inr ⟨hn, hslug, by rw [hchan]; exact hclosing, by rw [hchan]; exact hgrant, hself.evals⟩⟩

/-- The entry that FINAL ends (R64). -/
def Entry.finished (e : Entry) : Entry := { e with stage := some .final }.withEnd .levelFinal

theorem endSettling_eq (h : s.AtWork c i e) (hset : e.settling = true) (hst : e.stage ≠ some .final) (n : Nat) (m : Int) :
    endSettling c i n m s = regrant false (if 100 ≤ slugSize n m then (clearSlug i s).modEntry i fun e => e.slugged (slugSize n m)
      else closeChannel c (markEnd i .levelFinal (lowerStage i .final (clearSlug i s)))) := by
  obtain ⟨y, hy, -⟩ := slug_of_settling hset
  have hidle : e.slugless.slug.map SlugRecord.phase = some .idle := by unfold Entry.slugless; rw [hy]; rfl
  rw [← sizeSlug_idle h.clearSlug hidle hst n m]
  unfold endSettling
  rw [h.entry]
  exact if_neg hst

/-- A settling's end with no slug to size (R66, R68). -/
theorem endSettling_small (h : s.AtWork c i e) (hv : c ∉ s.evals) (hset : e.settling = true) (hst : e.stage ≠ some .final) {n : Nat} {m : Int}
    (hsize : slugSize n m < 100) : (endSettling c i n m s).RestsAt c i e.slugless.finished (s.chan c).highSoon := by
  have hwork := h.clearSlug.lowerStage .final
  have hclosed := hwork.closed (by rw [lowerStage_evals, clearSlug_evals]; exact hv) .levelFinal
  rw [lowerStage_chan, chan_clearSlug h.entry, if_pos h.own, Channel.unsettled_eq] at hclosed
  rw [endSettling_eq h hset hst, if_neg (Nat.not_le.mpr hsize)]
  exact hclosed.regrant (by simp [Entry.withEnd]) false

/-- A settling's end with a slug sized, and the grant it brings (R66, R68, R110). -/
theorem endSettling_sized (h : s.AtWork c i e) (hset : e.settling = true) (hst : e.stage ≠ some .final) {n : Nat} {m : Int}
    (hsize : 100 ≤ slugSize n m) : (endSettling c i n m s).AtWork c i (e.slugged (slugSize n m))
      ∧ ((endSettling c i n m s).chan c).grant ≤ (endSettling c i n m s).capOf c := by
  have hwork := h.clearSlug.modEntry (g := fun e => e.slugged (slugSize n m)) ⟨rfl, rfl, rfl⟩
  rw [endSettling_eq h hset hst, if_pos hsize]
  refine ⟨hwork.regrant false, ?_⟩
  rw [(regrant_spares false c _).cap, chan_regrant]
  exact (Channel.granted_le ..).trans ((newGrant_le_request ..).trans (request_le_capOf ..))

/-- SETTLING is off the channel once its settling has closed (R68). -/
theorem endSettling_off (h : s.AtWork c i e) (hset : e.settling = true) (hst : e.stage ≠ some .final) (n : Nat) (m : Int) :
    ((endSettling c i n m s).chan c).holds.settling = false := by
  have hoff : ((clearSlug i s).chan c).holds.settling = false := by
    rw [chan_clearSlug h.entry, if_pos h.own]
    exact (s.chan c).unsettled_off hset
  have hend : endSettling c i n m s = regrant false (sizeSlug c i n m (clearSlug i s)) := by
    unfold endSettling
    rw [h.entry]
    exact if_neg hst
  rw [hend]
  exact ((h.clearSlug.engaged.sizeSlug n m).regrant false).keeps.settling hoff

/-! ### The stage at a settling's close (R63) -/

theorem sizeSlug_settling (h : s.AtWork c i e) (hset : e.settling = true) (n : Nat) (m : Int) : sizeSlug c i n m s = s := by
  refine sizeSlug_none h (fun y hy => ?_) n m
  obtain ⟨y', hy', hp⟩ := slug_of_settling hset
  rw [hy] at hy'
  cases hy'
  rw [hp]; decide

theorem applyStage_settling (hk : kind ≠ .activation) (h : s.AtWork c i e) (hm : s.Mute c) (ha : e.stage = some a) (hset : e.settling = true)
    (hf : half.computed ≠ .final) : (applyStage kind c i half d s).AtWork c i { e with stage := some (a.lower half.computed) }
      ∧ (applyStage kind c i half d s).Mute c ∧ (applyStage kind c i half d s).chan c = s.chan c := by
  by_cases hle : half.computed.rank ≤ a.rank
  case pos =>
    rw [applyStage_holds hk h.entry ha hle, Stage.lower_of_le hle, ← ha]
    exact ⟨h, hm, rfl⟩
  case neg =>
    obtain ⟨w, hw, heq⟩ := applyStage_falls (d := d) hk h ha (Nat.not_le.mp hle) hf
    have hlow := h.lowerStage (c := c) half.computed
    have hchan : (lowerStage i half.computed s).chan c = s.chan c := by rw [lowerStage_chan]
    have hlowm : (lowerStage i half.computed s).Mute c :=
      ⟨by rw [hchan]; exact hm.asks, by rw [hchan]; exact hm.flows, by rw [lowerStage_evals]; exact hm.evals⟩
    rw [Stage.lower_of_lt (Nat.not_le.mp hle)]
    have hwork : w.AtWork c i { e with stage := some half.computed } ∧ w.Mute c ∧ w.chan c = s.chan c := by
      rcases hw with rfl | rfl
      · exact ⟨hlow, hlowm, hchan⟩
      · obtain ⟨hsame, hself⟩ := hlowm.spared (regrant_spares false c _)
        exact ⟨hlow.regrant false, hself, hsame.trans hchan⟩
    rw [heq, sizeSlug_settling hwork.1 hset, ite_self]
    exact hwork

/-! ### The level steps of a settling's close (R54, R68) -/

/-- What the level steps of a settling's close leave: SETTLING off; FINAL with its end where the stage is FINAL or no slug is sized; else the
stage lowered and a slug begun, with the grant within the request. -/
theorem levelEffects_settling (h : s.AtWork c i e) (hm : s.Mute c) (ha : e.stage = some a) (hset : e.settling = true) (hna : a ≠ .final) (u : TankNo) :
    ((levelEffects .settlingEnd c i u half d s).chan c).holds.settling = false
      ∧ (half.computed = .final ∨ slugSize d.slugVolume half.m < 100 → ∃ f p, (levelEffects .settlingEnd c i u half d s).RestsAt c i f p
          ∧ f.stage = some .final ∧ f.endPending = some .levelFinal ∧ f.slug = some { phase := .idle, size := none, base := none })
      ∧ (half.computed ≠ .final → 100 ≤ slugSize d.slugVolume half.m →
          (levelEffects .settlingEnd c i u half d s).AtWork c i (({ e with stage := some (a.lower half.computed) } : Entry).slugged (slugSize d.slugVolume half.m))
            ∧ ((levelEffects .settlingEnd c i u half d s).chan c).grant ≤ (levelEffects .settlingEnd c i u half d s).capOf c) := by
  obtain ⟨y, hy, -⟩ := slug_of_settling hset
  have hw : Writes [.chans, .tanks, .trip, .notices] s (setHighSoon c half.t.soon (judgeAbove u s)) := (judgeAbove_writes ..).then (setHighSoon_writes ..)
  have hwork := h.soon u half.t.soon
  have hmute : (setHighSoon c half.t.soon (judgeAbove u s)).Mute c := by
    have hchan : (setHighSoon c half.t.soon (judgeAbove u s)).chan c = { s.chan c with highSoon := half.t.soon } := by
      rw [chan_setHighSoon, if_pos rfl, (judgeAbove_writes u s).chan_eq]
    exact ⟨by rw [hchan]; exact hm.asks, by rw [hchan]; exact hm.flows, by rw [hw.evals_eq]; exact hm.evals⟩
  unfold levelEffects
  simp only [if_true]
  generalize setHighSoon c half.t.soon (judgeAbove u s) = v at hwork hmute
  by_cases hf : half.computed = .final
  case pos =>
    have hlt : a.rank < half.computed.rank := by
      rw [hf]
      cases a with
      | final => exact absurd rfl hna
      | full | topping | slug => decide
    have hlow := hwork.lowerStage .final
    have hclosed := hlow.closed (by rw [lowerStage_evals]; exact hmute.evals) .levelFinal
    have hsame : endSettling c i d.slugVolume half.m (closeChannel c (markEnd i .levelFinal (lowerStage i .final v)))
        = closeChannel c (markEnd i .levelFinal (lowerStage i .final v)) := by
      unfold endSettling
      rw [hclosed.entry]
      exact if_pos rfl
    rw [applyStage_final (by decide) hwork ha hlt hf, hsame]
    refine ⟨hlow.closed_unsettled hset _, fun _ => ⟨_, _, hclosed, rfl, rfl, ?_⟩, fun hn => absurd hf hn⟩
    show e.slug.map _ = _
    rw [hy]; rfl
  case neg =>
    obtain ⟨hat, hmute', -⟩ := applyStage_settling (kind := .settlingEnd) (d := d) (by decide) hwork hmute ha hset hf
    have hst : ({ e with stage := some (a.lower half.computed) } : Entry).stage ≠ some .final := by
      intro h
      have hl : a.lower half.computed = .final := Option.some.inj h
      unfold Stage.lower at hl
      split at hl
      · exact hf hl
      · exact hna hl
    refine ⟨endSettling_off hat hset hst .., fun hsmall => ⟨_, _, endSettling_small hat hmute'.evals hset hst (hsmall.resolve_left hf), rfl, rfl, ?_⟩,
      fun _ hsize => endSettling_sized hat hset hst hsize⟩
    show (e.slug.map _).map _ = _
    rw [hy]; rfl

/-! SUPPORT. A slug begun within its request stands through the evaluations that its grant brings (R53 to R66, R111). -/


variable {P : List Part} {s t v w y z : State} {u : TankNo} {c o : Chan} {i j : EntryId} {e f : Entry} {n m l x vNow vHi rate size : Nat}
  {d : TankDecl} {a b : Stage} {kind : EvalKind} {p hi hihi : Bool} {q : Quality} {body : List Byte} {half : LevelHalf} {g : LevelState}
  {k : ChannelConfig}

/-- An entry but for its margin record. -/
def Entry.unmargined (e : Entry) : Entry := { e with margin := none }

/-- What a rate allows an entry: its request is within it, and at it the stage holds and the meter margin is above 0. -/
structure Entry.Allows (e : Entry) (rate : Nat) (g : LevelState) (d : TankDecl) (x vNow vHi : Nat) (k : ChannelConfig) : Prop where
  stage : ∃ b, e.stage = some b ∧ (halfOf g d x vNow vHi rate (closureAllowance rate k.strokeTime) k.hoseDrain).computed.rank ≤ b.rank
  meter : 0 < meterMargin e.remaining (closureAllowance rate k.strokeTime)
  request : capped (min e.planRate k.hoseMaxRate) (stageCap d.toppingRate e.stage) ≤ rate
  unsettled : e.settling = false

/-- Channel `c` at work on its entry, which stands as `e` but for its margin, with no more than the rate that the entry allows. -/
structure State.Fills (c : Chan) (i : EntryId) (e : Entry) (rate : Nat) (g : LevelState) (d : TankDecl) (x vNow vHi : Nat) (k : ChannelConfig)
    (s : State) : Prop where
  work : ∃ f, s.AtWork c i f ∧ f.unmargined = e.unmargined
  read : s.ReadAs e.tank g d x vNow vHi
  grant : (s.chan c).grant ≤ rate
  measured : min (s.chan c).meter.rate 20000 ≤ rate
  config : s.chanConfig c = k

theorem kept_of_unmargined (h : f.unmargined = e.unmargined) : f.stage = e.stage ∧ f.tank = e.tank ∧ f.remaining = e.remaining
    ∧ f.planRate = e.planRate ∧ f.slug = e.slug ∧ f.endPending = e.endPending := by
  have h1 := congrArg Entry.stage h
  have h2 := congrArg Entry.tank h
  have h3 := congrArg Entry.remaining h
  have h4 := congrArg Entry.planRate h
  have h5 := congrArg Entry.slug h
  have h6 := congrArg Entry.endPending h
  exact ⟨h1, h2, h3, h4, h5, h6⟩

theorem settling_of_slug (h : f.slug = e.slug) : f.settling = e.settling := by unfold Entry.settling; rw [h]

/-- The cap of a channel whose entry does not settle (R65, R109). -/
theorem capOf_at (h : s.AtWork c i f) (hr : s.ReadAs f.tank g d x vNow vHi) (hset : f.settling = false) :
    s.capOf c = capped (min f.planRate (s.chanConfig c).hoseMaxRate) (stageCap d.toppingRate f.stage) := by
  have hcap : s.ladderCap f = stageCap d.toppingRate f.stage := by
    unfold State.ladderCap State.topRate
    rw [hset, hr.decl]
    rfl
  unfold State.capOf
  rw [h.current]
  simp only [hcap]

/-! ### An evaluation of the channel itself (R54) -/

theorem judgeMargin_eq (kind : EvalKind) (c : Chan) (i : EntryId) (e : Entry) (s : State) : judgeMargin kind c i e s
    = writeMargin i (s.marginRate c e kind) (closureAllowance (s.marginRate c e kind) (s.chanConfig c).strokeTime) (s.evalHalf c e kind)
      (meterHalf c i (closureAllowance (s.marginRate c e kind) (s.chanConfig c).strokeTime) (levelSteps kind c i e s)) := rfl

theorem judgeMargin_fills (ha : e.Allows rate g d x vNow vHi k) (h : s.Fills c i e rate g d x vNow vHi k) (hf : s.AtWork c i f)
    (hfe : f.unmargined = e.unmargined) : (judgeMargin .change c i f s).Fills c i e rate g d x vNow vHi k := by
  obtain ⟨hstage, htank, hrem, -, hslug, -⟩ := kept_of_unmargined hfe
  obtain ⟨b, hb, hrank⟩ := ha.stage
  have hread : s.ReadAs f.tank g d x vNow vHi := by rw [htank]; exact h.read
  have hrate : s.marginRate c f .change ≤ rate := by
    show max (s.chan c).grant (min (s.chan c).meter.rate 20000) ≤ rate
    exact max_le h.grant h.measured
  have hclose := closureAllowance_mono hrate k.strokeTime
  have hsteps : levelSteps .change c i f s = s
      ∨ ∃ p, levelSteps .change c i f s = setHighSoon c p (judgeAbove f.tank s) := by
    cases hruns : s.levelHalfRuns f .change with
    | false =>
      refine .inl ?_
      unfold levelSteps State.evalHalf
      simp only [hruns, Bool.false_eq_true, if_false]
    | true =>
      refine .inr ⟨(s.halfAt g d x vNow vHi c f .change).t.soon, ?_⟩
      have hhalf : s.evalHalf c f .change = some (s.halfAt g d x vNow vHi c f .change) := evalHalf_readAs hread rfl hruns
      rw [levelSteps_readAs hread rfl hhalf, levelEffects, if_neg (by decide)]
      refine applyStage_holds (by decide) (hf.soon _ _).entry (hstage.trans hb) ?_
      unfold State.halfAt
      rw [h.config]
      exact (halfOf_rank hrate ..).trans hrank
  have hwork : (levelSteps .change c i f s).AtWork c i f := by
    rcases hsteps with hsame | ⟨p, hsoon⟩
    · rw [hsame]; exact hf
    · rw [hsoon]; exact hf.soon ..
  have hchan : ((levelSteps .change c i f s).chan c).grant = (s.chan c).grant := by
    rcases hsteps with hsame | ⟨p, hsoon⟩
    · rw [hsame]
    · rw [hsoon, chan_setHighSoon, if_pos rfl, (judgeAbove_writes ..).chan_eq]
  have hmeter (n : Nat) (hn : n ≤ closureAllowance rate k.strokeTime) : meterHalf c i n (levelSteps .change c i f s) = levelSteps .change c i f s := by
    have hpos := ha.meter
    unfold meterHalf
    rw [hwork.entry]
    refine if_neg fun hc => absurd hc.1 (not_le.mpr ?_)
    rw [hrem]
    unfold meterMargin at hpos ⊢
    omega
  obtain ⟨now, q, n, half, hjudged⟩ : ∃ now q n half, judgeMargin .change c i f s
      = (levelSteps .change c i f s).modEntry i fun e => e.recorded now q n half := by
    refine ⟨(levelSteps .change c i f s).now, s.marginRate c f .change,
      closureAllowance (s.marginRate c f .change) (s.chanConfig c).strokeTime, s.evalHalf c f .change, ?_⟩
    rw [judgeMargin_eq, hmeter _ (by rw [h.config]; exact hclose)]
    exact writeMargin_eq ..
  have hgiven : (judgeMargin .change c i f s).given = s.given := by
    have hactive : s.activeEntry c = some (i, f) := activeEntry_eq_some_iff.mpr ⟨hf.current, hf.active⟩
    rw [← hf.engaged.evaluate_self hactive]
    exact given_evaluate ..
  refine ⟨⟨f.recorded now q n half, by rw [hjudged]; exact hwork.modEntry (g := fun e => e.recorded now q n half) ⟨rfl, rfl, rfl⟩, hfe⟩,
    h.read.of_readings (judgeMargin_moves ..).readings, ?_, ?_, ?_⟩
  · rw [hjudged]; exact hchan.trans_le h.grant
  · have hcounts := congrArg Counts.rate (congrFun (congrArg Given.counts hgiven) c)
    rw [show ((judgeMargin .change c i f s).chan c).meter.rate = (s.chan c).meter.rate from hcounts]
    exact h.measured
  · exact (congrArg (fun g : Given => g.config.channels.get c) hgiven).trans h.config

/-! ### The evaluations that wait (R111) -/

theorem State.Fills.evaluate (ha : e.Allows rate g d x vNow vHi k) (h : s.Fills c i e rate g d x vNow vHi k) (o : Chan) :
    (evaluate .change o s).Fills c i e rate g d x vNow vHi k := by
  obtain ⟨f, hf, hfe⟩ := h.work
  by_cases ho : o = c
  case pos =>
    subst ho
    rw [hf.engaged.evaluate_self (activeEntry_eq_some_iff.mpr ⟨hf.current, hf.active⟩)]
    exact judgeMargin_fills ha h hf hfe
  case neg =>
    obtain ⟨hstage, htank, -, hplan, hslug, -⟩ := kept_of_unmargined hfe
    have hspare := evaluate_spares ho .change s
    have hgiven := given_evaluate .change o s
    have hcap : s.capOf c ≤ rate := by
      rw [capOf_at hf (by rw [htank]; exact h.read) ((settling_of_slug hslug).trans ha.unsettled), h.config, hplan, hstage]
      exact ha.request
    refine ⟨⟨f, ⟨?_, hf.active, hf.noEnd, ?_⟩, hfe⟩, h.read.of_readings (evaluate_moves ..).readings, ?_, ?_, ?_⟩
    · rw [current_of_own hspare.own]; exact hf.current
    · rw [hspare.staysAt.watched]; exact hf.watched
    · exact hspare.grant.trans (max_le h.grant hcap)
    · have hcounts := congrArg Counts.rate (congrFun (congrArg Given.counts hgiven) c)
      rw [show ((Machine.evaluate .change o s).chan c).meter.rate = (s.chan c).meter.rate from hcounts]
      exact h.measured
    · exact (congrArg (fun g : Given => g.config.channels.get c) hgiven).trans h.config

theorem State.Fills.runEvals (ha : e.Allows rate g d x vNow vHi k) (m : Nat) {s : State} (h : s.Fills c i e rate g d x vNow vHi k) :
    (runEvals m s).Fills c i e rate g d x vNow vHi k := by
  induction m generalizing s with
  | zero => exact h
  | succ m ih =>
    unfold Machine.runEvals
    split
    case h_1 => exact h
    case h_2 o rest _ =>
      have hrest : State.Fills c i e rate g d x vNow vHi k { s with evals := rest } := by
        obtain ⟨⟨f, hf, hfe⟩, hread, hgrant, hmeasured, hconfig⟩ := h
        exact ⟨⟨f, hf.of_same rfl rfl, hfe⟩, hread.of_readings rfl, hgrant, hmeasured, hconfig⟩
      exact ih (hrest.evaluate ha o)

/-! PROOF. The close of a settling at a served reading, and O44 (R53 to R68). -/


variable {P : List Part} {s t v w y z : State} {u : TankNo} {c o : Chan} {i j : EntryId} {e f : Entry} {n m l x vNow vHi rate aClose : Nat}
  {d : TankDecl} {a b : Stage} {p hi hihi : Bool} {q : Quality} {body : List Byte} {half : LevelHalf} {g : LevelState}
  {k : ChannelConfig}

/-! ### The rates (R55, R65) -/

/-- The lower the stage, the lower what the ladder leaves of a limit (R65). -/
theorem capped_stage_anti (h : a.rank ≤ b.rank) (m n : Nat) : capped m (stageCap n (some b)) ≤ capped m (stageCap n (some a)) := by
  have hmin : min m n ≤ m := Nat.min_le_left ..
  have hzero : min m 0 = 0 := Nat.min_zero m
  cases a <;> cases b <;> simp_all [capped, stageCap, Stage.rank]

/-- The part at a settling's close: kind and rate of its evaluation (R53, R55, R68). -/
theorem servedAt_closes (hs : s.Serves c u i e) (hd : (s.tank u).decl = some d) (hx : s.LeavesLevel u d l q hi x) (hg : s.GrantsOk)
    (ha : e.stage = some a) (hset : e.settling = true) (hlen : (s.tankAfter u l q).window.length = 8)
    (hlevel : (s.tankAfter u l q).levelState.settled = true) (hhold : (s.chan c).holds.settling = true) (hev : s.evals = []) :
    (servedAt u l q hi hihi s).readingKind u e = .settlingEnd
      ∧ (servedAt u l q hi hihi s).marginRate c e .settlingEnd = max (max (s.chan c).grant (min (s.chan c).meter.rate 20000))
          (capped (min e.planRate (s.chanConfig c).hoseMaxRate) (stageCap d.toppingRate (some a))) := by
  have hread := congrFun (readings_servedAt u l q hi hihi s) u
  have hsame := readTaken_same u l q hi hihi s
  obtain ⟨hstate, -⟩ := readTaken_served (hihi := hihi) hd hx
  have hwindow : ((servedAt u l q hi hihi s).tank u).window = (s.tankAfter u l q).window := by
    have h1 : ((servedAt u l q hi hihi s).tank u).readings.window = ((readTaken u l q hi hihi s).tank u).readings.window := congrArg Tank.window hread
    have h2 := congrArg Tank.window hsame
    exact h1.trans h2
  have hdecl : ((servedAt u l q hi hihi s).tank u).decl = some d := by
    have h1 := congrArg Declared.decl (congrFun (congrArg Given.declared (given_servedAt u l q hi hihi s)) u)
    exact h1.trans hd
  have hgiven := given_servedAt u l q hi hihi s
  have hrate : ((servedAt u l q hi hihi s).chan c).meter.rate = (s.chan c).meter.rate :=
    congrArg Counts.rate (congrFun (congrArg Given.counts hgiven) c)
  have hconf : (servedAt u l q hi hihi s).chanConfig c = s.chanConfig c := congrArg (fun g : Given => g.config.channels.get c) hgiven
  obtain ⟨-, hzero⟩ := servedAt_settling (hihi := hihi) hs hx hg hhold hev
  have hnone : (s.chan c).grant = 0 := Channel.grant_of_not_asks (Channel.asks_of_settling hhold (hg.2.2 c)) (hg.2.2 c)
  refine ⟨?_, ?_⟩
  · unfold State.readingKind State.settlingEnds
    rw [hset, hwindow, hlen, (Tank.level_of_readings hread).1.trans hstate, hlevel]
    rfl
  · have hmargin : (servedAt u l q hi hihi s).marginRate c e .settlingEnd
        = max (max ((servedAt u l q hi hihi s).chan c).grant (min ((servedAt u l q hi hihi s).chan c).meter.rate 20000))
          (capped (min e.planRate ((servedAt u l q hi hihi s).chanConfig c).hoseMaxRate)
            (stageCap ((servedAt u l q hi hihi s).topRate e.tank) e.stage)) := rfl
    have htop : (servedAt u l q hi hihi s).topRate u = d.toppingRate := by unfold State.topRate; rw [hdecl]
    rw [hmargin, hzero, hrate, hconf, hs.2.2.2.1, htop, ha, hnone]

theorem blindTimer_servedAt (hs : s.Serves c u i e) (hx : s.LeavesLevel u d l q hi x) :
    ((servedAt u l q hi hihi s).tank u).blindTimer = none := by
  rw [servedAt_eq (hihi := hihi) hs hx, (removeHold_writes c _).tank_eq, tank_modTank, if_pos rfl]

theorem Reconciled.engaged (h : Reconciled u c i z y) (hz : z.Engaged c i (z.chan c)) : y.Engaged c i (y.chan c) := by
  obtain ⟨-, -, -, -, -, b, hchan⟩ := h.keeps
  obtain ⟨f, hf, ha⟩ := hz.entry
  obtain ⟨f', hf', hfe⟩ := h.entry (current_live hf).1
  obtain ⟨-, -, hstate, hend, -⟩ := kept_of_unreconciled hfe
  refine ⟨⟨⟨f', ?_, hstate.trans ha⟩, by rw [hchan]; exact hz.busy, .refl _⟩, fun g hg hn => ?_⟩
  · exact current_eq_some_iff.mpr ⟨h.currentId.trans (current_eq_some_iff.mp hf).1, hf'⟩
  · rw [hf'] at hg
    cases hg
    rw [hchan]
    exact hz.ends f (current_live hf).1 (by rw [← hend]; exact hn)

/-! ### The judged part (R54) -/

/-- The level steps of a settling's close, at the rate of its evaluation (R55, R68). -/
theorem levelSteps_closes (hs : s.Serves c u i e) (hd : (s.tank u).decl = some d) (hx : s.LeavesLevel u d l q hi x) (hg : s.GrantsOk)
    (ha : e.stage = some a) (hna : a ≠ .final) (hset : e.settling = true) (hlen : (s.tankAfter u l q).window.length = 8)
    (hlevel : (s.tankAfter u l q).levelState.settled = true) (hhold : (s.chan c).holds.settling = true) (hev : s.evals = [])
    (hn : (s.tankAfter u l q).volume x = some vNow) (hv : (s.tankAfter u l q).volume d.hHi = some vHi)
    (hr : rate = max (max (s.chan c).grant (min (s.chan c).meter.rate 20000))
      (capped (min e.planRate (s.chanConfig c).hoseMaxRate) (stageCap d.toppingRate (some a))))
    (hc : aClose = closureAllowance rate (s.chanConfig c).strokeTime)
    (hh : half = halfOf (s.tankAfter u l q).levelState d x vNow vHi rate aClose (s.chanConfig c).hoseDrain) :
    ∃ v, judgedAt u l q hi hihi c i e s = writeMargin i rate aClose (some half) (meterHalf c i aClose v) ∧ v.Engaged c i (v.chan c)
      ∧ (v.chan c).holds.settling = false
      ∧ (half.computed = .final ∨ slugSize d.slugVolume half.m < 100 → ∃ f p, v.RestsAt c i f p
          ∧ f.stage = some .final ∧ f.endPending = some .levelFinal ∧ f.slug = some { phase := .idle, size := none, base := none })
      ∧ (half.computed ≠ .final → 100 ≤ slugSize d.slugVolume half.m →
          v.AtWork c i (({ e with stage := some (a.lower half.computed) } : Entry).slugged (slugSize d.slugVolume half.m)) ∧ (v.chan c).grant ≤ rate) := by
  obtain ⟨hkind, hrate⟩ := servedAt_closes (hihi := hihi) hs hd hx hg ha hset hlen hlevel hhold hev
  have hwork := servedAt_atWork (hihi := hihi) hs hx
  obtain ⟨hmute, -⟩ := servedAt_settling (hihi := hihi) hs hx hg hhold hev
  have hconf : (servedAt u l q hi hihi s).chanConfig c = s.chanConfig c :=
    congrArg (fun g : Given => g.config.channels.get c) (given_servedAt u l q hi hihi s)
  have hread : (servedAt u l q hi hihi s).ReadAs e.tank (s.tankAfter u l q).levelState d x vNow vHi := by
    rw [hs.2.2.2.1]
    exact (readTaken_readAs hd hx hn hv).of_readings (readings_servedAt ..)
  rw [← hr] at hrate
  unfold judgedAt
  rw [hkind, judgeMargin_eq, hrate, hconf, ← hc]
  generalize servedAt u l q hi hihi s = w at *
  have hhalf : w.evalHalf c e .settlingEnd = some half := by
    rw [evalHalf_readAs hread rfl rfl, hrate, hconf, ← hc, hh]
  have hsteps := levelSteps_readAs (c := c) (i := i) (a := .settlingEnd) hread rfl hhalf
  have hread' := hread.of_readings (levelSteps_moves .settlingEnd c i e w).readings
  have hgiven : (levelSteps .settlingEnd c i e w).chanConfig c = s.chanConfig c := by
    have hlevel : Writes judgeParts w (levelSteps .settlingEnd c i e w) := by
      rw [hsteps]
      exact levelEffects_writes (.of_entry hwork.entry (by rw [hwork.active]; rfl))
    exact (congrArg (fun g : SiteConfig => g.channels.get c) hlevel.config_eq).trans hconf
  have hengaged := (hwork.engaged.levelSteps .settlingEnd e).rebase
  obtain ⟨hoff, hfinal, hslug⟩ := levelEffects_settling (half := half) (d := d) hwork hmute ha hset hna e.tank
  rw [← hsteps] at hoff hfinal hslug
  refine ⟨levelSteps .settlingEnd c i e w, by rw [hhalf], hengaged, hoff, hfinal, fun hf hsize => ?_⟩
  obtain ⟨hat, hgrant⟩ := hslug hf hsize
  refine ⟨hat, hgrant.trans ?_⟩
  rw [capOf_at hat hread' rfl, hgiven, hr]
  exact (capped_stage_anti (Stage.rank_le_lower a half.computed).1 ..).trans (Nat.le_max_right ..)

/-- What a settling's close leaves judged: SETTLING off; the end at FINAL; or the slug begun, at its rate (R54, R60). -/
theorem closes_judged (hengaged : v.Engaged c i (v.chan c)) (hoff : (v.chan c).holds.settling = false)
    (hz : z = writeMargin i rate aClose (some half) (meterHalf c i aClose v)) :
    (z.chan c).holds.settling = false ∧ z.Engaged c i (z.chan c)
      ∧ (∀ f p, v.RestsAt c i f p → f.endPending ≠ none → ∃ g, z.RestsAt c i g p ∧ g.chan = c ∧ g.unmargined = f.unmargined)
      ∧ (∀ f, v.AtWork c i f → 0 < meterMargin f.remaining aClose → ∃ g, z.AtWork c i g ∧ g.unmargined = f.unmargined ∧ z.chan = v.chan) := by
  have hmeter := hengaged.meterHalf aClose
  subst hz
  refine ⟨hmeter.keeps.settling hoff, ?_, fun f p hrests hn => ?_, fun f hat hm => ?_⟩
  · rw [writeMargin_eq]
    exact (hmeter.modEntry (g := fun e => e.recorded _ rate aClose (some half)) fun _ => ⟨rfl, rfl, rfl⟩).rebase
  · have htested := meterHalf_rests hrests aClose
    rw [metertested_ended hn] at htested
    obtain ⟨f0, hf0, -⟩ := hengaged.entry
    have hsame := (current_live hf0).1
    rw [hrests.entry] at hsame
    cases hsame
    exact ⟨_, writeMargin_rests htested rate aClose (some half), (current_live hf0).2.1, rfl⟩
  · have hon : meterHalf c i aClose v = v := by
      unfold meterHalf
      rw [hat.entry]
      exact if_neg fun h => absurd h.1 (not_le.mpr hm)
    rw [hon, writeMargin_eq]
    exact ⟨_, hat.modEntry (g := fun e => e.recorded _ rate aClose (some half)) ⟨rfl, rfl, rfl⟩, rfl, rfl⟩

/-! PROOF. O44: the two halves put together (R53 to R68). -/


variable {P : List Part} {s t v w y z : State} {u : TankNo} {c o : Chan} {i j : EntryId} {e f : Entry} {n m l x vNow vHi rate aClose : Nat}
  {d : TankDecl} {a b : Stage} {p hi hihi : Bool} {q : Quality} {body : List Byte} {half : LevelHalf} {g : LevelState}
  {k : ChannelConfig}

/-- The slug begun at a settling's close allows the rate of its evaluation (R55, R60, R63). -/
theorem allows_slugged {size : Nat}
    (hf : f.unreconciled.unmargined = (({ e with stage := some (a.lower half.computed) } : Entry).slugged size).unreconciled.unmargined)
    (hr : capped (min e.planRate k.hoseMaxRate) (stageCap d.toppingRate (some a)) ≤ rate)
    (hh : half = halfOf g d x vNow vHi rate (closureAllowance rate k.strokeTime) k.hoseDrain)
    (hmm : 0 < meterMargin e.remaining (closureAllowance rate k.strokeTime)) : f.Allows rate g d x vNow vHi k := by
  have hstage : f.stage = some (a.lower half.computed) := by
    have h := congrArg Entry.stage hf
    exact h
  have hrem : f.remaining = e.remaining := by
    have h := congrArg Entry.remaining hf
    exact h
  have hplan : f.planRate = e.planRate := by
    have h := congrArg Entry.planRate hf
    exact h
  have hset : f.settling = false := by
    have h := congrArg Entry.settling hf
    exact h
  obtain ⟨h1, h2⟩ := Stage.rank_le_lower a half.computed
  exact {
    stage := ⟨_, hstage, by rw [← hh]; exact h2⟩
    meter := by rw [hrem]; exact hmm
    request := by rw [hplan, hstage]; exact (capped_stage_anti h1 ..).trans hr
    unsettled := hset }

theorem given_judgedAt (hs : s.Serves c u i e) (hx : s.LeavesLevel u d l q hi x) : (judgedAt u l q hi hihi c i e s).given = s.given := by
  have hwork := servedAt_atWork (hihi := hihi) hs hx
  unfold judgedAt
  rw [← hwork.engaged.evaluate_self (activeEntry_eq_some_iff.mpr ⟨hwork.current, hwork.active⟩), given_evaluate, given_servedAt]

/-- What a settling's close at a served reading leaves (R63 to R68). -/
theorem level_closes (h : s.TakesLevel body u d l q hi hihi) (hx : s.LeavesLevel u d l q hi x) (hs : s.Serves c u i e) (hg : s.GrantsOk)
    (ha : e.stage = some a) (hna : a ≠ .final) (hset : e.settling = true) (hlen : (s.tankAfter u l q).window.length = 8)
    (hlevel : (s.tankAfter u l q).levelState.settled = true) (hhold : (s.chan c).holds.settling = true)
    (hn : (s.tankAfter u l q).volume x = some vNow) (hv : (s.tankAfter u l q).volume d.hHi = some vHi)
    (hq : e.startQuality ≠ some .steady ∨ e.strikes = 0)
    (hr : rate = max (max (s.chan c).grant (min (s.chan c).meter.rate 20000))
      (capped (min e.planRate (s.chanConfig c).hoseMaxRate) (stageCap d.toppingRate (some a))))
    (hc : aClose = closureAllowance rate (s.chanConfig c).strokeTime)
    (hh : half = halfOf (s.tankAfter u l q).levelState d x vNow vHi rate aClose (s.chanConfig c).hoseDrain)
    (hmm : 0 < meterMargin e.remaining aClose) :
    ∃ f, (levelEnd body u l q hi hihi s).entry i = some f ∧ ((levelEnd body u l q hi hihi s).chan c).holds.settling = false
      ∧ ((levelEnd body u l q hi hihi s).tank u).blindTimer = none
      ∧ (half.computed = .final ∨ slugSize d.slugVolume half.m < 100 → f.stage = some .final ∧ f.endPending = some .levelFinal
          ∧ ((levelEnd body u l q hi hihi s).chan c).state = .closing ∧ f.slug = some { phase := .idle, size := none, base := none })
      ∧ (half.computed ≠ .final → 100 ≤ slugSize d.slugVolume half.m → f.stage = some (a.lower half.computed) ∧ f.endPending = none
          ∧ f.slug = some { phase := .delivering, size := some (slugSize d.slugVolume half.m), base := some e.delivered }) := by
  obtain ⟨y, r, r', -, hrec, hend⟩ := levelEnd_reconciled h hx hs hn hq
  obtain ⟨-, hchan, -, hconf, hevals, -⟩ := refreshLink_plant s
  have hdevice : (refreshLink .ship s).chanConfig c = s.chanConfig c := congrArg (fun g : SiteConfig => g.channels.get c) hconf
  have hg' : (refreshLink .ship s).GrantsOk := by rw [refreshLink_eq_withPorts]; exact hg
  have hafter := tankAfter_refreshLink s u l q
  have hs' := Serves_refreshLink hs
  have hx' := LeavesLevel_refreshLink hx
  have hd' := decl_refreshLink h.2.2.1
  obtain ⟨v, hjudged, hengaged, hoff, hfinal, hslug⟩ := levelSteps_closes (hihi := hihi) (rate := rate) (aClose := aClose) (half := half)
    hs' hd' hx' hg' ha hna hset (by rw [hafter]; exact hlen) (by rw [hafter]; exact hlevel) (by rw [hchan]; exact hhold)
    (by rw [hevals]; exact h.1.1.2) (by rw [hafter]; exact hn) (by rw [hafter]; exact hv) (by rw [hchan, hdevice]; exact hr)
    (by rw [hdevice]; exact hc) (by rw [hafter, hdevice]; exact hh)
  obtain ⟨hzoff, hzengaged, hzrests, hzwork⟩ := closes_judged hengaged hoff hjudged
  obtain ⟨-, hygiven, -, hyreads, hyblind, gain, hychan⟩ := hrec.keeps
  have hyoff : ((y.withPorts r r').chan c).holds.settling = false := by
    show (y.chan c).holds.settling = false
    rw [hychan]; exact hzoff
  have hyengaged : (y.withPorts r r').Engaged c i ((y.withPorts r r').chan c) := (hrec.engaged hzengaged).of_same rfl (.refl _)
  have hend' := State.Engaged.effect (g := fun _ => y.withPorts r r') (s := s) hyengaged
  have hblind : ((effect (fun _ => y.withPorts r r') s).tank u).blindTimer = none := by
    refine effect_keeps (I := fun w => (w.tank u).blindTimer = none) (fun _ _ hm hw => hm.keepsUnblinded u hw) (fun _ _ hw => hw) ?_
    exact hyblind ((judgeMargin_moves ..).keepsUnblinded u (blindTimer_servedAt (hihi := hihi) hs' hx'))
  have hreads : y.ReadAs u (s.tankAfter u l q).levelState d x vNow vHi := by
    rw [← hafter]
    exact (readTaken_readAs hd' hx' (by rw [hafter]; exact hn) (by rw [hafter]; exact hv)).of_readings
      (hyreads.trans (readings_judgedAt ..))
  rw [hend]
  by_cases hcase : half.computed = .final ∨ slugSize d.slugVolume half.m < 100
  case pos =>
    obtain ⟨f, p, hrests, hstage, hpend, hidle⟩ := hfinal hcase
    obtain ⟨f', hrests', hown, hsame⟩ := hzrests f p hrests (by rw [hpend]; simp)
    obtain ⟨f'', hsame', hat⟩ := hrec.rests hrests'
    obtain ⟨hstage', -, -, -, hslug', hend''⟩ := kept_of_unmargined hsame
    obtain ⟨hown', -, -, hpend', hidle', hst', -⟩ := kept_of_unreconciled hsame'
    have hpending : f''.endPending = some .levelFinal := hpend'.trans (hend''.trans hpend)
    have hports : (y.withPorts r r').RestsAt c i f'' p := hat.of_same rfl rfl rfl
    obtain ⟨hentry, -, hends⟩ := State.RestsAt.effect (g := fun _ => y.withPorts r r') (s := s) hports (hown'.trans hown)
    refine ⟨f'', hentry, hend'.keeps.settling hyoff, hblind, fun _ => ⟨hst'.trans (hstage'.trans hstage), hpending,
      (hends (by rw [hpending]; simp)).1, hidle'.trans (hslug'.trans hidle)⟩, fun hf hsize => ?_⟩
    rcases hcase with hc | hc
    · exact absurd hc hf
    · omega
  case neg =>
    rw [not_or, not_lt] at hcase
    obtain ⟨hat, hgrant⟩ := hslug hcase.1 hcase.2
    obtain ⟨f, hf, hfe, hzchan⟩ := hzwork _ hat hmm
    obtain ⟨f', hfe', hf'⟩ := hrec.atWork hf
    have hsame : f'.unreconciled.unmargined
        = (({ e with stage := some (a.lower half.computed) } : Entry).slugged (slugSize d.slugVolume half.m)).unreconciled.unmargined := by
      have h1 := congrArg Entry.unmargined hfe'
      have h2 := congrArg Entry.unreconciled hfe
      exact h1.trans h2
    rw [hc] at hh hmm
    have hallows := allows_slugged hsame (by rw [hr]; exact Nat.le_max_right ..) hh hmm
    have hgiven : y.given = (refreshLink .ship s).given := hygiven.trans (given_judgedAt hs' hx')
    have hcounts : (y.chan c).meter.rate = (s.chan c).meter.rate := by
      rw [← hchan]
      exact congrArg Counts.rate (congrFun (congrArg Given.counts hgiven) c)
    have hconfig : y.chanConfig c = s.chanConfig c := (congrArg (fun g : Given => g.config.channels.get c) hgiven).trans hdevice
    have htank : f'.tank = u := by
      have h1 := congrArg Entry.tank hsame
      exact h1.trans hs.2.2.2.1
    have hfills : (y.withPorts r r').Fills c i f' rate (s.tankAfter u l q).levelState d x vNow vHi (s.chanConfig c) := by
      refine ⟨⟨f', hf'.of_same rfl rfl, rfl⟩, ?_, ?_, ?_, hconfig⟩
      · rw [htank]; exact hreads.of_readings rfl
      · show (y.chan c).grant ≤ rate
        rw [hychan, hzchan]
        exact hgrant
      · show min (y.chan c).meter.rate 20000 ≤ rate
        rw [hcounts, hr]
        exact (Nat.le_max_right ..).trans (Nat.le_max_left ..)
    obtain ⟨⟨f'', hf'', hfe''⟩, -⟩ := hfills.runEvals hallows evalBudget
    obtain ⟨hstage, -, -, -, hslug', hpend⟩ := kept_of_unmargined hfe''
    refine ⟨f'', hf''.entry, hend'.keeps.settling hyoff, hblind, fun hc => ?_, fun _ _ => ⟨hstage.trans ?_, hf''.noEnd, hslug'.trans ?_⟩⟩
    · rcases hc with hc | hc
      · exact absurd hc hcase.1
      · exact absurd hc (not_lt.mpr hcase.2)
    · have h := congrArg Entry.stage hsame
      exact h
    · have h := congrArg Entry.slug hsame
      exact h

/-! ### The statement (O44) -/

/-- The prospective rate of a stage (R55). -/
theorem capped_prospective (a : Stage) (m n : Nat) : capped m (stageCap n (some a))
    = (match a with | .full => m | .topping | .slug => min m n | .final => 0) := by
  cases a with
  | full | topping | slug => rfl
  | final => exact Nat.min_zero m

theorem Stage.lower_eq (a b : Stage) : a.lower b = if a.rank ≤ b.rank then b else a := by cases a <;> cases b <;> rfl

/-- Settles O44: the entry not settling by `level_stage` and `level_rests`, the close of a settling by `level_closes`. -/
theorem servedReadingEvaluatesTheMargin : Obligations.ServedReadingEvaluatesTheMargin := by
  intro body u d l q hi hihi c i e a x vNow vHi s h hx hs hg ha hn hv hq plain limit prospective ends rate aClose m mm time computed size figures
  obtain ⟨hexec, hans⟩ := level_answered h
  refine ⟨fun hset => ?_, fun hends hhold hlevel hna hmm => ?_⟩
  · have hrate : rate = plain := by
      have hno : ends = false := by
        show (e.settling && _) = false
        rw [hset, Bool.false_and]
      show (if ends then max plain prospective else plain) = plain
      rw [hno]; rfl
    obtain ⟨f, b, hf, hdel, hb, hrank, hcomputed⟩ := level_stage (hi := hi) (hihi := hihi) h hx hs hg ha hn hv hq hset hrate
    refine ⟨_, f, hexec, hans, hf, hdel, ⟨b, hb, hrank, hcomputed⟩, fun hcalm => ?_⟩
    obtain ⟨f', hf', hsame, hsoon, hpend⟩ := level_rests (aClose := aClose) (half := figures) h hx hs hg ha hn hv hq hset hrate rfl rfl hcalm
    rw [hf] at hf'
    cases hf'
    obtain ⟨h1, h2, h3, h4, h5, h6, h7, h8⟩ := judged_facts ha hs.2.2.2.2.2 hsame
    exact ⟨h1, hsoon.trans (soon_timeToHigh ..), h2, h3, h4, h5, h6, h7, h8, hpend⟩
  · obtain ⟨hset, hlen⟩ := Bool.and_eq_true_iff.mp (show (e.settling && (s.tankAfter u l q).window.length == 8) = true from hends)
    have hrate : rate = max (max (s.chan c).grant (min (s.chan c).meter.rate 20000))
        (capped (min e.planRate (s.chanConfig c).hoseMaxRate) (stageCap d.toppingRate (some a))) := by
      rw [capped_prospective]
      show (if ends then max plain prospective else plain) = _
      rw [hends]; rfl
    obtain ⟨f, hf, hoff, hblind, hsmall, hsized⟩ := level_closes (aClose := aClose) (half := figures) h hx hs hg ha hna hset (by simpa using hlen)
      hlevel hhold hn hv hq hrate rfl rfl hmm
    refine ⟨_, f, hexec, hans, hf, hoff, hblind, hsmall, fun hf hsize => ?_⟩
    rw [← Stage.lower_eq]
    exact hsized hf hsize

end Sys2Proof.Machine
